-- ==== Sys2Proof/Word.lean ====
section
/-!
DEFINITION. Words of the part: bytes and samples (R1, R209), and the bound of a block address (R3).
-/

namespace Sys2Proof

/-- One byte of the host link or of a deck link (R209). -/
abbrev Byte := BitVec 8

/-- A sample: 16 bits, two's complement, read as `-32768..32767` by `BitVec.toInt` (R1). -/
abbrev Sample := BitVec 16

/-- The four-bit tag of a deck command (R13). -/
abbrev Tag := BitVec 4

end Sys2Proof
end

