-- ==== Sys2Proof/Syntax.lean ====
section
/-!
DEFINITION. The commands of the block: one constructor of `Instr` for each row of the table of operations and events.
The operands of a host command are the fields of its payload as R210 lays them out, as received: a byte that names a
deck, a zone or a named value stays a byte, so that a value outside its list can be refused by its owner (R209).
The operands of a transport report are the deck link it arrives on and the fields of its frame (R214, R215).
-/

namespace Sys2Proof

/-- The two decks (0.6, "Units of the part"). -/
inductive Deck where
  | a | b
  deriving DecidableEq, Repr

/-- The two zones (0.6). -/
inductive ZoneId where
  | one | two
  deriving DecidableEq, Repr

/-- The two channels of a deck link (chapter 2). -/
inductive Channel where
  | control | block
  deriving DecidableEq, Repr

/-- The level of a tray line: high while the drawer is closed (section 9.2). -/
inductive Level where
  | opened | closed
  deriving DecidableEq, Repr

/-- The level of the reset pin (R208) or of the attention line (R201). -/
inductive Pin where
  | low | high
  deriving DecidableEq, Repr

/-- One track entry of an INDEX report as received: number, start, kind byte (R212, R214). -/
structure TrackField where
  number : Byte
  start  : BitVec 24
  kind   : Byte
  deriving DecidableEq, Repr

/-- The ten values of SET_DECK after its deck byte (R210, kind 0BH). -/
structure DeckArgs where
  high      : BitVec 16
  low       : BitVec 16
  floor     : BitVec 16
  window    : BitVec 16
  lead      : BitVec 16
  threshold : BitVec 16
  limit     : Byte
  overlap   : Byte
  gapLimit  : Byte
  seekTime  : BitVec 16
  deriving DecidableEq, Repr

/-- The values of SET_ZONE after its zone byte (R210, kind 0EH). -/
structure ZoneArgs where
  source  : Byte
  policy  : Byte
  start   : BitVec 16
  restart : BitVec 16
  step    : BitVec 16
  period  : Byte
  span    : Byte
  recover : BitVec 16
  deriving DecidableEq, Repr

/-- The six values of SET_SHOCK (R210, kind 17H). -/
structure ShockArgs where
  enable : Byte
  centre : BitVec 16
  ton    : BitVec 16
  toff   : BitVec 16
  latch  : Byte
  guard  : BitVec 16
  deriving DecidableEq, Repr

/-- The content of a delivery (R215): whether its check word holds, the address-valid flag, the address, the 1,176
samples in position order (R1) and their 1,176 doubt marks (R2). -/
structure DeliveryArgs where
  good    : Bool
  valid   : Bool
  addr    : BitVec 24
  samples : List Sample
  marks   : List Bool
  deriving DecidableEq, Repr

/-- The commands and events of the part, in the order of the table of operations and events. -/
inductive Instr where
  | powerOnReset (pin : Pin)
  | softReset
  | hostFrameComplete (b : Byte)
  | interByteTimerExpiry
  | replySent
  | ident
  | resetPart
  | takeNotices
  | setNoticeMask (mask : BitVec 16)
  | setPool (capA capB : BitVec 16)
  | standby (settings : Option (Byte × BitVec 16))
  | wake
  | load (deck slot : Byte)
  | unload (deck : Byte)
  | resetDeck (deck : Byte)
  | setDeck (deck : Byte) (v : DeckArgs)
  | queryDeck (deck control : Byte)
  | queryDisc (deck first : Byte)
  | setZone (zone : Byte) (v : ZoneArgs)
  | play (zone : Byte) (first last : BitVec 24)
  | cue (zone : Byte) (range : Option (BitVec 24 × BitVec 24))
  | pause (zone : Byte)
  | unpause (zone : Byte)
  | stop (zone : Byte)
  | setLevel (zone : Byte) (level : BitVec 16)
  | setMark (zone : Byte) (addr : Option (BitVec 24))
  | queryZone (zone control : Byte)
  | setShock (v : ShockArgs)
  | shockReport
  | clearShock
  | setResume (autoResume autoReload : Byte) (rewind : BitVec 16) (debounce : Byte)
  | queryResume (position : Byte)
  | resume (zone : Byte)
  | forget (fingerprint : Option (BitVec 32))
  | taken (d : Deck) (tag : Tag)
  | declined (d : Deck) (tag : Tag) (reason : Byte)
  | landed (d : Deck) (tag : Tag) (addr : BitVec 24)
  | seekMiss (d : Deck) (tag : Tag)
  | trackSlip (d : Deck) (tag : Tag) (addr : BitVec 24)
  | discIn (d : Deck) (tag : Tag)
  | slotEmpty (d : Deck) (tag : Tag)
  /-- `ragged` says that the report's content is not of 4 + 5j bytes (R214). -/
  | index (d : Deck) (tag : Tag) (count : Byte) (leadOut : BitVec 24) (entries : List TrackField) (ragged : Bool)
  | stowed (d : Deck) (tag : Tag)
  | parked (d : Deck) (tag : Tag)
  | deckTrouble (d : Deck) (code : Byte)
  | controlFrameDiscard (d : Deck)
  | deckLinkByteTimeout (d : Deck) (ch : Channel)
  | delivery (d : Deck) (tag : Tag) (v : DeliveryArgs)
  | ackTimerExpiry (d : Deck)
  | completionTimerExpiry (d : Deck)
  | deliveryGapTimerExpiry (d : Deck)
  | backoffTimerExpiry (d : Deck)
  | frameEvent
  | blockBoundary
  | rampStep (z : ZoneId)
  | concealClear (z : ZoneId)
  | shockConversionComplete (v : BitVec 10)
  | guardTimerExpiry
  | trayLineChange (d : Deck) (level : Level)
  | trayDebounceExpiry (d : Deck)
  | wakeTimerExpiry
  | standbyEntryComplete
  | hostByteReceived (b : Byte)
  | deckLinkByteReceived (d : Deck) (ch : Channel) (b : Byte)
  deriving DecidableEq, Repr

end Sys2Proof
end

