-- ==== Sys2Proof/Config.lean ====
section
/-!
DEFINITION. Constants the manual fixes for the part, and the values it leaves open. An open value is an opaque constant:
nothing in Lean can evaluate it, so a claim holds for every value of it.
-/

namespace Sys2Proof.Config

/-- Frames of a block (R1). -/
def framesPerBlock : Nat := 588

/-- Samples of a block (R1). -/
def samplesPerBlock : Nat := 1176

/-- Slots of the Slot Pool (R60). -/
def poolSlots : Nat := 1536

/-- The highest block address (R3). -/
def lastAddress : Nat := 449999

/-- Where a statistic saturates (0.6, R59, R107, R152). -/
def statisticTop : Nat := 65535

/-- The unity ramp and unity gain (R112, R149). -/
def unity : Nat := 32768

/-- The fast ramp step (R112, R147). -/
def fastStep : Nat := 4096

/-- Entries of a repair list (R84). -/
def repairEntries : Nat := 32

/-- Records of the resume table (R175). -/
def resumeRecords : Nat := 8

/-- DESIGN CHOICE, safe (log entry 10): free value. Where the manual lets two things of one event come in either order
(R175, R197, R198, R206), `laterFirst n` says for the n-th such case whether the second comes first. -/
opaque laterFirst : Nat → Bool

/-- DESIGN CHOICE, safe (log entry 28): free value. The byte sent in deck page 0 for "no last magazine slot" (R213): the manual
states none. -/
opaque noSlotByte : Byte

/-- DESIGN CHOICE, safe (log entry 28): free value. The byte sent in deck page 0 for "no decline yet" (R213): the manual
states none. -/
opaque noDeclineByte : Byte

end Sys2Proof.Config
end

