-- ==== Sys2Proof/WellFormed.lean ====
section
/-!
DEFINITION. Which terms of `Instr` are commands that can reach the part. Every payload field is a word of its own width, so
only two forms need a check: a delivery carries exactly one block (R1, R2, R215), and an INDEX report no more entries than its
frame can hold (R214).
-/

namespace Sys2Proof

/-- A delivery is one block: 1,176 samples and 1,176 marks (R1, R2). -/
def DeliveryArgs.wellFormed (v : DeliveryArgs) : Bool :=
  v.samples.length == Config.samplesPerBlock && v.marks.length == Config.samplesPerBlock

/-- The checks of this file, for every command. -/
def Instr.wellFormed : Instr → Bool
  | .delivery _ _ v => v.wellFormed
  | .index _ _ _ _ entries _ => decide (entries.length ≤ 99)
  | .powerOnReset _ | .softReset | .hostFrameComplete _ | .interByteTimerExpiry | .replySent | .ident | .resetPart
  | .takeNotices | .setNoticeMask _ | .setPool _ _ | .standby _ | .wake | .load _ _ | .unload _ | .resetDeck _ | .setDeck _ _
  | .queryDeck _ _ | .queryDisc _ _ | .setZone _ _ | .play _ _ _ | .cue _ _ | .pause _ | .unpause _ | .stop _
  | .setLevel _ _ | .setMark _ _ | .queryZone _ _ | .setShock _ | .shockReport | .clearShock | .setResume _ _ _ _
  | .queryResume _ | .resume _ | .forget _ | .taken _ _ | .declined _ _ _ | .landed _ _ _ | .seekMiss _ _
  | .trackSlip _ _ _ | .discIn _ _ | .slotEmpty _ _ | .stowed _ _ | .parked _ _ | .deckTrouble _ _
  | .controlFrameDiscard _ | .deckLinkByteTimeout _ _ | .ackTimerExpiry _ | .completionTimerExpiry _
  | .deliveryGapTimerExpiry _ | .backoffTimerExpiry _ | .frameEvent | .blockBoundary | .rampStep _ | .concealClear _
  | .shockConversionComplete _ | .guardTimerExpiry | .trayLineChange _ _ | .trayDebounceExpiry _ | .wakeTimerExpiry
  | .standbyEntryComplete | .hostByteReceived _ | .deckLinkByteReceived _ _ _ => true

end Sys2Proof
end

