-- ==== Sys2Proof/Machine/State.lean ====
section
/-!
DEFINITION. State of the part as plain data: every register, list, timer, flag and setting the manual gives each block,
the pins, the queue of waiting commands, and the reset state (R37, R38, R82, R108, R136, R153, R166, R185, R202, R203, R208).
A timer is held as running or stopped, with the time it was started for where that time can differ between two starts.
-/

namespace Sys2Proof.Machine

/-! ## Positions, blocks and discs -/

/-- Segment tag 0 (`false`) or 1 (`true`) (R65). -/
abbrev Seg := Bool

/-- A block address with a segment tag: a place in a ring (R84). -/
structure Spot where
  addr : Nat
  seg  : Seg
  deriving DecidableEq, Repr

/-- A play range, start and end used (R10). -/
structure PlayRange where
  first : Nat
  last  : Nat
  deriving DecidableEq, Repr

/-- A block: samples in position order and their doubt marks (R1, R2). -/
structure Block where
  samples : List Sample
  marks   : List Bool
  deriving DecidableEq, Repr

/-- A track entry of a catalogue: number, start, and whether its kind is DATA (R4). -/
structure TrackEntry where
  number : Nat
  start  : Nat
  data   : Bool
  deriving DecidableEq, Repr

/-- A catalogue (R4). The track count N is the length of the list. -/
structure Catalogue where
  entries     : List TrackEntry
  leadOut     : Nat
  fingerprint : BitVec 32
  deriving DecidableEq, Repr

/-- What a DLU holds of a disc (R5). -/
inductive Disc where
  | absent
  | usable (c : Catalogue)
  | unusable (c : Catalogue)
  deriving DecidableEq, Repr

/-! ## Deck Link Unit -/

/-- Deck states, in the order of the table of section 2.5 (R209). -/
inductive DeckState where
  | noDisc | loading | identifying | ready | seeking | streaming | stalled | parking | parked | stowing | fault
  deriving DecidableEq, Repr

/-- Reasons a DECK_STATE notice carries: the NO_DISC reasons of R35, then DISPLACED (R209). -/
inductive DeckReason where
  | reset | emptySlot | declined | unreadable | unloaded | tray | displaced
  deriving DecidableEq, Repr

/-- Fault causes (R33). -/
inductive FaultCause where
  | ackTimeout | mechTimeout | declined | trouble
  deriving DecidableEq, Repr

/-- Cause of the last entry into NO_DISC or FAULT (chapter 2). -/
inductive DeckCause where
  | noDisc (r : DeckReason)
  | fault (c : FaultCause)
  deriving DecidableEq, Repr

/-- Purpose of a PARK (R31). -/
inductive Purpose where
  | tray | standby
  deriving DecidableEq, Repr

/-- Deck commands (R14). A STOW_DISC knows whether UNLOAD sent it, which decides the last magazine slot (R30). -/
inductive DeckCommand where
  | seek (addr : Nat)
  | stall
  | proceed
  | fetchDisc (slot : Nat)
  | readIndex
  | stowDisc (byUnload : Bool)
  | park (purpose : Purpose)
  | linkReset
  deriving DecidableEq, Repr

/-- Who asked for a deck command (section 2.3). -/
inductive Requester where
  | planner | tray | standby | host | dlu
  deriving DecidableEq, Repr

/-- Planner jobs, NONE then the table of R91 (R209). -/
inductive Job where
  | none | playStart | fetch | cueFetch | skipRecovery | repair | voidOver
  deriving DecidableEq, Repr

/-- The slots a repair run re-reads (R39). -/
structure Span where
  first : Nat
  last  : Nat
  seg   : Seg
  deriving DecidableEq, Repr

/-- What the planner gives the Intake Unit when its SEEK or PROCEED is sent (R39, R92). -/
structure RunPlan where
  job    : Job
  target : Spot
  k      : Nat
  span   : Option Span
  deriving DecidableEq, Repr

/-- A request to a DLU; a planner's SEEK or PROCEED brings its run plan (R19, R92). -/
structure Request where
  command : DeckCommand
  from_   : Requester
  plan    : Option RunPlan
  deriving DecidableEq, Repr

/-- Which timer runs for the outstanding command (R15, R16): the acknowledge timer until the acknowledgement, the
completion timer after it. A command without a completion timer is complete at its acknowledgement. -/
inductive CommandTimer where
  | acknowledge | completion
  deriving DecidableEq, Repr

/-- The outstanding command (R14, R15). `limit` is the completion time in ms fixed when the command was sent. -/
structure Outstanding where
  command : DeckCommand
  tag     : Tag
  resends : Nat
  limit   : Nat
  timer   : CommandTimer
  deriving DecidableEq, Repr

/-- One command frame sent on a control channel (R13, R214). -/
structure SentCommand where
  command : DeckCommand
  tag     : Tag
  deriving DecidableEq, Repr

/-- State of a DLU (chapter 2, R37). `byDelivery` says that a delivery landed the SEEK of the run in progress, after which a
LANDED on the run tag is taken (R22). -/
structure Link where
  state       : DeckState
  cause       : DeckCause
  faultCause  : Option FaultCause
  trouble     : Option Nat
  decline     : Option Nat
  outstanding : Option Outstanding
  waiting     : Option Request
  nextTag     : Tag
  runTag      : Option Tag
  gapTimer    : Bool
  lastLanded  : Option Nat
  byDelivery  : Bool
  lastSlot    : Option Nat
  disc        : Disc
  seekTime    : Nat
  resends     : Nat
  stales      : Nat
  declines    : Nat
  sent        : List SentCommand
  controlIn   : Option (List Byte)
  blockIn     : Option (List Byte)
  deriving DecidableEq, Repr

/-! ## Intake Unit -/

/-- Run statuses (R38). -/
inductive RunStatus where
  | closed | opened | abandoned
  deriving DecidableEq, Repr

/-- Match outcomes (R38). -/
inductive MatchOutcome where
  | none | matched | noMatch | ambiguous
  deriving DecidableEq, Repr

/-- The run context (R38). `reached` lists the addresses of the span that have received a positioned delivery in this
run, which the completion test of R101 needs. -/
structure RunContext where
  status     : RunStatus
  runTag     : Tag
  job        : Job
  target     : Nat
  k          : Nat
  span       : Option Span
  anchor     : Option Nat
  lastPlaced : Option Nat
  streak     : Nat
  outcome    : MatchOutcome
  blind      : Bool
  asked      : Bool
  reached    : List Nat
  deriving DecidableEq, Repr

/-- The nine intake statistics (R59). -/
structure IntakeStats where
  placedNew     : Nat
  merged        : Nat
  repaired      : Nat
  unplaced      : Nat
  stray         : Nat
  overflows     : Nat
  disagreements : Nat
  listFull      : Nat
  voided        : Nat
  deriving DecidableEq, Repr

/-- State of an Intake Unit (R38, R45). -/
structure Intake where
  ctx         : RunContext
  abandoned   : Option Spot
  abandonedBy : Nat
  stats       : IntakeStats
  gapLimit    : Nat
  deriving DecidableEq, Repr

/-! ## Slot Pool and Read-Ahead Ring -/

/-- Slot states (R64). -/
inductive SlotState where
  | good | doubtful | repaired | final | missing | void
  deriving DecidableEq, Repr

/-- A slot record with the block its slot stores (R63). The number of the slot cannot be observed (R60) and is not held (DESIGN CHOICE,
safe, log entry 12). -/
structure SlotRecord where
  addr  : Nat
  seg   : Seg
  state : SlotState
  doubt : Nat
  data  : Block
  deriving DecidableEq, Repr

/-- Fetch phases (R71). -/
inductive FetchPhase where
  | idle | current | cue | done
  deriving DecidableEq, Repr

/-- State of a ring, with its deck's share of the Slot Pool (R60, R63, R65, R71, R74, R77, R81). -/
structure Ring where
  cap         : Nat
  high        : Nat
  low         : Nat
  records     : List SlotRecord
  tag         : Seg
  phase       : FetchPhase
  fetchAddr   : Option Nat
  fetchEnd    : Option Nat
  cueCopy     : Option PlayRange
  overflow    : Bool
  flushes     : Nat
  truncations : Nat
  peak        : Nat
  deriving DecidableEq, Repr

/-! ## Read Planner -/

/-- A repair entry (R84). `active` is the state ACTIVE; `ofRun` marks the ACTIVE entry of the REPAIR run in progress and
the parts split from it, each of which counts an attempt when the run ends (R90). -/
structure Entry where
  first    : Nat
  seg      : Seg
  count    : Nat
  missing  : Bool
  attempts : Nat
  active   : Bool
  ofRun    : Bool
  deriving DecidableEq, Repr

/-- Job phases (R91). -/
inductive JobPhase where
  | idle | run | held | backoff
  deriving DecidableEq, Repr

/-- Planner statistics (R107). -/
structure PlannerStats where
  repairRuns : Nat
  runOns     : Nat
  overtaken  : Nat
  abandoned  : Nat
  seekMisses : Nat
  deriving DecidableEq, Repr

/-- State of a planner (section 5.1, R83, R108). -/
structure Planner where
  entries       : List Entry
  job           : Job
  phase         : JobPhase
  target        : Option Spot
  recovery      : Bool
  flushAwaited  : Bool
  seekMisses    : Nat
  voids         : Nat
  backoff       : Bool
  backoffTarget : Option Spot
  lastSlip      : Option Nat
  floor         : Nat
  window        : Nat
  lead          : Nat
  threshold     : Nat
  limit         : Nat
  overlap       : Nat
  stats         : PlannerStats
  deriving DecidableEq, Repr

/-- One deck: its DLU, Intake Unit, ring and planner, and the snapshot of its record, as pages of bytes (R213). -/
structure DeckUnit where
  link     : Link
  intake   : Intake
  ring     : Ring
  plan     : Planner
  snapshot : Option (List (List Byte))
  deriving DecidableEq, Repr

/-! ## Zone Output Unit -/

/-- Zone states, in the order of section 6.3 (R209). -/
inductive ZoneState where
  | stopped | priming | playing | starved | paused
  deriving DecidableEq, Repr

/-- Stop reasons (R135). -/
inductive StopReason where
  | reset | host | rangeEnd | seekFailed | unreadable | deckFault | deckReset | trayOpen | standby | startRefused
  deriving DecidableEq, Repr

/-- Sources (R109, R209). -/
inductive Source where
  | deck (d : Deck)
  | none
  | mirror
  deriving DecidableEq, Repr

/-- A set of mute causes, in the order of R109. -/
structure Causes where
  pause   : Bool
  stop    : Bool
  starve  : Bool
  protect : Bool
  conceal : Bool
  switch  : Bool
  deriving DecidableEq, Repr

/-- The empty cause set (R112). -/
def Causes.empty : Causes := ⟨false, false, false, false, false, false⟩

/-- The block in hand (R109, R115). -/
structure InHand where
  addr  : Nat
  seg   : Seg
  state : SlotState
  data  : Block
  deriving DecidableEq, Repr

/-- A pair of values, one for each channel: left, then right (R1). -/
structure Stereo where
  left  : Sample
  right : Sample
  deriving DecidableEq, Repr

/-- A run of doubtful samples as settled at its first sample (R140): first frame, length, left value, and the right value
when the run is interpolated (`none`: held). -/
structure SettledRun where
  start : Nat
  n     : Nat
  a     : Sample
  b     : Option Sample
  deriving DecidableEq, Repr

/-- Starve policies (R116). -/
inductive Policy where
  | wait | pass
  deriving DecidableEq, Repr

/-- The settings of R130. -/
structure ZoneSettings where
  policy  : Policy
  start   : Nat
  restart : Nat
  step    : Nat
  period  : Nat
  span    : Nat
  recover : Nat
  deriving DecidableEq, Repr

/-- Zone statistics (R134, R152). -/
structure ZoneStats where
  interpolated : Nat
  held         : Nat
  longRuns     : Nat
  clamped      : Nat
  starves      : Nat
  deriving DecidableEq, Repr

/-- State of a Zone Output Unit (R109). `concealWaits` says that CONCEAL was raised in the silent rest of a PAUSED zone's block and
waits for the zone to take a block again (R146, log entry 47). `causes` is the zone's own set; `inherited` holds what a mirror zone inherits from
zone 1 (R131) and is empty for any other zone. `pre` is the pre-gain value of the latest frame (R137 step 2). -/
structure Zone where
  state        : ZoneState
  stopReason   : StopReason
  source       : Source
  range        : Option PlayRange
  tag          : Seg
  cue          : Option PlayRange
  pendingRange : Option PlayRange
  pendingCue   : Option PlayRange
  position     : Option Nat
  endTaken     : Bool
  block        : Option InHand
  carry        : Stereo
  pre          : Stereo
  runLeft      : Option SettledRun
  runRight     : Option SettledRun
  ramp         : Nat
  rampCount    : Nat
  clean        : Nat
  concealWaits : Bool
  level        : Nat
  staged       : Option Nat
  causes       : Causes
  inherited    : Causes
  mark         : Option Nat
  set          : ZoneSettings
  stats        : ZoneStats
  blockPhase   : Nat
  emitted      : Stereo
  emittedPrev  : Stereo
  snapshot     : Option (List (List Byte))
  deriving DecidableEq, Repr

/-- How far the frame event in progress has been carried out (R137, log entry 8). -/
inductive FrameStage where
  | edge | settled | concealed | ramped
  deriving DecidableEq, Repr

/-! ## Shock Monitor -/

/-- State of the Shock Monitor (R154). The guard is OPEN exactly while its timer runs: `guard` holds the running time. -/
structure Shock where
  enable     : Bool
  centre     : Nat
  ton        : Nat
  toff       : Nat
  latching   : Bool
  guardTime  : Nat
  converting : Bool
  last       : Nat
  peak       : Nat
  flag       : Bool
  guard      : Option Nat
  deriving DecidableEq, Repr

/-! ## Tray Supervisor -/

/-- One tray: line, debounced level, debounce timer, pending-reload flag (R167, R172). -/
structure TraySide where
  line   : Level
  level  : Level
  timer  : Option Nat
  reload : Bool
  deriving DecidableEq, Repr

/-- A zone's stop note (R177): where it stood, on which deck and disc, and why it stopped (HOST or STANDBY). -/
structure StopNote where
  deck        : Deck
  fingerprint : BitVec 32
  range       : PlayRange
  cue         : Option PlayRange
  position    : Nat
  reason      : StopReason
  deriving DecidableEq, Repr

/-- Resume reasons (R174). -/
inductive ResumeReason where
  | tray | standby | unload | fault
  deriving DecidableEq, Repr

/-- A resume record (R174). -/
structure ResumeRecord where
  fingerprint : BitVec 32
  deck        : Deck
  zone        : ZoneId
  range       : PlayRange
  position    : Nat
  cue         : Option PlayRange
  reason      : ResumeReason
  deriving DecidableEq, Repr

/-- State of the Tray Supervisor (section 9.1). -/
structure Tray where
  sideA      : TraySide
  sideB      : TraySide
  debouncing : Bool
  noteOne    : Option StopNote
  noteTwo    : Option StopNote
  table      : List ResumeRecord
  autoResume : Bool
  autoReload : Bool
  rewind     : Nat
  debounce   : Nat
  deriving DecidableEq, Repr

/-! ## Standby Controller -/

/-- Standby phases (R203). -/
inductive StandbyPhase where
  | awake | entering | standby
  deriving DecidableEq, Repr

/-- State of the Standby Controller (R203). -/
structure Standby where
  phase      : StandbyPhase
  wakeTimer  : Option Nat
  recordedA  : Option Level
  recordedB  : Option Level
  wakeOnTray : Bool
  wakePeriod : Nat
  deriving DecidableEq, Repr

/-! ## Message Port -/

/-- Notice kinds, in the order of R197. -/
inductive NoticeKind where
  | zoneState | cueTaken | markReached | deckState | discIdentified | repairAbandoned | trayChanged | resumeMatch
  | shock | linkError | wake | resetDone
  deriving DecidableEq, Repr

/-- Units of a notice (R197). -/
inductive NoticeUnit where
  | part
  | zone (z : ZoneId)
  | deck (d : Deck)
  deriving DecidableEq, Repr

/-- Causes of LINK_ERROR (R188, R189). -/
inductive LinkErrorCause where
  | timeout | overrun
  deriving DecidableEq, Repr

/-- Kinds of reset (R202). -/
inductive ResetKind where
  | powerOn | soft
  deriving DecidableEq, Repr

/-- Contents of a notice, by kind (R197, R212). -/
inductive NoticeBody where
  | zoneState (state : ZoneState) (reason : Option StopReason)
  | cueTaken (addr : Nat)
  | markReached (addr : Nat)
  | deckState (state : DeckState) (reason : Option DeckReason) (cause : Option FaultCause) (trouble : Option Nat)
  | discIdentified (fingerprint : BitVec 32)
  | repairAbandoned (addr : Nat) (count : Nat)
  | trayChanged (level : Level)
  | resumeMatch (zone : ZoneId) (addr : Nat) (fingerprint : BitVec 32)
  | shock (magnitude : Nat)
  | linkError (cause : LinkErrorCause)
  | wake
  | resetDone (kind : ResetKind)
  deriving DecidableEq, Repr

/-- The kind of a notice (R197). -/
def NoticeBody.kind : NoticeBody → NoticeKind
  | .zoneState _ _ => .zoneState
  | .cueTaken _ => .cueTaken
  | .markReached _ => .markReached
  | .deckState _ _ _ _ => .deckState
  | .discIdentified _ => .discIdentified
  | .repairAbandoned _ _ => .repairAbandoned
  | .trayChanged _ => .trayChanged
  | .resumeMatch _ _ _ => .resumeMatch
  | .shock _ => .shock
  | .linkError _ => .linkError
  | .wake => .wake
  | .resetDone _ => .resetDone

/-- A notice record (R197). -/
structure Notice where
  unit  : NoticeUnit
  body  : NoticeBody
  count : Nat
  deriving DecidableEq, Repr

/-- Receiver phase with the frame in progress (R186): after the sync byte; after a good length byte `len`, with the bytes
received since it. The inter-byte timer runs in the last two (R188). -/
inductive Receiver where
  | hunting
  | length
  | body (len : Nat) (got : List Byte)
  deriving DecidableEq, Repr

/-- A completed frame in the receive buffer (R189). -/
inductive HostFrame where
  | good (kind tag : Byte) (payload : List Byte)
  | bad (tag : Byte)
  deriving DecidableEq, Repr

/-- Reply codes (R192). -/
inductive ReplyCode where
  | ok | busy | badArg | badState | noDisc | unknown | badFrame
  deriving DecidableEq, Repr

/-- A reply: its code and its reply data (R192, R212). -/
structure Reply where
  code : ReplyCode
  data : List Byte
  deriving DecidableEq, Repr

/-- State of the Message Port (section 10.1). `transmitter` holds the reply frame being sent (`none`: IDLE), `reply` the
reply last settled (R191), `resetDue` that a soft reset waits for its reply to be sent (R196). -/
structure Port where
  receiver    : Receiver
  buffer      : List HostFrame
  inHand      : Bool
  transmitter : Option (List Byte)
  queue       : List Notice
  mask        : BitVec 12
  reply       : Option Reply
  resetDue    : Bool
  deriving DecidableEq, Repr

/-! ## The machine -/

/-- State of the part. `drawn` counts the free choices drawn so far (log entry 10); `pending` is the queue of commands that
wait, first in first out. -/
structure State where
  deckA    : DeckUnit
  deckB    : DeckUnit
  zone1    : Zone
  zone2    : Zone
  shock    : Shock
  tray     : Tray
  standby  : Standby
  port     : Port
  resetPin : Pin
  stage    : FrameStage
  drawn    : Nat
  pending  : List Instr
  deriving DecidableEq, Repr

/-- Why the machine stops with a fault. -/
inductive Fault where
  /-- Raised by the meaning of DELIVERY on a term that does not carry exactly one block (`DeliveryArgs.wellFormed`): no transport
  can send it (R1, R2, R215; log entry 33). Safe: it stops only on what is no command. -/
  | illFormedCommand
  deriving DecidableEq, Repr

/-- Why a command is refused. -/
inductive Refusal where
  /-- Raised by `exec` for a command that has no meaning yet. Safe. -/
  | notModelled (mnemonic : String)
  deriving DecidableEq, Repr

/-! ## Reset values -/

/-- The statistics of R59 at 0. -/
def IntakeStats.zero : IntakeStats := ⟨0, 0, 0, 0, 0, 0, 0, 0, 0⟩

/-- The run context after reset (R38). DESIGN CHOICE, unsafe (log entry 14): run tag 0, job NONE, target 0, overlap 0, for
which the manual gives no value. -/
def RunContext.reset : RunContext :=
  { status := .closed, runTag := 0, job := .none, target := 0, k := 0, span := none, anchor := none, lastPlaced := none,
    streak := 0, outcome := .none, blind := false, asked := false, reached := [] }

/-- A DLU after reset: the LINK_RESET with tag 0 has been sent (R13, R37). -/
def Link.reset : Link :=
  { state := .noDisc, cause := .noDisc .reset, faultCause := none, trouble := none, decline := none,
    outstanding := some { command := .linkReset, tag := 0, resends := 0, limit := 0, timer := .acknowledge },
    waiting := none, nextTag := 1, runTag := none, gapTimer := false, lastLanded := none,
    byDelivery := false, lastSlot := none,
    disc := .absent, seekTime := 800, resends := 0, stales := 0, declines := 0,
    sent := [{ command := .linkReset, tag := 0 }], controlIn := none, blockIn := none }

/-- An Intake Unit after reset (R38, R45). -/
def Intake.reset : Intake :=
  { ctx := RunContext.reset, abandoned := none, abandonedBy := 0, stats := IntakeStats.zero, gapLimit := 6 }

/-- A ring after reset (R82). -/
def Ring.reset : Ring :=
  { cap := 768, high := 752, low := 640, records := [], tag := false, phase := .idle, fetchAddr := none, fetchEnd := none,
    cueCopy := none, overflow := false, flushes := 0, truncations := 0, peak := 0 }

/-- A planner after reset (R83, R108). -/
def Planner.reset : Planner :=
  { entries := [], job := .none, phase := .idle, target := none, recovery := false, flushAwaited := false, seekMisses := 0,
    voids := 0, backoff := false, backoffTarget := none, lastSlip := none, floor := 225, window := 75, lead := 38,
    threshold := 1, limit := 3, overlap := 2, stats := ⟨0, 0, 0, 0, 0⟩ }

/-- A deck's blocks after reset. -/
def DeckUnit.reset : DeckUnit :=
  { link := Link.reset, intake := Intake.reset, ring := Ring.reset, plan := Planner.reset, snapshot := none }

/-- Silence on both channels. -/
def Stereo.zero : Stereo := ⟨0, 0⟩

/-- The zone settings of R130 at their defaults. -/
def ZoneSettings.default : ZoneSettings :=
  { policy := .wait, start := 75, restart := 38, step := 128, period := 4, span := 8, recover := 64 }

/-- A zone after reset with the source R136 gives it (R136, R153). -/
def Zone.reset (d : Deck) : Zone :=
  { state := .stopped, stopReason := .reset, source := .deck d, range := none, tag := false, cue := none,
    pendingRange := none, pendingCue := none, position := none, endTaken := false, block := none, carry := Stereo.zero,
    pre := Stereo.zero, runLeft := none, runRight := none, ramp := 0, rampCount := 0, clean := 0, concealWaits := false,
    level := 32768,
    staged := none, causes := Causes.empty, inherited := Causes.empty, mark := none, set := ZoneSettings.default,
    stats := ⟨0, 0, 0, 0, 0⟩, blockPhase := 0, emitted := Stereo.zero, emittedPrev := Stereo.zero, snapshot := none }

/-- The Shock Monitor after reset (R166). -/
def Shock.reset : Shock :=
  { enable := false, centre := 512, ton := 160, toff := 120, latching := false, guardTime := 1500, converting := false,
    last := 0, peak := 0, flag := false, guard := none }

/-- A tray after reset: the debounced level is the line's (R168). -/
def TraySide.reset (line : Level) : TraySide := { line := line, level := line, timer := none, reload := false }

/-- The Tray Supervisor after reset, with the lines' levels and the records kept (none at power-on) (R185). -/
def Tray.reset (lineA lineB : Level) (table : List ResumeRecord) : Tray :=
  { sideA := TraySide.reset lineA, sideB := TraySide.reset lineB, debouncing := true, noteOne := none, noteTwo := none,
    table := table, autoResume := true, autoReload := true, rewind := 75, debounce := 20 }

/-- The Standby Controller after reset (R203). -/
def Standby.reset : Standby :=
  { phase := .awake, wakeTimer := none, recordedA := none, recordedB := none, wakeOnTray := true, wakePeriod := 500 }

/-- The Message Port after a reset of the given kind (R202). -/
def Port.reset (k : ResetKind) : Port :=
  { receiver := .hunting, buffer := [], inHand := false, transmitter := none,
    queue := [{ unit := .part, body := .resetDone k, count := 1 }], mask := BitVec.allOnes 12, reply := none,
    resetDue := false }

/-- The part right after a reset (R208): its kind, the levels of the tray lines, and the resume records kept. -/
def State.afterReset (k : ResetKind) (lineA lineB : Level) (table : List ResumeRecord) : State :=
  { deckA := DeckUnit.reset, deckB := DeckUnit.reset, zone1 := Zone.reset .a, zone2 := Zone.reset .b, shock := Shock.reset,
    tray := Tray.reset lineA lineB table, standby := Standby.reset, port := Port.reset k, resetPin := .high, stage := .edge,
    drawn := 0, pending := [] }

/-- The part right after power-on reset (R208). DESIGN CHOICE, unsafe (log entry 7): both drawers read closed. -/
def State.reset : State := State.afterReset .powerOn .closed .closed []

end Sys2Proof.Machine
end

