-- ==== Sys2Proof/Machine/Ops.lean ====
section
/-!
DEFINITION. Named operations over State that every block's rules share: access to one deck or zone, the notice queue (R198),
saturating counters (0.6), what a ring's list says (R63 to R66), the catalogue's disposal (R5), stop notes and the
resume table (R174 to R177), the order of things raised together, and the gate of the reset pin (R208).
-/

namespace Sys2Proof.Machine

/-! ## One deck, one zone -/

/-- The blocks of a deck. -/
def State.deck (s : State) : Deck → DeckUnit
  | .a => s.deckA
  | .b => s.deckB

/-- A zone's unit. -/
def State.zone (s : State) : ZoneId → Zone
  | .one => s.zone1
  | .two => s.zone2

/-- The tray of a deck. -/
def State.side (s : State) : Deck → TraySide
  | .a => s.tray.sideA
  | .b => s.tray.sideB

/-- Change one deck's blocks. -/
def onDeck (d : Deck) (f : DeckUnit → DeckUnit) (s : State) : State :=
  match d with
  | .a => { s with deckA := f s.deckA }
  | .b => { s with deckB := f s.deckB }

/-- Change one deck's DLU. -/
def onLink (d : Deck) (f : Link → Link) (s : State) : State :=
  onDeck d (fun u => { u with link := f u.link }) s

/-- Change one deck's Intake Unit. -/
def onIntake (d : Deck) (f : Intake → Intake) (s : State) : State :=
  onDeck d (fun u => { u with intake := f u.intake }) s

/-- Change one deck's run context. -/
def onCtx (d : Deck) (f : RunContext → RunContext) (s : State) : State :=
  onIntake d (fun i => { i with ctx := f i.ctx }) s

/-- Change one deck's intake statistics. -/
def onIntakeStats (d : Deck) (f : IntakeStats → IntakeStats) (s : State) : State :=
  onIntake d (fun i => { i with stats := f i.stats }) s

/-- Change one deck's ring. -/
def onRing (d : Deck) (f : Ring → Ring) (s : State) : State :=
  onDeck d (fun u => { u with ring := f u.ring }) s

/-- Change one deck's planner. -/
def onPlan (d : Deck) (f : Planner → Planner) (s : State) : State :=
  onDeck d (fun u => { u with plan := f u.plan }) s

/-- Change one deck's planner statistics. -/
def onPlanStats (d : Deck) (f : PlannerStats → PlannerStats) (s : State) : State :=
  onPlan d (fun p => { p with stats := f p.stats }) s

/-- Change one zone. -/
def onZone (z : ZoneId) (f : Zone → Zone) (s : State) : State :=
  match z with
  | .one => { s with zone1 := f s.zone1 }
  | .two => { s with zone2 := f s.zone2 }

/-- Change one zone's statistics. -/
def onZoneStats (z : ZoneId) (f : ZoneStats → ZoneStats) (s : State) : State :=
  onZone z (fun n => { n with stats := f n.stats }) s

/-- Change one deck's tray. -/
def onSide (d : Deck) (f : TraySide → TraySide) (s : State) : State :=
  match d with
  | .a => { s with tray := { s.tray with sideA := f s.tray.sideA } }
  | .b => { s with tray := { s.tray with sideB := f s.tray.sideB } }

/-- Change the Message Port. -/
def onPort (f : Port → Port) (s : State) : State :=
  { s with port := f s.port }

/-! ## Counters -/

/-- A statistic raised by `n`, saturating at 65,535 (0.6, "Counters"). -/
def bump (n c : Nat) : Nat := min Config.statisticTop (c + n)

/-- A value clamped to `lo..hi` (0.6, "Arithmetic"). -/
def clampTo (lo hi v : Nat) : Nat := min hi (max lo v)

/-! ## Notices -/

/-- Position of a notice kind in the list of R197: its bit in the mask (R210, kind 04H) and its byte (R209). -/
def NoticeKind.position : NoticeKind → Nat
  | .zoneState => 0
  | .cueTaken => 1
  | .markReached => 2
  | .deckState => 3
  | .discIdentified => 4
  | .repairAbandoned => 5
  | .trayChanged => 6
  | .resumeMatch => 7
  | .shock => 8
  | .linkError => 9
  | .wake => 10
  | .resetDone => 11

/-- A notice taken into the queue (R198): an entry of its kind and unit is updated in place, otherwise one is added. -/
def queueNotice (unit : NoticeUnit) (body : NoticeBody) : List Notice → List Notice
  | [] => [{ unit := unit, body := body, count := 1 }]
  | n :: rest =>
    if n.unit = unit ∧ n.body.kind = body.kind then
      { unit := unit, body := body, count := min 255 (n.count + 1) } :: rest
    else n :: queueNotice unit body rest

/-- A block raises a notice (R198). -/
def raiseNotice (unit : NoticeUnit) (body : NoticeBody) (s : State) : State :=
  if s.port.mask.getLsbD body.kind.position then
    onPort (fun p => { p with queue := queueNotice unit body p.queue }) s
  else s

/-- The attention line (R201). -/
def attention (s : State) : Pin :=
  match s.resetPin with
  | .low => .high
  | .high => if s.port.queue.isEmpty then .high else .low

/-- Two parts of one event that stand in no order against each other (R197, R198, R206). They touch different state but for
the notice queue; when both add entries, a free value says whose entries come first (log entry 10). -/
def together (f g : State → State) (s : State) : State :=
  let a := f s
  let b := g a
  let n := s.port.queue.length
  let m := a.port.queue.length
  if n < m ∧ m < b.port.queue.length then
    let q := b.port.queue
    let q' := if Config.laterFirst s.drawn then q.take n ++ q.drop m ++ (q.take m).drop n else q
    { b with port := { b.port with queue := q' }, drawn := s.drawn + 1 }
  else b

/-! ## The reset pin -/

/-- While the reset pin is held low no block acts (R208). -/
def whenUp (s : State) (f : State → State) : Host.Outcome State Fault Refusal :=
  match s.resetPin with
  | .low => .next s
  | .high => .next (f s)

/-! ## What a ring's list says -/

/-- A record is playable when its state is anything but MISSING (R64). -/
def SlotRecord.playable (r : SlotRecord) : Bool := r.state != .missing

/-- Depth (R63). -/
def Ring.depth (r : Ring) : Nat := r.records.length

/-- Good depth: consecutive playable records from the play edge (R66). -/
def Ring.goodDepth (r : Ring) : Nat := (r.records.takeWhile SlotRecord.playable).length

/-- Segment tag of the fetch segment (R71, R72). -/
def Ring.fetchSeg (r : Ring) : Option Seg :=
  match r.phase with
  | .current => some r.tag
  | .cue => some (!r.tag)
  | _ => none

/-- Fetch address with its segment: where the next record joins (R67, R71). -/
def Ring.fetchSpot (r : Ring) : Option Spot :=
  match r.fetchAddr, r.fetchSeg with
  | some a, some g => some ⟨a, g⟩
  | _, _ => none

/-- The fetch phase is CURRENT or CUE. -/
def Ring.fetching (r : Ring) : Bool := r.phase == .current || r.phase == .cue

/-- The record stands at this place. -/
def SlotRecord.at_ (p : Spot) (r : SlotRecord) : Bool := r.addr == p.addr && r.seg == p.seg

/-- The record of the ring at a place, if it holds one (R65: at most one). -/
def Ring.find (r : Ring) (p : Spot) : Option SlotRecord := r.records.find? (SlotRecord.at_ p)

/-- Play distance of a place: records that stand before it (R94). -/
def Ring.distance (r : Ring) (p : Spot) : Option Nat := r.records.findIdx? (SlotRecord.at_ p)

/-- Number of doubtful samples (R2). -/
def doubtCount (marks : List Bool) : Nat := marks.count true

/-- The guard is OPEN exactly while its timer runs (R154). -/
def guardOpen (s : State) : Bool := s.shock.guard.isSome

/-- Effective high mark of a deck's ring (R75, R160). -/
def effHigh (d : Deck) (s : State) : Nat :=
  if guardOpen s then (s.deck d).ring.cap else (s.deck d).ring.high

/-! ## Zones and their sources -/

/-- The zone whose source is the deck; a ring is consumed by at most one zone (R129). -/
def zoneOf (d : Deck) (s : State) : Option ZoneId :=
  if s.zone1.source = .deck d then some .one
  else if s.zone2.source = .deck d then some .two
  else none

/-- Zone 2 mirrors zone 1 (R129, R131). -/
def mirroring (s : State) : Bool := s.zone2.source == .mirror

/-- The deck a zone plays from, if its source is a deck. -/
def Zone.deck? (n : Zone) : Option Deck :=
  match n.source with
  | .deck d => some d
  | _ => none

/-- No zone that has the deck as source is active (R27, R30, R109). -/
def zoneIdle (d : Deck) (s : State) : Bool :=
  match zoneOf d s with
  | some z => (s.zone z).state == .stopped
  | none => true

/-! ## Discs, stop notes and the resume table -/

/-- The catalogue when usable (R5). -/
def Link.usable (l : Link) : Option Catalogue :=
  match l.disc with
  | .usable c => some c
  | _ => none

/-- The stop note of a zone (R177). -/
def State.note (s : State) : ZoneId → Option StopNote
  | .one => s.tray.noteOne
  | .two => s.tray.noteTwo

/-- Replace a zone's stop note. -/
def setNote (z : ZoneId) (v : Option StopNote) (s : State) : State :=
  match z with
  | .one => { s with tray := { s.tray with noteOne := v } }
  | .two => { s with tray := { s.tray with noteTwo := v } }

/-- A note is cleared when the catalogue of the deck it names is discarded (R177). -/
def keepNote (d : Deck) (n : Option StopNote) : Option StopNote :=
  n.filter (fun m => m.deck != d)

/-- A deck's catalogue is discarded (R5), which clears the stop notes that name the deck (R177). -/
def discardDisc (d : Deck) (s : State) : State :=
  let t := s.tray
  onLink d (fun l => { l with disc := .absent })
    { s with tray := { t with noteOne := keepNote d t.noteOne, noteTwo := keepNote d t.noteTwo } }

/-- A write into the resume table (R175). -/
def placeRecord (r : ResumeRecord) (table : List ResumeRecord) : List ResumeRecord :=
  (r :: table.filter (fun q => q.fingerprint != r.fingerprint)).take Config.resumeRecords

/-- Write a resume record (R175). -/
def writeRecord (r : ResumeRecord) (s : State) : State :=
  { s with tray := { s.tray with table := placeRecord r s.tray.table } }

/-- The record of a zone as it stands, or with a switch pending the record of its pending range (R174). -/
def zoneRecord (z : ZoneId) (d : Deck) (c : Catalogue) (why : ResumeReason) (n : Zone) : Option ResumeRecord :=
  if n.causes.switch then
    n.pendingRange.map fun r =>
      { fingerprint := c.fingerprint, deck := d, zone := z, range := r, position := r.first, cue := n.pendingCue, reason := why }
  else
    match n.range, n.position with
    | some r, some p =>
      some { fingerprint := c.fingerprint, deck := d, zone := z, range := r, position := p, cue := n.cue, reason := why }
    | _, _ => none

/-- The record written for the zone of a deck at a drawer opening or a deck fault (R169 step 2, R33 step 3, R176): the zone
is not STOPPED and the deck's catalogue is usable. -/
def writeZoneRecord (d : Deck) (why : ResumeReason) (s : State) : State :=
  match zoneOf d s, (s.deck d).link.usable with
  | some z, some c =>
    if (s.zone z).state = .stopped then s
    else
      match zoneRecord z d c why (s.zone z) with
      | some r => writeRecord r s
      | none => s
  | _, _ => s

/-- The record written from a stop note (R176). -/
def noteRecord (z : ZoneId) (why : ResumeReason) (m : StopNote) : ResumeRecord :=
  { fingerprint := m.fingerprint, deck := m.deck, zone := z, range := m.range, position := m.position, cue := m.cue, reason := why }

/-- Write the record of a stop note, which consumes the note (R176, R177). -/
def consumeNote (z : ZoneId) (why : ResumeReason) (m : StopNote) (s : State) : State :=
  setNote z none (writeRecord (noteRecord z why m) s)

/-- The stop note handed over just before a zone's own values are cleared (R177). -/
def takeNote (z : ZoneId) (why : StopReason) (s : State) : State :=
  let n := s.zone z
  if why = .host ∨ why = .standby then
    match n.deck? with
    | some d =>
      match (s.deck d).link.usable, n.range, n.position with
      | some c, some r, some p =>
        setNote z (some { deck := d, fingerprint := c.fingerprint, range := r, cue := n.cue, position := p, reason := why }) s
      | _, _, _ => s
    | none => s
  else s

/-! ## Standby -/

/-- The part is in standby in the phases ENTERING and STANDBY (R203). -/
def inStandby (s : State) : Bool := s.standby.phase != .awake

end Sys2Proof.Machine
end

