-- ==== Sys2Proof/Machine/Discs.lean ====
section
/-!
DEFINITION. Index validation (R6), the catalogue and its fingerprint (R7, R8), the range check (R9, R10).
-/

namespace Sys2Proof.Machine

/-- The numbers strictly increase along the list. -/
def ascending : List Nat → Bool
  | x :: y :: rest => decide (x < y) && ascending (y :: rest)
  | _ => true

/-- The checks of R6. A ragged report fails the list-length check (R214). -/
def validIndex (count : Byte) (leadOut : BitVec 24) (entries : List TrackField) (ragged : Bool) : Bool :=
  let n := count.toNat
  let l := leadOut.toNat
  decide (1 ≤ n ∧ n ≤ 99) && decide (entries.length = n) && !ragged
    && entries.all (fun e => decide (1 ≤ e.number.toNat ∧ e.number.toNat ≤ 99))
    && ascending (entries.map fun e => e.number.toNat)
    && entries.all (fun e => decide (e.kind.toNat ≤ 1))
    && ascending (entries.map fun e => e.start.toNat)
    && entries.all (fun e => decide (e.start.toNat < l))
    && decide (l ≤ 450000)
    && !(n == 1 && entries.all (fun e => e.kind == 1))

/-- The weighted sum of the start addresses, entries counted from `i` (R8). -/
def weightedStarts : Nat → List Nat → Nat
  | _, [] => 0
  | i, x :: rest => i * x + weightedStarts (i + 1) rest

/-- The fingerprint F (R8). -/
def fingerprint (leadOut : Nat) (starts : List Nat) : BitVec 32 :=
  BitVec.ofNat 32 (starts.length + 100 * leadOut + weightedStarts 1 starts)

/-- The catalogue built from a valid report (R7). -/
def catalogueOf (leadOut : BitVec 24) (entries : List TrackField) : Catalogue :=
  { entries := entries.map fun e => { number := e.number.toNat, start := e.start.toNat, data := e.kind.toNat == 1 }
    leadOut := leadOut.toNat
    fingerprint := fingerprint leadOut.toNat (entries.map fun e => e.start.toNat) }

/-- The entry whose region holds an address below the lead-out (R4); none in the lead-in. -/
def Catalogue.trackAt (c : Catalogue) (a : Nat) : Option TrackEntry :=
  (c.entries.filter fun e => decide (e.start ≤ a)).getLast?

/-- The end used (R10). -/
def Catalogue.endUsed (c : Catalogue) (first last : Nat) : Nat :=
  let e := min last (c.leadOut - 1)
  match c.entries.find? (fun t => t.data && decide (first < t.start)) with
  | some t => min e (t.start - 1)
  | none => e

/-- The answer of the range check (R9): the range with the end used and the end-adjusted flag, or the code of the refusal. -/
inductive RangeAnswer where
  | accepted (r : PlayRange) (adjusted : Bool)
  | refused (code : ReplyCode)
  deriving DecidableEq, Repr

/-- The range check against a usable catalogue (R9, R10). -/
def rangeCheck (c : Option Catalogue) (first last : Nat) : RangeAnswer :=
  match c with
  | none => .refused .noDisc
  | some c =>
    if c.leadOut ≤ first then .refused .badArg
    else
      match c.trackAt first with
      | none => .refused .badArg
      | some t =>
        if t.data then .refused .badArg
        else if last < first then .refused .badArg
        else .accepted { first := first, last := c.endUsed first last } (c.endUsed first last != last)

/-- The range check made for a zone, against the catalogue of its source deck (R9). -/
def zoneRange (z : ZoneId) (first last : Nat) (s : State) : RangeAnswer :=
  match (s.zone z).deck? with
  | some d => rangeCheck (s.deck d).link.usable first last
  | none => .refused .noDisc

end Sys2Proof.Machine
end

