-- ==== Sys2Proof/Machine/Link.lean ====
section
/-!
DEFINITION. Sending and placing deck commands (R13 to R15, R19 to R23), and the DECK_STATE notice (R35). The reports that
complete the commands are in Decks.lean.
-/

namespace Sys2Proof.Machine

/-! ## The commands (R14, R20) -/

/-- Motion commands (R14). -/
def DeckCommand.isMotion : DeckCommand → Bool
  | .seek _ | .stall | .proceed => true
  | .fetchDisc _ | .readIndex | .stowDisc _ | .park _ | .linkReset => false

/-- Mechanical commands (R14). -/
def DeckCommand.isMechanical : DeckCommand → Bool
  | .fetchDisc _ | .readIndex | .stowDisc _ | .park _ => true
  | .seek _ | .stall | .proceed | .linkReset => false

/-- Rank of a command for the waiting slot (R20). LINK_RESET is never placed there. -/
def DeckCommand.rank : DeckCommand → Nat
  | .park _ => 5
  | .stowDisc _ => 4
  | .fetchDisc _ => 3
  | .readIndex => 2
  | .seek _ | .stall | .proceed => 1
  | .linkReset => 6

/-- Completion time in ms of a command sent now (R14); 0 for a command with no completion timer. -/
def completionTime (seekTime : Nat) : DeckCommand → Nat
  | .seek _ => seekTime
  | .fetchDisc _ => 12000
  | .readIndex => 5000
  | .stowDisc _ => 12000
  | .park _ => 3000
  | .stall | .proceed | .linkReset => 0

/-- Commands that are complete at their acknowledgement (R15). -/
def DeckCommand.completeAtAck : DeckCommand → Bool
  | .stall | .proceed | .linkReset => true
  | .seek _ | .fetchDisc _ | .readIndex | .stowDisc _ | .park _ => false

/-- Fetch-type jobs (R91). -/
def Job.isFetch : Job → Bool
  | .playStart | .fetch | .cueFetch | .skipRecovery | .voidOver => true
  | .none | .repair => false

/-- A PROCEED is outstanding. -/
def Link.proceeding (l : Link) : Bool :=
  match l.outstanding with
  | some o => o.command == .proceed
  | none => false

/-- A STALL is outstanding. -/
def Link.stalling (l : Link) : Bool :=
  match l.outstanding with
  | some o => o.command == .stall
  | none => false

/-- The deck states in which a planner acts and a SEEK is valid (R22, R91). -/
def DeckState.runnable : DeckState → Bool
  | .ready | .seeking | .streaming | .stalled => true
  | .noDisc | .loading | .identifying | .parking | .parked | .stowing | .fault => false

/-- A command may be requested in the deck's state (R22, R23, R31). -/
def Link.valid (l : Link) : DeckCommand → Bool
  | .seek _ => l.state.runnable
  | .stall => l.state == .streaming || (l.state == .stalled && l.proceeding)
  | .proceed => l.state == .stalled
  | .fetchDisc _ | .readIndex | .stowDisc _ | .park _ | .linkReset => l.state != .fault

/-! ## What the host sees of a deck (R35) -/

/-- The DECK_STATE notice of the state a deck has entered (R35, R212). SEEKING, STREAMING, STALLED and READY raise none here:
entry into READY from PARKED is raised where R32 makes it. -/
def announce (d : Deck) (s : State) : State :=
  let l := (s.deck d).link
  match l.state with
  | .noDisc =>
    match l.cause with
    | .noDisc r => raiseNotice (.deck d) (.deckState .noDisc (some r) none none) s
    | .fault _ => raiseNotice (.deck d) (.deckState .noDisc none none none) s
  | .fault =>
    raiseNotice (.deck d)
      (.deckState .fault none l.faultCause (if l.faultCause = some .trouble then l.trouble else none)) s
  | .loading | .identifying | .stowing | .parking | .parked =>
    raiseNotice (.deck d) (.deckState l.state none none none) s
  | .ready | .seeking | .streaming | .stalled => s

/-- Enter NO_DISC with a reason, without its notice: the catalogue is discarded (R5, R35). -/
def toNoDisc (d : Deck) (r : DeckReason) (s : State) : State :=
  onLink d (fun l => { l with state := .noDisc, cause := .noDisc r }) (discardDisc d s)

/-! ## Sending -/

/-- The planner opens the run context with the tag of the command just sent (R39). A fetch-type run clears the overflow
flag (R77); a REPAIR run makes its entry ACTIVE and counts one in repair runs (R92). -/
def openRun (d : Deck) (tag : Tag) (p : RunPlan) (s : State) : State :=
  let i := (s.deck d).intake
  let blind := i.abandoned == some p.target && i.abandonedBy == 3
  let s := onCtx d (fun _ =>
    { status := .opened, runTag := tag, job := p.job, target := p.target.addr, k := p.k, span := p.span, anchor := none,
      lastPlaced := none, streak := 0, outcome := .none, blind := blind, asked := false, reached := [] }) s
  let s := if p.job.isFetch then onRing d (fun r => { r with overflow := false }) s else s
  let s := onPlan d (fun q => { q with job := p.job, phase := .run, target := some p.target }) s
  if p.job = .repair then
    onPlan d (fun q =>
      { q with
        entries := q.entries.map fun e =>
          if e.first = p.target.addr ∧ e.seg = p.target.seg then { e with active := true, ofRun := true }
          else { e with active := false, ofRun := false }
        stats := { q.stats with repairRuns := bump 1 q.stats.repairRuns } }) s
  else s

/-- What sending a command does to the deck state, the run tag and the gap timer (R14, R19, R22, R23, R31). -/
def sentEffect (d : Deck) (tag : Tag) (c : DeckCommand) (s : State) : State :=
  let mechanical (st : DeckState) : State :=
    announce d (onLink d (fun l => { l with state := st, runTag := none, gapTimer := false }) s)
  match c with
  | .seek _ =>
    onLink d (fun l =>
      { l with state := .seeking, runTag := some tag, gapTimer := false, lastLanded := none, byDelivery := false }) s
  | .stall => s
  | .proceed => onLink d (fun l => { l with runTag := some tag, byDelivery := false }) s
  | .fetchDisc _ => mechanical .loading
  | .readIndex => mechanical .identifying
  | .stowDisc _ => mechanical .stowing
  | .park _ => mechanical .parking
  | .linkReset => s

/-- Send a command: it takes the next tag, becomes the outstanding command, superseding any, and starts its acknowledge
timer (R13, R15, R19). -/
def send (d : Deck) (r : Request) (s : State) : State :=
  let tag := (s.deck d).link.nextTag
  let s := onLink d (fun l =>
    { l with
      outstanding := some { command := r.command, tag := tag, resends := 0, limit := completionTime l.seekTime r.command, timer := .acknowledge }
      nextTag := l.nextTag + 1
      sent := l.sent ++ [{ command := r.command, tag := tag }] }) s
  let s := sentEffect d tag r.command s
  match r.plan with
  | some p => openRun d tag p s
  | none => s

/-! ## Placing a request (R19, R20) -/

/-- What became of a request. -/
inductive Placing where
  | sent | waits | dropped | refused
  deriving DecidableEq, Repr

/-- A dropped, displaced or cleared request is returned to its requester (R20, R92, R171). -/
def tellDropped (d : Deck) (r : Request) (s : State) : State :=
  match r.from_ with
  | .planner => onPlan d (fun p => { p with phase := .idle }) s
  | .tray =>
    match r.command with
    | .park _ => onSide d (fun t => { t with reload := false }) s
    | _ => s
  | .standby | .host | .dlu => s

/-- A waiting request is displaced; a host's raises DECK_STATE with reason DISPLACED (R20, R35). -/
def displace (d : Deck) (r : Request) (s : State) : State :=
  if r.from_ = .host then
    raiseNotice (.deck d) (.deckState (s.deck d).link.state (some .displaced) none none) s
  else tellDropped d r s

/-- Place a request against the waiting slot by rank (R20). -/
def placeWaiting (d : Deck) (r : Request) (s : State) : State × Placing :=
  match (s.deck d).link.waiting with
  | none => (onLink d (fun l => { l with waiting := some r }) s, .waits)
  | some w =>
    if w.command.rank ≤ r.command.rank then
      (onLink d (fun l => { l with waiting := some r }) (displace d w s), .waits)
    else (tellDropped d r s, .dropped)

/-- A PARK asked for while a PARK is outstanding gives that one its purpose if it is TRAY (R20, R31). -/
def mergePark (d : Deck) (p : Purpose) (s : State) : State :=
  match p with
  | .standby => s
  | .tray =>
    onLink d (fun l =>
      { l with outstanding := l.outstanding.map fun o => { o with command := .park .tray } }) s

/-- Request a command of a DLU (R19, R20, R22, R23, R31, R33). LINK_RESET has its own operation, `sendLinkReset`. -/
def request (d : Deck) (r : Request) (s : State) : State × Placing :=
  let l := (s.deck d).link
  if l.state = .fault then (tellDropped d r s, .refused)
  else
    match l.outstanding with
    | none => if l.valid r.command then (send d r s, .sent) else (tellDropped d r s, .refused)
    | some o =>
      if o.command.isMotion then
        if l.valid r.command then (send d r s, .sent) else (tellDropped d r s, .refused)
      else
        match o.command, r.command with
        | .park _, .park p => (mergePark d p s, .waits)
        | _, _ => placeWaiting d r s

/-- The planner closes the run context (R38, R39): the fields R38 gives a value to take it. -/
def closeRun (d : Deck) (s : State) : State :=
  onCtx d (fun c =>
    { c with status := .closed, span := none, anchor := none, lastPlaced := none, streak := 0, outcome := .none, blind := false,
             asked := false, reached := [] }) s

/-- A release (R23): the run ends, and STALL is sent where the deck is moving. The context closes (R39). -/
def release (d : Deck) (s : State) : State :=
  let l := (s.deck d).link
  let toReady (s : State) : State := onLink d (fun l => { l with state := .ready, runTag := none, gapTimer := false }) s
  let sendStall (s : State) : State := send d { command := .stall, from_ := .planner, plan := none } (toReady s)
  let s :=
    match l.state with
    | .stalled => if l.proceeding then sendStall s else toReady s
    | .seeking | .streaming => sendStall s
    | .noDisc | .loading | .identifying | .ready | .parking | .parked | .stowing | .fault => s
  closeRun d s

/-- The planner asks for STALL (R96): nothing is sent on a deck already STALLED, or while a STALL is outstanding. -/
def askStall (d : Deck) (s : State) : State :=
  let l := (s.deck d).link
  if l.stalling ∨ (l.state = .stalled ∧ ¬ l.proceeding) then s
  else (request d { command := .stall, from_ := .planner, plan := none } s).1

/-- LINK_RESET is sent at once in every case and clears the outstanding and the waiting command (R20, R34). -/
def sendLinkReset (d : Deck) (s : State) : State :=
  send d { command := .linkReset, from_ := .host, plan := none } (onLink d (fun l => { l with waiting := none }) s)

/-- A command in the waiting slot is sent now, or dropped when it is a motion command no longer valid (R21). `entered` says
that the completion entered a new state, whose notice is raised unless the command sent moves the deck on. -/
def sendWaiting (d : Deck) (entered : Bool) (s : State) : State :=
  let own (s : State) : State := if entered then announce d s else s
  match (s.deck d).link.waiting with
  | none => own s
  | some w =>
    let s := onLink d (fun l => { l with waiting := none }) s
    if w.command.isMotion ∧ ¬ (s.deck d).link.valid w.command then own (tellDropped d w s)
    else
      match w.command with
      | .stall | .proceed => send d w (own s)
      | .seek _ | .fetchDisc _ | .readIndex | .stowDisc _ | .park _ | .linkReset => send d w s

end Sys2Proof.Machine
end

