-- ==== Sys2Proof/Machine/Planner.lean ====
section
/-!
DEFINITION. The Read Planner's list and its choice: repair entries (R84 to R90), targets and anchor overlaps (R92), the decision
(R94 to R98), the start of a range (R99), the backoff (R105), flush and cancellation (R106). What a run's end counts is
in Repair.lean.
-/

namespace Sys2Proof.Machine

/-! ## The repair list (R84 to R87) -/

/-- The entry covers this slot (R84). -/
def Entry.covers (e : Entry) (p : Spot) : Bool :=
  e.seg == p.seg && decide (e.first ≤ p.addr ∧ p.addr < e.first + e.count)

/-- Address of the entry's last slot. -/
def Entry.last (e : Entry) : Nat := e.first + e.count - 1

/-- The entry's first slot. -/
def Entry.spot (e : Entry) : Spot := ⟨e.first, e.seg⟩

/-- The holds-missing flags set again from the ring (R84, R87). -/
def syncMissing (r : Ring) (es : List Entry) : List Entry :=
  es.map fun e => { e with missing := r.records.any fun q => q.state == .missing && e.covers ⟨q.addr, q.seg⟩ }

/-- Set the holds-missing flags of a deck's list again (R87). -/
def refreshEntries (d : Deck) (s : State) : State :=
  let r := (s.deck d).ring
  onPlan d (fun p => { p with entries := syncMissing r p.entries }) s

/-- What is left of an entry when a slot it covers leaves it (R87): nothing, one part, or two. The first part keeps the
entry's state; the later part of a split is WAITING. -/
def Entry.without (e : Entry) (a : Nat) : Option Entry × Option Entry :=
  let before := a - e.first
  let after := e.first + e.count - 1 - a
  if before = 0 then
    if after = 0 then (none, none) else (some { e with first := a + 1, count := after }, none)
  else if after = 0 then (some { e with count := before }, none)
  else (some { e with count := before }, some { e with first := a + 1, count := after, active := false })

/-- A list without one covered slot, and the later part of a split for which a full list has no place (R87). -/
def leaveList (p : Spot) (es : List Entry) : List Entry × Option Entry :=
  let full := decide (Config.repairEntries ≤ es.length)
  let parts := es.map fun e => if e.covers p then e.without p.addr else (some e, none)
  if full then (parts.filterMap (·.1), (parts.filterMap (·.2)).head?)
  else (parts.flatMap (fun q => q.1.toList ++ q.2.toList), none)

/-- Slots the last entry can take by joining (R45, R86): 8 less its count when it is WAITING and its last slot is the ring's
tail in the fetch segment, and 0 otherwise. -/
def roomToJoin (r : Ring) (es : List Entry) : Nat :=
  match es.getLast?, r.records.getLast?, r.fetchSeg with
  | some e, some q, some g =>
    if !e.active && q.seg == g && e.seg == g && e.last == q.addr then 8 - e.count else 0
  | _, _, _ => 0

/-- `g` placeholders can be covered (R45, R86). -/
def canCover (r : Ring) (es : List Entry) (g : Nat) : Bool :=
  decide (g ≤ roomToJoin r es) || decide (es.length < Config.repairEntries)

/-- The list with `g` placeholders from address `f` covered: `j` join the last entry, the rest form one new entry (R86). -/
def coverGap (f : Nat) (seg : Seg) (g j : Nat) (es : List Entry) : List Entry :=
  let joined :=
    match es.getLast? with
    | some e => if j = 0 then es else es.dropLast ++ [{ e with count := e.count + j, missing := true }]
    | none => es
  if j < g then
    joined ++ [{ first := f + j, seg := seg, count := g - j, missing := true, attempts := 0, active := false, ofRun := false }]
  else joined

/-! ## The terms of the choice (R94) -/

/-- Play distance of an entry's first slot (R94). -/
def entryDistance (r : Ring) (e : Entry) : Option Nat := r.distance e.spot

/-- An entry is urgent (R94). -/
def urgent (u : DeckUnit) (e : Entry) : Bool :=
  e.missing && !e.active &&
    match entryDistance u.ring e with
    | some n => decide (n < u.plan.window)
    | none => false

/-- An entry is eligible (R94). -/
def eligible (openGuard : Bool) (u : DeckUnit) (e : Entry) : Bool :=
  !e.active && !openGuard &&
    (e.missing ||
      match entryDistance u.ring e with
      | some n => decide (u.plan.lead ≤ n)
      | none => false)

/-- Fetch is wanted (R94). -/
def fetchWanted (d : Deck) (s : State) : Bool :=
  let u := s.deck d
  u.ring.fetching &&
    if u.plan.phase = .held then decide (u.ring.depth ≤ u.ring.low) else decide (u.ring.depth < effHigh d s)

/-- The choices of R95. -/
inductive Choice where
  | flushAwaited
  | repair (e : Entry)
  | fetch
  | nothing
  deriving DecidableEq, Repr

/-- The choice order (R95). DEDUCED, unsafe (log entry 44): step 3 applies at a HIGH report too, where the repair floor stands above
the effective high mark. -/
def choose (d : Deck) (s : State) : Choice :=
  let u := s.deck d
  if u.plan.flushAwaited then .flushAwaited
  else
    match u.plan.entries.find? (urgent u) with
    | some e => .repair e
    | none =>
      if u.ring.depth < u.plan.floor ∧ u.ring.fetching then .fetch
      else
        match u.plan.entries.find? (eligible (guardOpen s) u) with
        | some e => .repair e
        | none => if fetchWanted d s then .fetch else .nothing

/-! ## Targets (R92) -/

/-- A record is an anchor: GOOD or REPAIRED. -/
def isAnchor (q : SlotRecord) : Bool := q.state == .good || q.state == .repaired

/-- Consecutive anchors immediately before an address in its segment, at most `n` (R92). -/
def anchorsBefore (r : Ring) (p : Spot) : Nat → Nat
  | 0 => 0
  | n + 1 =>
    match p.addr with
    | 0 => 0
    | a + 1 =>
      match r.find ⟨a, p.seg⟩ with
      | some q => if isAnchor q then anchorsBefore r ⟨a, p.seg⟩ n + 1 else 0
      | none => 0

/-- The name of the fetch-type job (R91, R95): PLAY_START keeps its name until its run has positioned a delivery. -/
def fetchName (u : DeckUnit) : Job :=
  if u.plan.job = .playStart then .playStart
  else if u.plan.recovery then .skipRecovery
  else if u.ring.phase = .cue then .cueFetch
  else .fetch

/-- FETCH or CUE_FETCH by the fetch phase (R91, R101). -/
def phaseName (u : DeckUnit) : Job := if u.ring.phase = .cue then .cueFetch else .fetch

/-- The job a PROCEED continues (R39, R96): that of the stalled run, FETCH or CUE_FETCH. DESIGN CHOICE, unsafe (log entry 16): a
stalled run of any other name, SKIP_RECOVERY or VOID_OVER, keeps its name while HELD and is continued as FETCH or CUE_FETCH by the
fetch phase. -/
def streamName (u : DeckUnit) : Job :=
  match u.plan.job with
  | .fetch => .fetch
  | .cueFetch => .cueFetch
  | .none | .playStart | .skipRecovery | .repair | .voidOver => phaseName u

/-- Send the SEEK of a run (R92): to `t - k`; when the DLU refuses it the job phase becomes IDLE. -/
def startRun (d : Deck) (p : RunPlan) (s : State) : State :=
  match request d { command := .seek (p.target.addr - p.k), from_ := .planner, plan := some p } s with
  | (s, .sent) => s
  | (s, _) => onPlan d (fun q => { q with phase := .idle }) s

/-- A run plan for a target, with the anchor overlap of R92. -/
def planFor (u : DeckUnit) (job : Job) (t : Spot) (span : Option Span) : RunPlan :=
  { job := job, target := t, k := if job = .playStart then 0 else anchorsBefore u.ring t u.plan.overlap, span := span }

/-- Send the SEEK of a job, unless its target waits for the backoff timer (R105): then the deck is released and the job phase
becomes BACKOFF with the chosen job. DEDUCED, unsafe (log entry 18): targets are compared with their segment tags. -/
def seekFor (d : Deck) (job : Job) (t : Spot) (span : Option Span) (s : State) : State :=
  let u := s.deck d
  if u.plan.backoff ∧ u.plan.backoffTarget = some t then
    onPlan d (fun q => { q with job := job, phase := .backoff, target := some t }) (release d s)
  else startRun d (planFor u job t span) s

/-- REPAIR of an entry: the span is the entry's slots now (R92). -/
def seekRepair (d : Deck) (e : Entry) (s : State) : State :=
  seekFor d .repair e.spot (some { first := e.first, last := e.last, seg := e.seg }) s

/-- A fetch-type job by SEEK toward the fetch address (R91, R92). -/
def seekFetch (d : Deck) (s : State) : State :=
  match (s.deck d).ring.fetchSpot with
  | some t => seekFor d (fetchName (s.deck d)) t none s
  | none => s

/-- The resume method is PROCEED (R78). -/
def resumesByProceed (r : Ring) : Bool :=
  !r.overflow &&
    match r.fetchSpot, r.records.getLast? with
    | some t, some q => q.seg == t.seg && q.addr + 1 == t.addr
    | _, _ => false

/-- A stalled run is continued by the resume method (R78, R92, R96). -/
def resumeFetch (d : Deck) (s : State) : State :=
  let u := s.deck d
  match u.ring.fetchSpot with
  | some t =>
    if resumesByProceed u.ring then
      let p : RunPlan := { job := streamName u, target := t, k := 0, span := none }
      match request d { command := .proceed, from_ := .planner, plan := some p } s with
      | (s, .sent) => s
      | (s, _) => onPlan d (fun q => { q with phase := .idle }) s
    else seekFetch d s
  | none => s

/-! ## The decision (R93 to R98) -/

/-- How the run stands at a decision. -/
inductive RunStanding where
  /-- in progress and able to be kept -/
  | running
  /-- complete, broken off, held, or none: not failed -/
  | over
  /-- failed (R102), or a REPAIR run that has ended -/
  | failed
  deriving DecidableEq, Repr

/-- The planner acts only while its ring has begun a range and its deck is runnable (R91). -/
def plannerActs (u : DeckUnit) : Bool := u.ring.phase != .idle && u.link.state.runnable

/-- Job NONE with phase IDLE (R91). -/
def noJob (d : Deck) (s : State) : State :=
  onPlan d (fun p => { p with job := .none, phase := .idle, target := none }) s

/-- Choice "none" of step 6 (R96): with blocks left to fetch the deck is held, a live run stalled and any other released; otherwise
the deck is released with no job. DESIGN CHOICE, unsafe (log entry 35): a deck held with no run stalled keeps the name of its last
job, REPAIR after a REPAIR run. -/
def hold (d : Deck) (live : Bool) (s : State) : State :=
  if (s.deck d).ring.fetching then
    let s := onPlan d (fun p => { p with phase := .held }) s
    if live then askStall d s else release d s
  else noJob d (release d s)

/-- A decision (R95) carried out by R96. `standing` says how the run stands when the decision is taken.
DEDUCED, unsafe (log entry 19): a run that is held stays held when nothing is chosen. -/
def decide_ (d : Deck) (standing : RunStanding) (s : State) : State :=
  let u := s.deck d
  if !plannerActs u then noJob d s
  else
    let live := standing != .failed && u.plan.job.isFetch && u.link.state == .streaming
    match choose d s with
    | .flushAwaited =>
      if live then onPlan d (fun p => { p with phase := if p.phase = .idle then .run else p.phase }) s
      else onPlan d (fun p => { p with phase := .idle }) (release d s)
    | .repair e => seekRepair d e s
    | .fetch =>
      if standing = .running then s
      else if u.plan.phase = .held ∧ u.link.state = .stalled then resumeFetch d s
      else seekFetch d s
    | .nothing => if u.ring.fetching ∧ u.plan.phase = .held ∧ standing ≠ .failed then s else hold d live s

/-- A run of the job is in RUN phase. -/
def Planner.running (p : Planner) : Bool := p.phase == .run

/-- A fetch-type run is in RUN phase (R97). -/
def Planner.fetchRunning (p : Planner) : Bool := p.phase == .run && p.job.isFetch

/-- A decision point that keeps a run in RUN phase (R93, R97). -/
def decisionPoint (d : Deck) (s : State) : State :=
  if (s.deck d).plan.running then s else decide_ d .over s

/-- A decision point that breaks off a fetch-type run in RUN phase: HIGH, an urgent entry, the repair floor (R97). A REPAIR
run is kept. -/
def breakPoint (d : Deck) (s : State) : State :=
  let p := (s.deck d).plan
  if p.fetchRunning then decide_ d .running s
  else if p.running then s
  else decide_ d .over s

/-- The ring reports HIGH (R76, R98): a decision point of a fetch-type run. While a flush is awaited no new run starts, and the ring
fills only until the run reaches the high mark (R106): the run is then held (log entry 34). -/
def onHigh (d : Deck) (s : State) : State :=
  let u := s.deck d
  if effHigh d s ≤ u.ring.depth ∧ u.plan.fetchRunning then
    if u.plan.flushAwaited then hold d (u.link.state == .streaming) s else decide_ d .running s
  else s

/-- The ring reports LOW (R76, R98). -/
def onLow (d : Deck) (s : State) : State :=
  let u := s.deck d
  if u.ring.depth ≤ u.ring.low ∧ u.plan.phase = .held then decide_ d .over s else s

/-- The run in progress has ended: the job phase leaves RUN. -/
def endRun (d : Deck) (s : State) : State :=
  onPlan d (fun p => { p with phase := if p.phase = .run then .idle else p.phase }) s

/-- The ring reports that the current range or the range has been fetched (R72, R100). `last` is the address just added. -/
def onFetched (d : Deck) (last : Nat) (s : State) : State :=
  let u := s.deck d
  let contiguous := u.ring.phase == .cue && u.ring.fetchAddr == some (last + 1)
  let carryOn (s : State) : State :=
    if contiguous ∧ u.plan.job.isFetch then
      let s := onCtx d (fun c => { c with job := .cueFetch, target := last + 1, k := 0 }) s
      onPlan d (fun p => { p with job := .cueFetch, target := u.ring.fetchSpot }) s
    else s
  if u.plan.fetchRunning then
    if contiguous then carryOn s else decide_ d .over (endRun d s)
  else if u.plan.phase = .held then
    let s := carryOn s
    decide_ d .over (if u.ring.phase = .done then onPlan d (fun p => { p with phase := .idle }) s else s)
  else s

/-- The ring reports that the fetch target has moved or the cue been cancelled (R73, R100): a CUE_FETCH run is broken off, and any
other run is kept (R97). -/
def onTargetMoved (d : Deck) (s : State) : State :=
  let p := (s.deck d).plan
  if p.running ∧ p.job = .cueFetch then decide_ d .over (endRun d s) else decisionPoint d s

/-! ## Start of a range, flush and cancellation (R99, R106) -/

/-- PLAY_START (R99): `none` when the planner refuses it. -/
def playStart (d : Deck) (r : PlayRange) (s : State) : Option State :=
  let u := s.deck d
  if u.link.state.runnable ∧ u.ring.cap ≠ 0 then
    let s := onRing d (fun q => { q with phase := .current, fetchAddr := some r.first, fetchEnd := some r.last }) s
    let t : Spot := ⟨r.first, u.ring.tag⟩
    let s := onPlan d (fun p => { p with job := .playStart, phase := .idle, target := some t }) s
    some (seekFor d .playStart t none s)
  else none

/-- The job is cancelled (R106 steps 2 to 4). -/
def cancelJob (d : Deck) (s : State) : State :=
  onPlan d (fun p =>
    { p with job := .none, phase := .idle, target := none, backoff := false, backoffTarget := none, seekMisses := 0, voids := 0,
             recovery := false, flushAwaited := false }) (release d s)

/-- The planner's part of a flush (R106). -/
def plannerFlushed (d : Deck) (s : State) : State :=
  cancelJob d (onPlan d (fun p => { p with entries := [] }) s)

/-- The zone tells its planner that it has raised a cause that ends in a flush (R106, R119, R121). -/
def awaitFlush (d : Deck) (s : State) : State :=
  onPlan d (fun p => { p with flushAwaited := true }) s

end Sys2Proof.Machine
end

