-- ==== Sys2Proof/Machine/Mirror.lean ====
section
/-!
DEFINITION. Cause sets, zone state changes, the mirror zone (R111, R112, R131, R132), and the STARVE test that a good depth
report makes (R66, R117).
-/

namespace Sys2Proof.Machine

/-! ## The cause set (R112, R131) -/

/-- Union of two cause sets. -/
def Causes.union (a b : Causes) : Causes :=
  ⟨a.pause || b.pause, a.stop || b.stop, a.starve || b.starve, a.protect || b.protect, a.conceal || b.conceal,
    a.switch || b.switch⟩

/-- The zone's whole set: its own causes and those a mirror zone inherits (R131). -/
def Zone.mutes (n : Zone) : Causes := n.causes.union n.inherited

/-- Ramp target (R112): 0 while STOPPED or while the set is not empty. -/
def Zone.rampTarget (n : Zone) : Nat :=
  if n.state = .stopped then 0 else if n.mutes = Causes.empty then Config.unity else 0

/-- The ramp falls at the fast rate while PROTECT or CONCEAL is in the set (R112). -/
def Zone.fast (n : Zone) : Bool := n.mutes.protect || n.mutes.conceal

/-- A zone changes state, which raises ZONE_STATE; for STOPPED with its stop reason (R111, R135). -/
def enterZone (z : ZoneId) (st : ZoneState) (s : State) : State :=
  let s := onZone z (fun n => { n with state := st }) s
  raiseNotice (.zone z) (.zoneState st (if st = .stopped then some (s.zone z).stopReason else none)) s

/-- What entry into STOPPED does to the zone's own values (R112, R113, R139, R145, R147). -/
def Zone.cleared (n : Zone) : Zone :=
  { n with range := none, cue := none, pendingRange := none, pendingCue := none, position := none, block := none,
           endTaken := false, carry := Stereo.zero, runLeft := none, runRight := none, ramp := 0, rampCount := 0, clean := 0,
           concealWaits := false, causes := Causes.empty, inherited := Causes.empty }

/-! ## The mirror zone (R131, R132) -/

/-- Zone 2 mirrors zone 1 and is not STOPPED. DESIGN CHOICE, unsafe (log entry 60): a STOPPED mirror zone inherits no cause and counts no
starve event. -/
def mirrorActive (s : State) : Bool := mirroring s && s.zone2.state != .stopped

/-- The mirror zone's ramp is at 0 with a cause raised: it acts by R113 (R132). It has no ring and asks for no flush. -/
def mirrorZero (s : State) : State :=
  let m := s.zone2.mutes
  if m.stop then enterZone .two .stopped (onZone .two Zone.cleared s)
  else if m.pause then
    if s.zone2.state = .playing ∨ s.zone2.state = .priming ∨ s.zone2.state = .starved then enterZone .two .paused s else s
  else if m.starve then
    if s.zone2.state = .playing then enterZone .two .starved s else s
  else s

/-- The mirror zone raises its own STOP with a reason (R131). DESIGN CHOICE, unsafe (log entry 50): its ZONE_STATE notice, when its ramp
is at 0, comes before zone 1's. -/
def mirrorStop (why : StopReason) (s : State) : State :=
  if mirrorActive s then
    let s := onZone .two (fun n => { n with causes := { n.causes with stop := true }, stopReason := why }) s
    if s.zone2.ramp = 0 then mirrorZero s else s
  else s

/-- What a mirror zone inherits from zone 1 as it stands (R131). -/
def inheritedFrom (n : Zone) : Causes :=
  { Causes.empty with
    protect := n.causes.protect, conceal := n.causes.conceal, starve := n.causes.starve || n.state == .paused }

/-- After a change of zone 1 the mirror zone's inherited causes follow it at the same event (R131, R132). DEDUCED,
unsafe (log entry 40): a STARVE inherited where a range begins counts a starve event too. DESIGN CHOICE, unsafe (log entry 50): its
ZONE_STATE notice follows zone 1's. DESIGN CHOICE, unsafe (log entry 60): a STOPPED mirror zone inherits nothing. -/
def mirrorSync (s : State) : State :=
  if mirrorActive s then
    let old := s.zone2.inherited
    let new := inheritedFrom s.zone1
    if new = old then s
    else
      let s := onZone .two (fun n => { n with inherited := new }) s
      let s := if new.starve ∧ ¬ old.starve then onZoneStats .two (fun t => { t with starves := bump 1 t.starves }) s else s
      let raised := (new.starve && !old.starve) || (new.protect && !old.protect) || (new.conceal && !old.conceal)
      if raised ∧ s.zone2.ramp = 0 then mirrorZero s
      else if !new.starve ∧ (s.zone2.state = .priming ∨ s.zone2.state = .starved) then enterZone .two .playing s
      else s
  else s

/-- Zone 1 enters PRIMING: a STOPPED mirror zone enters PRIMING with its own STOP cleared (R122, R132). Its ZONE_STATE notice
follows zone 1's (log entry 50). -/
def mirrorPrime (s : State) : State :=
  if mirroring s then
    if s.zone2.state = .stopped then
      mirrorSync (enterZone .two .priming (onZone .two (fun n => { n with causes := { n.causes with stop := false } }) s))
    else mirrorSync s
  else s

/-- Zone 1 has changed: the mirror follows. A change of zone 2 has no follower. -/
def follow (z : ZoneId) (s : State) : State :=
  match z with
  | .one => mirrorSync s
  | .two => s

/-! ## STARVE and the good depth report (R66, R117) -/

/-- The zone's ring can carry it at a threshold (R117): good depth at or above it, or everything that remains is held and
playable. -/
def ringReady (r : Ring) (threshold : Nat) : Bool :=
  decide (threshold ≤ r.goodDepth) || (r.phase == .done && r.goodDepth == r.depth && decide (1 ≤ r.depth))

/-- The threshold in force: the start threshold in PRIMING, the restart threshold otherwise (R117). -/
def Zone.threshold (n : Zone) : Nat := if n.state = .priming then n.set.start else n.set.restart

/-- The STARVE test of R117. A PAUSED zone keeps STARVE. -/
def starveTest (z : ZoneId) (s : State) : State :=
  let n := s.zone z
  match n.deck? with
  | some d =>
    if n.causes.starve ∧ n.state ≠ .stopped ∧ n.state ≠ .paused ∧ ringReady (s.deck d).ring n.threshold then
      let s := onZone z (fun n => { n with causes := { n.causes with starve := false } }) s
      let s := if n.state = .playing then s else enterZone z .playing s
      follow z s
    else s
  | none => s

/-- The ring reports its good depth to the zone whose source is the deck (R66, R117). PRESUMED, unsafe (log entry 27): after every
change of the ring, whether the good depth changed or not. -/
def reportGoodDepth (d : Deck) (s : State) : State :=
  match zoneOf d s with
  | some z => starveTest z s
  | none => s

end Sys2Proof.Machine
end

