-- ==== Sys2Proof/Machine/Rings.lean ====
section
/-!
DEFINITION. Records joining, changing and leaving a ring, truncation, flush (R67 to R73, R79), and what the planner's list does
with each (R84 to R89).
-/

namespace Sys2Proof.Machine

/-! ## The play edge (R69, R70) -/

/-- The record at the play edge (R70). -/
def Ring.edge (r : Ring) : Option SlotRecord := r.records.head?

/-! ## Additions (R67, R72) -/

/-- The fetch address moved on after an addition at `a` (R72). -/
def Ring.advance (r : Ring) (a : Nat) : Ring :=
  match r.fetchEnd with
  | some e =>
    if a < e then { r with fetchAddr := some (a + 1) }
    else
      match r.phase, r.cueCopy with
      | .current, some c => { r with phase := .cue, fetchAddr := some c.first, fetchEnd := some c.last }
      | _, _ => { r with phase := .done, fetchAddr := none, fetchEnd := none }
  | none => r

/-- The record appended at the tail at the fetch address, in the fetch segment (R67 steps 1 to 3). -/
def Ring.append (r : Ring) (t : Spot) (st : SlotState) (doubt : Nat) (data : Block) : Ring :=
  let records := r.records ++ [{ addr := t.addr, seg := t.seg, state := st, doubt := doubt, data := data }]
  Ring.advance { r with records := records, peak := max r.peak records.length } t.addr

/-- A record joins a deck's ring (R67 steps 1 to 3). -/
def addRecord (d : Deck) (t : Spot) (st : SlotState) (doubt : Nat) (data : Block) (s : State) : State :=
  onRing d (fun r => r.append t st doubt data) s

/-- Steps 4 and 5 of R67, which every addition passes through: the good depth report (R66) and the high-mark test (R76). -/
def reportAdded (d : Deck) (s : State) : State := onHigh d (reportGoodDepth d s)

/-- The contents of a placeholder: samples of value 0 with every mark set (R45, R103). -/
def placeholder : Block :=
  { samples := List.replicate Config.samplesPerBlock 0, marks := List.replicate Config.samplesPerBlock true }

/-- `g` placeholders in state `st` from address `f` upward, each a separate addition that passes through the five steps (R45, R58,
R67). -/
def addPlaceholders (d : Deck) (seg : Seg) (st : SlotState) : Nat → Nat → State → State
  | _, 0, s => s
  | f, g + 1, s =>
    addPlaceholders d seg st (f + 1) g (reportAdded d (addRecord d ⟨f, seg⟩ st Config.samplesPerBlock placeholder s))

/-! ## Changes in place (R68) -/

/-- Change the records an entry covers: DOUBTFUL becomes FINAL and MISSING becomes VOID (R87, R90). -/
def retire (e : Entry) (q : SlotRecord) : SlotRecord :=
  if e.covers ⟨q.addr, q.seg⟩ then
    match q.state with
    | .doubtful => { q with state := .final }
    | .missing => { q with state := .void }
    | _ => q
  else q

/-- Slots an entry covers that are MISSING. -/
def missingIn (r : Ring) (e : Entry) : Nat :=
  (r.records.filter fun q => q.state == .missing && e.covers ⟨q.addr, q.seg⟩).length

/-- The slots of an entry given up: each VOID slot is counted by the Intake Unit, and the ring reports (R66, R87, R90). -/
def retireSlots (d : Deck) (e : Entry) (s : State) : State :=
  let n := missingIn (s.deck d).ring e
  let s := onRing d (fun r => { r with records := r.records.map (retire e) }) s
  let s := onIntakeStats d (fun t => { t with voided := bump n t.voided }) s
  reportGoodDepth d s

/-- A slot leaves the entry that covers it (R87, R88, R89): the list shrinks or splits. -/
def leaveEntry (d : Deck) (p : Spot) (s : State) : State :=
  let (es, lost) := leaveList p (s.deck d).plan.entries
  let s := onPlan d (fun q => { q with entries := es }) s
  let s :=
    match lost with
    | some e => retireSlots d e s
    | none => s
  refreshEntries d s

/-- The record at a place changed in place, then the good depth report (R68). -/
def changeRecord (d : Deck) (p : Spot) (f : SlotRecord → SlotRecord) (s : State) : State :=
  reportGoodDepth d
    (onRing d (fun r => { r with records := r.records.map fun q => if q.at_ p then f q else q }) s)

/-! ## Truncation (R73, R89) -/

/-- The records of the cue segment (R65). -/
def Ring.cueRecords (r : Ring) : List SlotRecord := r.records.filter fun q => q.seg != r.tag

/-- The planner removes truncated slots from their entries, from the tail backward (R89). -/
def dropSlots (d : Deck) : List SlotRecord → State → State
  | [], s => s
  | q :: rest, s => dropSlots d rest (leaveEntry d ⟨q.addr, q.seg⟩ s)

/-- The cue segment removed (R73 step 1). -/
def truncateCue (d : Deck) (s : State) : State :=
  let gone := (s.deck d).ring.cueRecords
  if gone.isEmpty then s
  else
    let s := onRing d (fun r =>
      { r with records := r.records.filter (fun q => q.seg == r.tag), truncations := bump 1 r.truncations }) s
    let s := dropSlots d gone.reverse s
    onLow d (reportGoodDepth d s)

/-- The zone tells its ring of a CUE or of its cancellation (R73, R100, R123). -/
def cueRing (d : Deck) (c : Option PlayRange) (s : State) : State :=
  let s := truncateCue d s
  let before := (s.deck d).ring.phase
  let s := onRing d (fun r => { r with cueCopy := c }) s
  let toCue (c : PlayRange) (r : Ring) : Ring := { r with phase := .cue, fetchAddr := some c.first, fetchEnd := some c.last }
  match before, c with
  | .cue, some c => onTargetMoved d (onRing d (toCue c) s)
  | .cue, none => onTargetMoved d (onRing d (fun r => { r with phase := .done, fetchAddr := none, fetchEnd := none }) s)
  | .done, some c => onTargetMoved d (onRing d (toCue c) s)
  | .done, none => onTargetMoved d s
  | .idle, _ | .current, _ => s

/-! ## Flush (R79) -/

/-- The ring's own part of a flush (R79 steps 1 to 4). -/
def Ring.flushed (r : Ring) : Ring :=
  { r with records := [], phase := .idle, fetchAddr := none, fetchEnd := none, cueCopy := none, tag := false, overflow := false,
           flushes := bump 1 r.flushes }

/-- The Intake Unit's part of a flush (R38): the run context closes and the abandoned-run record is emptied. -/
def intakeFlushed (d : Deck) (s : State) : State :=
  onIntake d (fun i => { i with abandoned := none, abandonedBy := 0 }) (closeRun d s)

/-- The zone's part of a flush report (R139): no block in hand, carry values 0. -/
def zoneFlushed (d : Deck) (s : State) : State :=
  match zoneOf d s with
  | some z => onZone z (fun n => { n with block := none, runLeft := none, runRight := none, carry := Stereo.zero }) s
  | none => s

/-- A ring is flushed (R79). -/
def flush (d : Deck) (s : State) : State :=
  zoneFlushed d (plannerFlushed d (intakeFlushed d (onRing d Ring.flushed s)))

end Sys2Proof.Machine
end

