-- ==== Sys2Proof/Machine/Zones.lean ====
section
/-!
DEFINITION. What a zone does when its ramp is at 0, when a range begins, when a switch completes and when another block asks
it to stop (R113, R119, R121, R122).
-/

namespace Sys2Proof.Machine

/-- Entry into STOPPED with the reason already recorded (R113): the stop note is handed over first (R177), the zone's own
values are cleared, and its ring is flushed. -/
def enterStopped (z : ZoneId) (s : State) : State :=
  let n := s.zone z
  let s := takeNote z n.stopReason s
  let s := enterZone z .stopped (onZone z Zone.cleared s)
  follow z
    (match n.deck? with
    | some d => flush d s
    | none => s)

/-- PLAY_START refused by the planner (R122). PRESUMED, unsafe (log entry 26): a mirror zone takes it as a STOP of zone 1. -/
def startRefused (z : ZoneId) (s : State) : State :=
  let s := onZone z (fun n => { n with stopReason := .startRefused }) s
  enterStopped z
    (match z with
    | .one => mirrorStop .startRefused s
    | .two => s)

/-- What the beginning of a range does to the zone's own values (R121, R122, R139, R145). -/
def Zone.begun (r : PlayRange) (n : Zone) : Zone :=
  { n with range := some r, tag := false, cue := none, pendingRange := none, pendingCue := none, position := some r.first,
           endTaken := false, block := none, carry := Stereo.zero, runLeft := none, runRight := none, ramp := 0, clean := 0,
           concealWaits := false, causes := { Causes.empty with starve := true } }

/-- A range begins, from STOPPED or at the completion of a switch (R121, R122): flush, PRIMING, the pending cue if one is
held, PLAY_START. The zone's stop note is cleared (R177). -/
def beginRange (z : ZoneId) (r : PlayRange) (pendingCue : Option PlayRange) (s : State) : State :=
  match (s.zone z).deck? with
  | none => s
  | some d =>
    let s := setNote z none (onZone z (Zone.begun r) (flush d s))
    let s := enterZone z .priming s
    let s :=
      match z with
      | .one => mirrorPrime s
      | .two => s
    let s :=
      match pendingCue with
      | some c => cueRing d (some c) (onZone z (fun n => { n with cue := some c }) s)
      | none => s
    match playStart d r s with
    | some s => s
    | none => startRefused z s

/-- The ramp reaches 0, or is at 0 when a cause is raised: the first line of R113 that applies. A mirror zone acts by R132. -/
def reachZero (z : ZoneId) (s : State) : State :=
  let n := s.zone z
  if z = .two ∧ mirroring s = true then mirrorZero s
  else if n.causes.switch then
    match n.pendingRange with
    | some r => beginRange z r n.pendingCue s
    | none => s
  else if n.causes.stop then enterStopped z s
  else if n.causes.pause then
    if n.state = .playing ∨ n.state = .priming then follow z (enterZone z .paused s) else s
  else if n.causes.starve then
    if n.state = .playing then follow z (enterZone z .starved s) else s
  else s

/-- A cause has been raised (R112, R113): the mirror follows, and the zone acts at once when its ramp is at 0. -/
def raised (z : ZoneId) (s : State) : State :=
  let s := follow z s
  if (s.zone z).ramp = 0 then reachZero z s else s

/-- A stop request (R119). A mirror zone raises its own STOP with zone 1's (R131). PRESUMED, unsafe (log entry 25): a fast-fall
request addressed to a mirror zone raises PROTECT in the zone's own set. The mirror zone acts first (log entry 50). -/
def stopRequest (z : ZoneId) (why : StopReason) (fast : Bool) (s : State) : State :=
  let n := s.zone z
  if n.state = .stopped then s
  else
    let s := onZone z (fun n =>
      { n with causes := { n.causes with stop := true, switch := false, protect := n.causes.protect || fast },
               stopReason := why, pendingRange := none, pendingCue := none }) s
    let s :=
      match n.deck? with
      | some d => awaitFlush d s
      | none => s
    raised z
      (match z with
      | .one => mirrorStop why s
      | .two => s)

/-- The stop of the zone whose source is the deck, if one has it. -/
def stopZoneOf (d : Deck) (why : StopReason) (fast : Bool) (s : State) : State :=
  match zoneOf d s with
  | some z => stopRequest z why fast s
  | none => s

/-- An accepted PLAY (R121). -/
def playRange (z : ZoneId) (r : PlayRange) (s : State) : State :=
  let n := s.zone z
  match n.deck?, n.state with
  | none, _ => s
  | some _, .stopped => beginRange z r none s
  | some d, .priming | some d, .playing | some d, .starved | some d, .paused =>
    let switch (stop : Bool) (s : State) : State :=
      onZone z (fun n =>
        { n with causes := { n.causes with switch := true, stop := stop }, pendingRange := some r, pendingCue := none }) s
    let mirror (s : State) : State :=
      match z with
      | .one => mirrorStop .host s
      | .two => s
    if n.ramp = 0 then raised z (mirror (awaitFlush d (switch n.causes.stop s)))
    else
      let s := cueRing d none (onZone z (fun n => { n with cue := none }) (switch false s))
      raised z (mirror (awaitFlush d s))

/-- An accepted CUE (R123): while a switch is pending it is kept for the new range. -/
def cueRange (z : ZoneId) (c : Option PlayRange) (s : State) : State :=
  let n := s.zone z
  if n.causes.switch then onZone z (fun n => { n with pendingCue := c }) s
  else
    let s := onZone z (fun n => { n with cue := c }) s
    match n.deck? with
    | some d => cueRing d c s
    | none => s

/-- PAUSE is raised in the zone's own set (R112, R124). -/
def raisePause (z : ZoneId) (s : State) : State :=
  if (s.zone z).causes.pause then s
  else raised z (onZone z (fun n => { n with causes := { n.causes with pause := true } }) s)

/-- PAUSE taken by one zone (R124). A STARVED mirror zone takes it as well, and is PAUSED (R132). -/
def pauseZone (z : ZoneId) (s : State) : State :=
  match (s.zone z).state with
  | .playing | .priming => raisePause z s
  | .starved => if z = .two ∧ mirroring s = true then raisePause z s else s
  | .stopped | .paused => s

/-- UNPAUSE taken by a mirror zone that is PAUSED (R132). -/
def unpauseMirror (s : State) : State :=
  let s := onZone .two (fun n => { n with causes := { n.causes with pause := false } }) s
  if s.zone2.inherited.starve then enterZone .two (if s.zone1.state = .priming then .priming else .starved) s
  else enterZone .two .playing s

/-- UNPAUSE taken by one zone (R125). -/
def unpauseZone (z : ZoneId) (s : State) : State :=
  let n := s.zone z
  let unpaused (s : State) : State := onZone z (fun n => { n with causes := { n.causes with pause := false } }) s
  match n.state with
  | .playing => if n.causes.pause then follow z (unpaused s) else s
  | .paused =>
    match n.deck? with
    | none => if z = .two ∧ mirroring s = true then unpauseMirror s else s
    | some d =>
      let ready := ringReady (s.deck d).ring n.set.restart
      let s := onZone z (fun n => { n with causes := { n.causes with pause := false, starve := !ready } }) s
      follow z (enterZone z (if ready then .playing else .starved) s)
  | .stopped | .priming | .starved => s

end Sys2Proof.Machine
end

