-- ==== Sys2Proof/Machine/Repair.lean ====
section
/-!
DEFINITION. What the end of a run counts: attempts and abandoned entries (R90), new records (R85), the completion of a REPAIR
run (R101), failures (R102), voiding over (R103, R104), declined motion commands (R98), the backoff timer (R105).
-/

namespace Sys2Proof.Machine

/-! ## Attempts (R90) -/

/-- An entry is abandoned (R90). -/
def abandonEntry (d : Deck) (e : Entry) (s : State) : State :=
  let s := onPlan d (fun p => { p with entries := p.entries.filter (fun x => x.spot != e.spot) }) s
  let s := onPlanStats d (fun t => { t with abandoned := bump 1 t.abandoned }) (retireSlots d e s)
  raiseNotice (.deck d) (.repairAbandoned e.first e.count) s

/-- Every entry of a list is abandoned. DESIGN CHOICE, unsafe (log entry 49): in list order, so that their one REPAIR_ABANDONED entry in
the queue carries the last of them (R90, R198). -/
def abandonAll (d : Deck) : List Entry → State → State
  | [], s => s
  | e :: rest, s => abandonAll d rest (abandonEntry d e s)

/-- Every entry whose count is at or above the attempt limit is abandoned (R90). -/
def abandonReached (d : Deck) (s : State) : State :=
  let p := (s.deck d).plan
  abandonAll d (p.entries.filter fun e => decide (p.limit ≤ e.attempts)) s

/-- An entry of the run counts one attempt and returns to WAITING (R90). -/
def Entry.counted (e : Entry) : Entry :=
  if e.ofRun then { e with attempts := e.attempts + 1, active := false, ofRun := false } else e

/-- The end of a REPAIR run counts an attempt for each entry of the run that still exists (R90). -/
def countAttempts (d : Deck) (s : State) : State :=
  abandonReached d (onPlan d (fun p => { p with entries := p.entries.map Entry.counted }) s)

/-- The backoff timer starts or restarts (R105). -/
def startBackoff (d : Deck) (t : Spot) (s : State) : State :=
  onPlan d (fun p => { p with backoff := true, backoffTarget := some t }) s

/-! ## What the Intake Unit tells the planner -/

/-- A delivery of the run has been positioned (R42, R99, R102, R103). -/
def positionedTold (d : Deck) (s : State) : State :=
  let fetchType := (s.deck d).intake.ctx.job.isFetch
  onPlan d (fun p =>
    { p with seekMisses := 0, voids := 0, recovery := p.recovery && !fetchType,
             job := if p.job = .playStart then .fetch else p.job }) s

/-- A new entry of one slot, WAITING with no attempts (R85). -/
def Entry.single (p : Spot) : Entry :=
  { first := p.addr, seg := p.seg, count := 1, missing := false, attempts := 0, active := false, ofRun := false }

/-- The entry at the end of the list takes a new record by joining (R85). -/
def Entry.joins (e : Entry) (p : Spot) : Bool :=
  !e.active && decide (e.count < 8) && e.seg == p.seg && e.last + 1 == p.addr

/-- A DOUBTFUL record has been placed (R85). -/
def newRecord (d : Deck) (p : Spot) (doubt : Nat) (s : State) : State :=
  let q := (s.deck d).plan
  let add (s : State) : State :=
    if q.entries.length < Config.repairEntries then
      onPlan d (fun q => { q with entries := q.entries ++ [Entry.single p] }) s
    else onIntakeStats d (fun t => { t with listFull := bump 1 t.listFull }) s
  if doubt = 0 then s
  else if q.limit = 0 then changeRecord d p (fun r => { r with state := .final }) s
  else if doubt < q.threshold then s
  else
    match q.entries.getLast? with
    | some e =>
      if e.joins p then
        onPlan d (fun q => { q with entries := q.entries.dropLast ++ [{ e with count := e.count + 1 }] }) s
      else add s
    | none => add s

/-! ## Completion of a REPAIR run (R101) -/

/-- The run runs on (R101). -/
def runsOn (d : Deck) (sp : Span) (s : State) : Bool :=
  let u := s.deck d
  u.ring.fetchSpot == some ⟨sp.last + 1, sp.seg⟩ && decide (u.ring.depth < effHigh d s) && !u.plan.flushAwaited

/-- A REPAIR run is complete (R101); the Bool says that it runs on. The backoff starts when an attempt was counted. DEDUCED,
unsafe (log entry 37): the context's job is FETCH as R39 says, in fetch phase CUE too. DESIGN CHOICE, unsafe (log entry 57): the blind
flag, the last match outcome and recovery asked, which R39 names neither as taken nor as kept, are kept. -/
def completeRepair (d : Deck) (sp : Span) (s : State) : State × Bool :=
  let counts := (s.deck d).plan.entries.any (·.ofRun)
  let s := countAttempts d s
  let s := if counts then startBackoff d ⟨sp.first, sp.seg⟩ s else s
  if runsOn d sp s then
    let u := s.deck d
    let s := onCtx d (fun c => { c with job := .fetch, span := none, target := sp.last + 1, k := 0, reached := [] }) s
    let s := onPlan d (fun p =>
      { p with job := phaseName u, phase := .run, target := u.ring.fetchSpot, stats := { p.stats with runOns := bump 1 p.stats.runOns } }) s
    (s, true)
  else (decide_ d .failed (endRun d (release d s)), false)

/-! ## Failure (R99, R102, R103, R104) -/

/-- How a run fails (R102). A slip carries its slip address, if there is one (R25). -/
inductive Failure where
  | seekMiss
  | slip (a : Option Nat)
  | refusedGap
  | abandoned
  deriving DecidableEq, Repr

/-- The planner gives a range up (R99, R104): job NONE, flush-awaited set, and the zone is asked to stop. DEDUCED, unsafe (log
entry 20): the flag is set before the stop, which may flush at once and clear it. -/
def giveUp (d : Deck) (why : StopReason) (s : State) : State :=
  stopZoneOf d why false (awaitFlush d (noJob d (release d s)))

/-- The planner voids over the fetch address (R103, R104). DEDUCED, unsafe (log entry 41): its SEEK is sent while a flush is awaited
too. -/
def voidOver (d : Deck) (s : State) : State :=
  let u := s.deck d
  match u.ring.fetchSpot with
  | none => decide_ d .failed s
  | some t =>
    if u.ring.cap ≤ u.ring.depth then decide_ d .failed s
    else
      let s := reportAdded d (addRecord d t .void Config.samplesPerBlock placeholder s)
      let s := onIntakeStats d (fun t => { t with voided := bump 1 t.voided }) s
      let s := onPlan d (fun p => { p with voids := min 8 (p.voids + 1) }) s
      let u := s.deck d
      if u.plan.voids = 8 then giveUp d .unreadable s
      else
        match u.ring.fetchSpot with
        | some t => startRun d (planFor u .voidOver t none) s
        | none => decide_ d .failed s

/-- A failure of a fetch-type run counts in the seek-miss streak (R102). -/
def Failure.counts (f : Failure) (job : Job) (c : RunContext) : Bool :=
  job == .playStart || f == .seekMiss || f == .abandoned || c.lastPlaced.isNone

/-- A run has failed (R102). -/
def runFailed (d : Deck) (f : Failure) (s : State) : State :=
  let u := s.deck d
  let job := u.plan.job
  let s :=
    match f with
    | .slip (some a) => onPlan d (fun p => { p with lastSlip := some a }) s
    | .slip none | .seekMiss | .refusedGap | .abandoned => s
  let s :=
    match u.plan.target with
    | some t => startBackoff d t s
    | none => s
  if job = .repair then decide_ d .failed (endRun d (release d (countAttempts d s)))
  else if job.isFetch then
    let counts := f.counts job u.intake.ctx
    let s := onPlan d (fun p => { p with recovery := p.recovery || job != .playStart }) s
    let s :=
      if counts then
        onPlan d (fun p =>
          { p with seekMisses := min 3 (p.seekMisses + 1), stats := { p.stats with seekMisses := bump 1 p.stats.seekMisses } }) s
      else s
    let s := endRun d (release d s)
    if counts ∧ (s.deck d).plan.seekMisses = 3 then
      if job = .playStart then giveUp d .seekFailed s else voidOver d s
    else decide_ d .failed s
  else decide_ d .failed (release d s)

/-! ## Declined motion commands and the backoff timer (R98, R105) -/

/-- The stall was declined (R98). -/
def onStallDeclined (d : Deck) (s : State) : State :=
  let u := s.deck d
  if u.plan.phase = .held ∧ u.link.state = .streaming then onPlan d (fun p => { p with phase := .run }) s else s

/-- The PROCEED was declined (R98): SEEK to the fetch address as if the resume method had answered SEEK. DEDUCED, unsafe (log entry
58): while a flush is awaited no SEEK is sent, by step 1 of R95, and the deck is released. -/
def onProceedDeclined (d : Deck) (s : State) : State :=
  let s := endRun d s
  let u := s.deck d
  if u.plan.flushAwaited ∨ ¬ u.ring.fetching then decide_ d .over s else seekFetch d s

/-- The backoff timer expires (R105). -/
def onBackoffExpired (d : Deck) (s : State) : State :=
  if (s.deck d).plan.backoff then
    decisionPoint d (onPlan d (fun p => { p with backoff := false, backoffTarget := none }) s)
  else s

end Sys2Proof.Machine
end

