-- ==== Sys2Proof/Machine/Intake.lean ====
section
/-!
DEFINITION. The Intake Unit: staleness and expectation (R40), the address of a delivery (R49 to R54), classification (R41),
placement, gaps, overflow and strays (R42 to R48), revisits and merging (R55 to R57).
-/

namespace Sys2Proof.Machine

/-! ## The run (R39, R41, R42) -/

/-- The ring segment of the run: the span's for REPAIR, the fetch segment for a fetch-type job (R39, R41). -/
def runSeg (u : DeckUnit) : Option Seg :=
  match u.intake.ctx.span with
  | some sp => some sp.seg
  | none => u.ring.fetchSeg

/-- The run's target with its segment. -/
def runTarget (u : DeckUnit) : Option Spot := (runSeg u).map fun g => ⟨u.intake.ctx.target, g⟩

/-- The abandoned-run record names the run's target (R42, R54). -/
def namesTarget (u : DeckUnit) : Bool := u.intake.abandoned.isSome && u.intake.abandoned == runTarget u

/-- A positioned delivery at `a` (R42). DEDUCED, unsafe (log entry 15): these effects come before the ring's change. -/
def positioned (d : Deck) (a : Nat) (s : State) : State :=
  let s := if namesTarget (s.deck d) then onIntake d (fun i => { i with abandoned := none, abandonedBy := 0 }) s else s
  positionedTold d (onCtx d (fun c => { c with anchor := some a, lastPlaced := some a, streak := 0 }) s)

/-- A delivery that is not positioned (R42). -/
def unanchored (d : Deck) (s : State) : State := onCtx d (fun c => { c with anchor := none }) s

/-! ## Placement (R43 to R47) -/

/-- The entries the planner had before, by first slot. -/
def isNewSpot (before : List Entry) (e : Entry) : Bool := before.all fun x => x.spot != e.spot

/-- The decision points that a placement makes once its record has been reported (R93, R97): an urgent entry at its creation,
the repair floor, an entry added on a deck at rest. `before` is the deck as the delivery found it (log entry 17). DESIGN CHOICE, unsafe (log
entry 59): an entry without missing slots that turns urgent because placeholders join it is an urgent entry that appears, too. -/
def afterPlacement (d : Deck) (before : DeckUnit) (s : State) : State :=
  let u := s.deck d
  let wasUrgent := before.plan.entries.filter (urgent before)
  let freshUrgent := u.plan.entries.any fun e => urgent u e && isNewSpot wasUrgent e
  let floorHit :=
    decide (before.ring.depth < u.plan.floor) && decide (u.plan.floor ≤ u.ring.depth) && u.plan.fetchRunning &&
      u.plan.entries.any (eligible (guardOpen s) u)
  let added := u.plan.entries.any (isNewSpot before.plan.entries) && (u.link.state == .stalled || u.link.state == .ready)
  if freshUrgent || floorHit then breakPoint d s
  else if added then decisionPoint d s
  else s

/-- A block is added at the tail at address `a`, which is the fetch address (R43, R67). -/
def placeBlock (d : Deck) (a : Nat) (g : Seg) (b : Block) (s : State) : State :=
  let doubt := doubtCount b.marks
  let phase := (s.deck d).ring.phase
  let s := addRecord d ⟨a, g⟩ (if doubt = 0 then .good else .doubtful) doubt b s
  let s := if (s.deck d).ring.phase = phase then s else onFetched d a s
  let s := reportAdded d s
  let s := onIntakeStats d (fun t => { t with placedNew := bump 1 t.placedNew }) s
  newRecord d ⟨a, g⟩ doubt s

/-- Placed as new (R43). -/
def placeNew (d : Deck) (a : Nat) (g : Seg) (b : Block) (s : State) : State :=
  afterPlacement d (s.deck d) (placeBlock d a g b (positioned d a s))

/-- A gap is taken (R45, R86): the placeholders are covered, then added one by one, and the delivered block after them (R58). DESIGN
CHOICE, unsafe (log entry 48): all of them are covered before the first is added, so that a HIGH report between two additions finds an
entry whose later slots are still to come. -/
def placeGap (d : Deck) (f a : Nat) (g : Seg) (b : Block) (s : State) : State :=
  let u := s.deck d
  let n := a - f
  let s := positioned d a s
  let s :=
    if u.plan.limit = 0 then
      onIntakeStats d (fun t => { t with voided := bump n t.voided }) (addPlaceholders d g .void f n s)
    else
      let j := min n (roomToJoin u.ring u.plan.entries)
      addPlaceholders d g .missing f n (onPlan d (fun p => { p with entries := coverGap f g n j p.entries }) s)
  afterPlacement d u (placeBlock d a g b s)

/-- The gap is taken (R45). -/
def gapTaken (u : DeckUnit) (n : Nat) : Bool :=
  decide (n ≤ u.intake.gapLimit) && decide (u.ring.depth + n + 1 ≤ u.ring.cap) &&
    (u.plan.limit == 0 || canCover u.ring u.plan.entries n)

/-- A refused gap (R46, R102). -/
def refuseGap (d : Deck) (s : State) : State :=
  let asked := (s.deck d).intake.ctx.asked
  let s := unanchored d s
  if asked then s else runFailed d .refusedGap (onCtx d (fun c => { c with asked := true }) s)

/-- An overflow (R44). -/
def overflow (d : Deck) (a : Nat) (s : State) : State :=
  positioned d a
    (onIntakeStats d (fun t => { t with overflows := bump 1 t.overflows }) (onRing d (fun r => { r with overflow := true }) s))

/-- A stray delivery (R47). -/
def stray (d : Deck) (s : State) : State :=
  unanchored d (onIntakeStats d (fun t => { t with stray := bump 1 t.stray }) s)

/-! ## Revisits and merging (R55 to R57) -/

/-- The merge of R56, position by position: stored samples, stored marks, delivered samples, delivered marks. The answer is the
merged samples, the merged marks, and the disagreements. -/
def mergeSamples (missing : Bool) : List Sample → List Bool → List Sample → List Bool → List Sample × List Bool × Nat
  | v :: vs, m :: ms, w :: ws, n :: ns =>
    let (xs, ks, c) := mergeSamples missing vs ms ws ns
    match m, n with
    | true, false => (w :: xs, false :: ks, c)
    | true, true => ((if missing then w else v) :: xs, true :: ks, c)
    | false, true => (v :: xs, false :: ks, c)
    | false, false => (v :: xs, false :: ks, if v = w then c else c + 1)
  | vs, ms, _, _ => (vs, ms, 0)

/-- The state of a slot after a merge (R57). -/
def mergedState (before : SlotState) (count : Nat) : SlotState :=
  if count = 0 then .repaired
  else
    match before with
    | .missing => .doubtful
    | .void => if count < Config.samplesPerBlock then .final else .void
    | .good | .doubtful | .repaired | .final => before

/-- The record after a merge, and the disagreements (R56, R57). -/
def mergeRecord (q : SlotRecord) (b : Block) : SlotRecord × Nat :=
  let all := q.state == .missing || q.state == .void
  let marks := if all then q.data.marks.map (fun _ => true) else q.data.marks
  let (xs, ks, c) := mergeSamples (q.state == .missing) q.data.samples marks b.samples b.marks
  let count := doubtCount ks
  ({ q with state := mergedState q.state count, doubt := count, data := { samples := xs, marks := ks } }, c)

/-- A revisit of a slot that is not doubt-free is merged (R56, R57). -/
def mergeInto (d : Deck) (q : SlotRecord) (b : Block) (s : State) : State :=
  let p : Spot := ⟨q.addr, q.seg⟩
  let (q', c) := mergeRecord q b
  let s := changeRecord d p (fun _ => q') s
  let s := onIntakeStats d (fun t =>
    { t with merged := bump 1 t.merged, disagreements := bump c t.disagreements,
             repaired := if q'.state = .repaired then bump 1 t.repaired else t.repaired }) s
  if q'.state = .repaired then leaveEntry d p s else refreshEntries d s

/-- Every slot of the span still in the ring has received a positioned delivery in the run (R101). -/
def spanReached (u : DeckUnit) (sp : Span) : Bool :=
  u.ring.records.all fun q =>
    !(q.seg == sp.seg && decide (sp.first ≤ q.addr ∧ q.addr ≤ sp.last)) || u.intake.ctx.reached.contains q.addr

/-- A revisit (R55, R56), with the completion test of a REPAIR run (R101). -/
def revisit (d : Deck) (q : SlotRecord) (b : Block) (s : State) : State :=
  let s := positioned d q.addr s
  let s := if isAnchor q then s else mergeInto d q b s
  let s := onCtx d (fun c => { c with reached := q.addr :: c.reached }) s
  let u := s.deck d
  match u.intake.ctx.span with
  | some sp => if spanReached u sp then (completeRepair d sp s).1 else s
  | none => s

/-! ## Classification (R41, R48) -/

/-- The table of R41 for a fetch-type job. -/
def classifyFetch (d : Deck) (a : Nat) (b : Block) (s : State) : State :=
  let u := s.deck d
  let held (g : Seg) : Option SlotRecord := u.ring.find ⟨a, g⟩
  match u.ring.fetchAddr, u.ring.fetchEnd, u.ring.fetchSeg with
  | some f, some e, some g =>
    if a = f ∧ u.ring.depth < u.ring.cap then placeNew d a g b s
    else
      match held g with
      | some q => revisit d q b s
      | none =>
        if f < a ∧ a ≤ e ∧ u.ring.depth < u.ring.cap then
          if gapTaken u (a - f) then placeGap d f a g b s else refuseGap d s
        else if u.ring.depth = u.ring.cap ∧ (a = f ∨ (f < a ∧ a ≤ e)) then overflow d a s
        else stray d s
  | _, _, _ => stray d s

/-- A delivery with an address is classified (R41, R48). -/
def classify (d : Deck) (a : Nat) (b : Block) (s : State) : State :=
  let u := s.deck d
  match u.intake.ctx.span with
  | some sp =>
    if sp.last < a then
      match completeRepair d sp s with
      | (s, true) => classifyFetch d a b s
      | (s, false) => s
    else
      match u.ring.find ⟨a, sp.seg⟩ with
      | some q => revisit d q b s
      | none => stray d s
  | none => classifyFetch d a b s

/-! ## Matching (R51, R52) -/

/-- Nearness to `t`: by distance, the lower address first (R51). -/
def nearer (t : Nat) (p q : SlotRecord) : Bool :=
  let m := (p.addr - t) + (t - p.addr)
  let n := (q.addr - t) + (t - q.addr)
  decide (m < n) || (m == n && decide (p.addr ≤ q.addr))

/-- A record inserted into a list sorted by nearness. -/
def insertNear (t : Nat) (q : SlotRecord) : List SlotRecord → List SlotRecord
  | [] => [q]
  | p :: rest => if nearer t q p then q :: p :: rest else p :: insertNear t q rest

/-- The candidates of R51, nearest first, at most 8. -/
def candidates (r : Ring) (g : Seg) (t k : Nat) : List SlotRecord :=
  ((r.records.filter fun q => q.seg == g && decide (t - k ≤ q.addr)).foldr (insertNear t) []).take 8

/-- Comparable positions, and whether every one of them is equal (R52). -/
def compareSamples : List Sample → List Bool → List Sample → List Bool → Nat × Bool
  | v :: vs, m :: ms, w :: ws, n :: ns =>
    let (c, e) := compareSamples vs ms ws ns
    if m || n then (c, e) else (c + 1, e && v == w)
  | _, _, _, _ => (0, true)

/-- The candidate matches the delivery (R52). -/
def matchesBlock (b : Block) (q : SlotRecord) : Bool :=
  let (c, e) := compareSamples q.data.samples q.data.marks b.samples b.marks
  decide (1024 ≤ c) && e

/-- The abandoned-run record after an abandoned run (R54). A run that is left with no segment, its range fetched, leaves the
record as it was (DEDUCED, unsafe, log entry 39). -/
def abandonedAfter (u : DeckUnit) (i : Intake) : Intake :=
  match runTarget u with
  | some t =>
    if i.abandoned = some t then { i with abandonedBy := min 3 (i.abandonedBy + 1) }
    else { i with abandoned := some t, abandonedBy := 1 }
  | none => i

/-- An unplaced delivery (R52, R53, R54). -/
def unplaced (d : Deck) (s : State) : State :=
  let u := s.deck d
  let s := unanchored d (onIntakeStats d (fun t => { t with unplaced := bump 1 t.unplaced }) s)
  if u.intake.ctx.streak < 3 then onCtx d (fun c => { c with streak := c.streak + 1 }) s
  else
    let s := onCtx d (fun c => { c with streak := 0, status := .abandoned }) s
    runFailed d .abandoned (onIntake d (abandonedAfter u) s)

/-- Matching against the ring (R51, R52). -/
def matching (d : Deck) (b : Block) (s : State) : State :=
  let u := s.deck d
  let c := u.intake.ctx
  let found :=
    match runSeg u with
    | some g => (candidates u.ring g c.target c.k).filter (matchesBlock b)
    | none => []
  let outcome (o : MatchOutcome) (s : State) : State := onCtx d (fun c => { c with outcome := o }) s
  match found with
  | [] => unplaced d (outcome .noMatch s)
  | [q] => classify d q.addr b (outcome .matched s)
  | _ :: _ :: _ => unplaced d (outcome .ambiguous s)

/-! ## A delivery (R40, R49, R50) -/

/-- The delivery passes the tests of R40. -/
def expected (u : DeckUnit) (tag : Tag) : Bool :=
  u.link.runTag == some tag && (u.link.state == .seeking || u.link.state == .streaming) &&
    u.intake.ctx.status == .opened && u.intake.ctx.runTag == tag

/-- The Intake Unit takes a delivery passed on by the DLU (R40, R41, R49, R50). -/
def intake (d : Deck) (tag : Tag) (v : DeliveryArgs) (s : State) : State :=
  let u := s.deck d
  let c := u.intake.ctx
  let b : Block := { samples := v.samples, marks := v.marks }
  if !expected u tag then s
  else if v.valid then classify d v.addr.toNat b s
  else
    match c.anchor with
    | some p => classify d (p + 1) b s
    | none =>
      if c.blind then classify d c.target b (onCtx d (fun c => { c with blind := false }) s)
      else if c.k = 0 ∧ c.lastPlaced = none then classify d c.target b s
      else matching d b s

end Sys2Proof.Machine
end

