-- ==== Sys2Proof/Machine/Tray.lean ====
section
/-!
DEFINITION. The Tray Supervisor: debounce (R167), the protect sequence (R169, R171), closing and reload (R172, R173), the search
and automatic resume (R178, R179).
-/

namespace Sys2Proof.Machine

/-! ## Reload (R171, R173) -/

/-- The reload (R173): FETCH_DISC with the last magazine slot, refused in any state but NO_DISC (R27). -/
def reload (d : Deck) (s : State) : State :=
  let l := (s.deck d).link
  match l.state, l.lastSlot with
  | .noDisc, some slot => (request d { command := .fetchDisc slot, from_ := .tray, plan := none } s).1
  | _, _ => s

/-- Auto-reload and the last magazine slot allow a reload (R172, R183). -/
def reloadAllowed (d : Deck) (s : State) : Bool := s.tray.autoReload && (s.deck d).link.lastSlot.isSome

/-- The PARK with purpose TRAY is complete (R171). -/
def parkDone (d : Deck) (s : State) : State :=
  if (s.side d).reload then
    let s := onSide d (fun t => { t with reload := false }) s
    if reloadAllowed d s then reload d s else s
  else s

/-- A PARK with purpose TRAY is outstanding or waits (R172). -/
def Link.parkingForTray (l : Link) : Bool :=
  (match l.outstanding with
    | some o => o.command == .park .tray
    | none => false) ||
  (match l.waiting with
    | some r => r.command == .park .tray
    | none => false)

/-! ## Opening and closing -/

/-- The protect sequence (R169). DEDUCED, unsafe (log entry 52): a zone whose ramp is at 0 is stopped and its ring flushed within step 3
(R119), so that a deck that moves is released there, with a STALL, before the PARK of step 4. -/
def protect (d : Deck) (s : State) : State :=
  let s := onSide d (fun t => { t with reload := false }) s
  let s := writeZoneRecord d .tray s
  let mirrored := zoneOf d s == some .one && mirroring s
  let s := stopZoneOf d .trayOpen true s
  let s := if mirrored then stopRequest .two .trayOpen true s else s
  let s := (request d { command := .park .tray, from_ := .tray, plan := none } s).1
  let s := flush d (cancelJob d s)
  raiseNotice (.deck d) (.trayChanged .opened) (discardDisc d s)

/-- The closing (R172). -/
def closing (d : Deck) (s : State) : State :=
  let s := raiseNotice (.deck d) (.trayChanged .closed) s
  if !reloadAllowed d s then s
  else if (s.deck d).link.parkingForTray then onSide d (fun t => { t with reload := true }) s
  else reload d s

/-! ## Debounce (R167) -/

/-- A tray line changes (R167). While debouncing is stopped only the line's level is followed. -/
def trayLine (d : Deck) (level : Level) (s : State) : State :=
  let t := s.side d
  if t.line = level then s
  else
    let timer := if s.tray.debouncing then (if level = t.level then none else some s.tray.debounce) else t.timer
    onSide d (fun t => { t with line := level, timer := timer }) s

/-- A debounce timer expires (R167). -/
def trayDebounced (d : Deck) (s : State) : State :=
  let t := s.side d
  match t.timer with
  | none => s
  | some _ =>
    let s := onSide d (fun t => { t with timer := none, level := t.line }) s
    match t.line with
    | .opened => protect d s
    | .closed => closing d s

/-! ## Lookup and resume (R178, R179) -/

/-- The record with a fingerprint (R178, R180). -/
def findRecord (f : BitVec 32) (s : State) : Option ResumeRecord :=
  s.tray.table.find? fun r => r.fingerprint == f

/-- The table without the record of a fingerprint (R179, R181). -/
def dropRecord (f : BitVec 32) (s : State) : State :=
  { s with tray := { s.tray with table := s.tray.table.filter fun r => r.fingerprint != f } }

/-- The range to resume a record with, checked (R179). -/
def resumeRange (r : ResumeRecord) (c : Option Catalogue) (s : State) : RangeAnswer :=
  rangeCheck c (max r.range.first (r.position - s.tray.rewind)) r.range.last

/-- The record's cue, checked (R179 step 3, R180). -/
def resumeCue (r : ResumeRecord) (c : Option Catalogue) : Option RangeAnswer :=
  r.cue.map fun q => rangeCheck c q.first q.last

/-- A record resumes a zone with an accepted range (R179 steps 1 to 3). The cue is given while the zone is not STOPPED (R123). -/
def beginResume (z : ZoneId) (r : ResumeRecord) (c : Option Catalogue) (range : PlayRange) (s : State) : State :=
  let s := beginRange z range none (dropRecord r.fingerprint s)
  match resumeCue r c with
  | some (.accepted q _) => if (s.zone z).state = .stopped then s else cueRange z (some q) s
  | some (.refused _) | none => s

/-- The search of the resume table (R178). -/
def searchResume (d : Deck) (s : State) : State :=
  match (s.deck d).link.usable with
  | none => s
  | some c =>
    if (s.side d).level = .opened then s
    else
      match findRecord c.fingerprint s with
      | none => s
      | some r =>
        let s := { s with tray := { s.tray with table := s.tray.table.map fun q =>
          if q.fingerprint = r.fingerprint then { q with deck := d } else q } }
        let found (s : State) : State := raiseNotice (.deck d) (.resumeMatch r.zone r.position r.fingerprint) s
        let n := s.zone r.zone
        if inStandby s = true ∨ n.source ≠ .deck d ∨ s.tray.autoResume = false ∨ n.state ≠ .stopped then found s
        else
          match resumeRange r (some c) s with
          | .refused _ => found s
          | .accepted range _ => beginResume r.zone r (some c) range s

end Sys2Proof.Machine
end

