-- ==== Sys2Proof/Machine/Decks.lean ====
section
/-!
DEFINITION. What a DLU does with each report, timer expiry and delivery (R15 to R34): completions (R21), seek misses and slips
(R24, R25), FAULT (R33).
-/

namespace Sys2Proof.Machine

/-- A report that is not current, or cannot complete the command it names, is ignored and counted (R17). -/
def staleReport (d : Deck) (s : State) : State := onLink d (fun l => { l with stales := bump 1 l.stales }) s

/-- The outstanding command is no longer outstanding; its timers stop (R15, R16, R21). -/
def clearOutstanding (d : Deck) (s : State) : State := onLink d (fun l => { l with outstanding := none }) s

/-- The outstanding command when it carries this tag (R17). -/
def Link.current (l : Link) (tag : Tag) : Option Outstanding := l.outstanding.filter fun o => o.tag == tag

/-! ## FAULT (R33) -/

/-- A usable catalogue becomes unusable (R5, R33). -/
def Disc.faulted : Disc → Disc
  | .usable c => .unusable c
  | .unusable c => .unusable c
  | .absent => .absent

/-- A deck enters FAULT (R33). DEDUCED, unsafe (log entry 23): a waiting host command is dropped without a DISPLACED notice. -/
def enterFault (d : Deck) (cause : FaultCause) (s : State) : State :=
  let waiting := (s.deck d).link.waiting
  let s := onLink d (fun l =>
    { l with state := .fault, cause := .fault cause, faultCause := some cause, outstanding := none, waiting := none,
             gapTimer := false, runTag := none }) s
  let s :=
    match waiting with
    | some w => tellDropped d w s
    | none => s
  let s := writeZoneRecord d .fault s
  let s := onLink d (fun l => { l with disc := l.disc.faulted }) s
  let s := cancelJob d (flush d (stopZoneOf d .deckFault true s))
  announce d (onSide d (fun t => { t with reload := false }) s)

/-! ## Landing, seek miss, slip (R22 to R25) -/

/-- The SEEK lands (R22): by LANDED, with its address, or by the run's first delivery. -/
def land (d : Deck) (a : Option Nat) (s : State) : State :=
  onLink d (fun l =>
    { l with outstanding := none, state := .streaming, gapTimer := true, lastLanded := a, byDelivery := a.isNone }) s

/-- The run ends with the deck READY (R24, R25). -/
def runEnds (d : Deck) (s : State) : State :=
  onLink d (fun l => { l with outstanding := none, state := .ready, runTag := none, gapTimer := false }) s

/-- A seek miss (R24). -/
def seekMissed (d : Deck) (s : State) : State := runFailed d .seekMiss (runEnds d s)

/-- A slip (R25). -/
def slipped (d : Deck) (a : Option Nat) (s : State) : State := runFailed d (.slip a) (runEnds d s)

/-! ## Acknowledgement (R15) -/

/-- A command is acknowledged: its completion timer starts, or it is complete (R15, R21, R23, R34). -/
def acknowledged (d : Deck) (o : Outstanding) (s : State) : State :=
  match o.command with
  | .seek _ | .fetchDisc _ | .readIndex | .stowDisc _ | .park _ =>
    onLink d (fun l => { l with outstanding := some { o with timer := .completion } }) s
  | .stall =>
    onLink d (fun l =>
      { l with outstanding := none, gapTimer := false, state := if l.state = .streaming then .stalled else l.state }) s
  | .proceed => onLink d (fun l => { l with outstanding := none, state := .streaming, gapTimer := true }) s
  | .linkReset =>
    let fault := (s.deck d).link.state == .fault
    let s := clearOutstanding d s
    sendWaiting d fault (if fault then toNoDisc d .reset s else s)

/-- TAKEN (R15, R17). DEDUCED, unsafe (log entry 22): a TAKEN that carries the run tag is a duplicate too. DEDUCED, unsafe (log entry
56): one for a command that is already complete, neither outstanding nor the run's, is counted as stale. -/
def takenReport (d : Deck) (tag : Tag) (s : State) : State :=
  let l := (s.deck d).link
  match l.current tag with
  | some o =>
    match o.timer with
    | .acknowledge => acknowledged d o s
    | .completion => s
  | none => if l.runTag = some tag then s else staleReport d s

/-! ## Completion (R21, R28 to R32) -/

/-- FETCH_DISC ends with no disc in the deck (R28). -/
def fetchEnds (d : Deck) (why : DeckReason) (s : State) : State :=
  sendWaiting d true (toNoDisc d why (clearOutstanding d s))

/-- STOW_DISC is complete (R30). -/
def stowed (d : Deck) (byUnload : Bool) (s : State) : State :=
  let s := onLink d (fun l => { l with lastSlot := if byUnload then none else l.lastSlot }) (clearOutstanding d s)
  sendWaiting d true (toNoDisc d .unloaded s)

/-- A PARKED deck becomes READY (R32, R35). -/
def unpark (d : Deck) (s : State) : State :=
  if (s.deck d).link.state = .parked then
    raiseNotice (.deck d) (.deckState .ready none none none) (onLink d (fun l => { l with state := .ready, runTag := none }) s)
  else s

/-- PARK is complete (R31, R171, R207). DEDUCED, unsafe (log entry 36): with the phase AWAKE the deck passes through PARKED, and both
notices are raised. -/
def parkComplete (d : Deck) (p : Purpose) (s : State) : State :=
  let s := clearOutstanding d s
  match p with
  | .tray => parkDone d (sendWaiting d true (toNoDisc d .tray s))
  | .standby =>
    let s := sendWaiting d true (onLink d (fun l => { l with state := .parked }) s)
    if inStandby s then s else unpark d s

/-! ## Acknowledge and completion timers (R15, R16, R18) -/

/-- The acknowledge timer expires (R15). -/
def ackExpired (d : Deck) (s : State) : State :=
  match (s.deck d).link.outstanding with
  | none => s
  | some o =>
    match o.timer with
    | .completion => s
    | .acknowledge =>
      if o.resends < 2 then
        onLink d (fun l =>
          { l with outstanding := some { o with resends := o.resends + 1 }, resends := bump 1 l.resends,
                   sent := l.sent ++ [{ command := o.command, tag := o.tag }] }) s
      else enterFault d .ackTimeout s

/-- The completion timer expires (R16). -/
def completionExpired (d : Deck) (s : State) : State :=
  match (s.deck d).link.outstanding with
  | none => s
  | some o =>
    match o.timer with
    | .acknowledge => s
    | .completion => if o.command.isMechanical then enterFault d .mechTimeout s else seekMissed d s

/-- The delivery gap timer expires (R25). -/
def gapExpired (d : Deck) (s : State) : State :=
  let u := s.deck d
  if u.link.gapTimer ∧ u.link.state = .streaming then slipped d u.intake.ctx.lastPlaced s else s

/-! ## The other reports -/

/-- DECLINED (R18). -/
def declinedReport (d : Deck) (tag : Tag) (reason : Nat) (s : State) : State :=
  match (s.deck d).link.current tag with
  | none => staleReport d s
  | some o =>
    let s := onLink d (fun l => { l with decline := some reason, declines := bump 1 l.declines }) s
    match o.command with
    | .seek _ => seekMissed d s
    | .stall => onStallDeclined d (clearOutstanding d s)
    | .proceed => onProceedDeclined d (clearOutstanding d s)
    | .fetchDisc _ => fetchEnds d .declined s
    | .stowDisc byUnload => stowed d byUnload s
    | .readIndex | .park _ => enterFault d .declined s
    | .linkReset => ackExpired d s

/-- LANDED (R17, R22). On the run tag it is current only while the deck is STREAMING in a run whose SEEK the first delivery landed; any
other is stale. DEDUCED, unsafe (log entry 43): a further LANDED of such a run is recorded as the first is. -/
def landedReport (d : Deck) (tag : Tag) (a : Nat) (s : State) : State :=
  let l := (s.deck d).link
  match l.current tag with
  | some o =>
    match o.command with
    | .seek _ => land d (some a) s
    | _ => staleReport d s
  | none =>
    if l.runTag = some tag ∧ l.state = .streaming ∧ l.byDelivery = true then
      onLink d (fun l => { l with lastLanded := some a }) s
    else staleReport d s

/-- SEEK_MISS (R24). -/
def seekMissReport (d : Deck) (tag : Tag) (s : State) : State :=
  match (s.deck d).link.current tag with
  | some o =>
    match o.command with
    | .seek _ => seekMissed d s
    | _ => staleReport d s
  | none => staleReport d s

/-- TRACK_SLIP (R24, R25). -/
def trackSlipReport (d : Deck) (tag : Tag) (a : Nat) (s : State) : State :=
  let l := (s.deck d).link
  if l.runTag = some tag then
    match l.state with
    | .seeking => seekMissed d s
    | .streaming => slipped d (some a) s
    | .stalled => if l.proceeding then slipped d (some a) s else s
    | _ => staleReport d s
  else staleReport d s

/-- DISC_IN (R28): READ_INDEX is the follow-on, placed and sent by R21. -/
def discInReport (d : Deck) (tag : Tag) (s : State) : State :=
  match (s.deck d).link.current tag with
  | some o =>
    match o.command with
    | .fetchDisc _ =>
      let s := onLink d (fun l => { l with state := .identifying }) (clearOutstanding d s)
      sendWaiting d true (placeWaiting d { command := .readIndex, from_ := .dlu, plan := none } s).1
    | _ => staleReport d s
  | none => staleReport d s

/-- SLOT_EMPTY (R28). -/
def slotEmptyReport (d : Deck) (tag : Tag) (s : State) : State :=
  match (s.deck d).link.current tag with
  | some o =>
    match o.command with
    | .fetchDisc _ => fetchEnds d .emptySlot (onLink d (fun l => { l with lastSlot := none }) s)
    | _ => staleReport d s
  | none => staleReport d s

/-- INDEX (R6, R7, R29). DEDUCED, unsafe (log entry 21): a waiting command is sent before the search is asked for. -/
def indexReport (d : Deck) (tag : Tag) (count : Byte) (leadOut : BitVec 24) (entries : List TrackField) (ragged : Bool)
    (s : State) : State :=
  match (s.deck d).link.current tag with
  | some o =>
    match o.command with
    | .readIndex =>
      let s := clearOutstanding d s
      if validIndex count leadOut entries ragged then
        let c := catalogueOf leadOut entries
        let s := onLink d (fun l => { l with state := .ready, disc := .usable c }) s
        let s := raiseNotice (.deck d) (.discIdentified c.fingerprint) s
        searchResume d (sendWaiting d false s)
      else sendWaiting d true (toNoDisc d .unreadable s)
    | _ => staleReport d s
  | none => staleReport d s

/-- STOWED (R30). -/
def stowedReport (d : Deck) (tag : Tag) (s : State) : State :=
  match (s.deck d).link.current tag with
  | some o =>
    match o.command with
    | .stowDisc byUnload => stowed d byUnload s
    | _ => staleReport d s
  | none => staleReport d s

/-- PARKED (R31). -/
def parkedReport (d : Deck) (tag : Tag) (s : State) : State :=
  match (s.deck d).link.current tag with
  | some o =>
    match o.command with
    | .park p => parkComplete d p s
    | _ => staleReport d s
  | none => staleReport d s

/-- DECK_TROUBLE (R17, R33). -/
def deckTroubleReport (d : Deck) (code : Nat) (s : State) : State :=
  if (s.deck d).link.state = .fault then s
  else enterFault d .trouble (onLink d (fun l => { l with trouble := some code }) s)

/-! ## Deliveries (R26) -/

/-- The delivery's own effects on the link (R26). The gap timer restarts with no change of what State holds of it. -/
def deliveryOnLink (d : Deck) (tag : Tag) (s : State) : State :=
  let l := (s.deck d).link
  match l.current tag with
  | some o =>
    match o.command, l.state with
    | .seek _, .seeking => land d none s
    | .proceed, .stalled => onLink d (fun l => { l with outstanding := none, state := .streaming, gapTimer := true }) s
    | _, _ => s
  | none => s

/-- A delivery (R26, R40). One that fails its check changes nothing (R216). -/
def deliver (d : Deck) (tag : Tag) (v : DeliveryArgs) (s : State) : State :=
  if v.good then intake d tag v (deliveryOnLink d tag s) else s

end Sys2Proof.Machine
end

