-- ==== Sys2Proof/Machine/Shocks.lean ====
section
/-!
DEFINITION. The Shock Monitor: conversions (R156 to R158), the guard and its hand-on (R159, R160), the settings (R162, R163).
-/

namespace Sys2Proof.Machine

/-- The magnitude `|v - c|` (R156). -/
def magnitude (v c : Nat) : Nat := (v - c) + (c - v)

/-- The shock flag after a conversion of magnitude `m` (R157). -/
def Shock.flagAfter (h : Shock) (m : Nat) : Bool :=
  if h.ton ≤ m then true else if m < h.toff ∧ h.latching = false then false else h.flag

/-- An open guard closes, and the closing is handed on: a decision point for both planners (R159, R160, R161). -/
def closeGuard (s : State) : State :=
  if guardOpen s then
    together (decisionPoint .a) (decisionPoint .b) { s with shock := { s.shock with guard := none } }
  else s

/-- A conversion completes (R156, R157, R158, R159). The opening of the guard is no decision point (R161). -/
def converted (v : Nat) (s : State) : State :=
  let h := s.shock
  if h.converting then
    let m := magnitude v h.centre
    let opened := h.guard.isSome
    let guard := if h.ton ≤ m then (if !opened && h.guardTime == 0 then none else some h.guardTime) else h.guard
    let s := { s with shock := { h with last := m, peak := max h.peak m, flag := h.flagAfter m, guard := guard } }
    if h.ton ≤ m ∧ opened = false then raiseNotice .part (.shock m) s else s
  else s

/-- The guard timer expires (R159). -/
def guardExpired (s : State) : State := closeGuard s

/-- The settings of SET_SHOCK, clamped in the order of R162; `none` when the enable or the latch mode is not defined. The
converter, flag and guard are untouched here. -/
def shockSettings (v : ShockArgs) (h : Shock) : Option Shock :=
  if v.enable.toNat ≤ 1 ∧ v.latch.toNat ≤ 1 then
    let ton := clampTo 1 511 v.ton.toNat
    some { h with enable := v.enable.toNat == 1, centre := clampTo 0 1023 v.centre.toNat, ton := ton,
                  toff := clampTo 0 (ton - 1) v.toff.toNat, latching := v.latch.toNat == 1,
                  guardTime := clampTo 0 10000 v.guard.toNat }
  else none

/-- A change of the enable setting (R163). `before` is the setting that was in force. -/
def enableChanged (before : Bool) (s : State) : State :=
  let h := s.shock
  if before = h.enable then s
  else if h.enable then { s with shock := { h with converting := !inStandby s } }
  else closeGuard { s with shock := { h with converting := false, flag := false } }

end Sys2Proof.Machine
end

