-- ==== Sys2Proof/Machine/Sleep.lean ====
section
/-!
DEFINITION. The Standby Controller: entry (R204), the tray samples (R206), leaving (R207), and the form of an event at which
standby entry may complete.
-/

namespace Sys2Proof.Machine

/-! ## Standby entry (R204) -/

/-- Step 2 of R204: the records of the zones that hold a stop note of reason STANDBY. With two, either may come first
(R175): a free value says which (DESIGN CHOICE, safe, log entry 11). -/
def standbyRecords (s : State) : State :=
  let note (z : ZoneId) : Option StopNote := (s.note z).filter fun m => m.reason == .standby
  match note .one, note .two with
  | some m, some n =>
    let s' := { s with drawn := s.drawn + 1 }
    if Config.laterFirst s.drawn then consumeNote .one .standby m (consumeNote .two .standby n s')
    else consumeNote .two .standby n (consumeNote .one .standby m s')
  | some m, none => consumeNote .one .standby m s
  | none, some n => consumeNote .two .standby n s
  | none, none => s

/-- Step 4 of R204 for one deck. -/
def standbyPark (d : Deck) (s : State) : State :=
  match (s.deck d).link.usable with
  | some _ => (request d { command := .park .standby, from_ := .standby, plan := none } s).1
  | none => s

/-- Steps 2 to 8 of R204. -/
def enterStandby (s : State) : State :=
  let s := standbyRecords s
  let s := flush .b (flush .a (cancelJob .b (cancelJob .a s)))
  let s := together (standbyPark .a) (standbyPark .b) s
  let s := closeGuard { s with shock := { s.shock with converting := false } }
  let t := s.tray
  { s with
    tray := { t with debouncing := false, sideA := { t.sideA with timer := none }, sideB := { t.sideB with timer := none } }
    standby := { s.standby with phase := .standby, wakeTimer := some s.standby.wakePeriod, recordedA := some t.sideA.line,
                                recordedB := some t.sideB.line } }

/-- Standby entry is due: the phase is ENTERING and both zones are STOPPED (R204). -/
def entryDue (s : State) : Bool :=
  s.standby.phase == .entering && s.zone1.state == .stopped && s.zone2.state == .stopped

/-- Standby entry completes at the event at which the last zone enters STOPPED (R204, log entry 9). -/
def finishEntry (s : State) : State := if entryDue s then enterStandby s else s

/-- An event of the part: nothing while the reset pin is low (R208); standby entry completes at its end when due (R204). -/
def event (s : State) (f : State → State) : Host.Outcome State Fault Refusal := whenUp s (fun s => finishEntry (f s))

/-- STANDBY taken in AWAKE (R204 step 1). -/
def beginStandby (s : State) : State :=
  finishEntry
    (together (stopRequest .one .standby false) (stopRequest .two .standby false)
      { s with standby := { s.standby with phase := .entering } })

/-! ## Samples (R206, R32) -/

/-- The recorded tray level of a deck. -/
def State.recorded (s : State) : Deck → Option Level
  | .a => s.standby.recordedA
  | .b => s.standby.recordedB

/-- Record a tray level. -/
def setRecorded (d : Deck) (l : Option Level) (s : State) : State :=
  match d with
  | .a => { s with standby := { s.standby with recordedA := l } }
  | .b => { s with standby := { s.standby with recordedB := l } }

/-- The line of a deck differs from its recorded level. -/
def lineMoved (d : Deck) (s : State) : Bool := s.recorded d != some (s.side d).line

/-- A deck whose line has moved (R206 step 3, R32). -/
def discSuspect (d : Deck) (s : State) : State :=
  let l := (s.deck d).link
  match l.state with
  | .parked => announce d (toNoDisc d .tray s)
  | .parking =>
    match l.outstanding with
    | some o =>
      if o.command = .park .standby then
        discardDisc d (onLink d (fun l => { l with outstanding := some { o with command := .park .tray } }) s)
      else s
    | none => s
  | _ => s

/-- One deck of a sample (R206). -/
def sampleDeck (d : Deck) (s : State) : State :=
  if lineMoved d s then
    discSuspect d (raiseNotice (.deck d) .wake (setRecorded d (some (s.side d).line) s))
  else s

/-- A debounced level adopted without a notice (R207 step 4). -/
def TraySide.adopt (t : TraySide) : TraySide := { t with level := t.line, timer := none }

/-- Leaving standby (R207). -/
def leaveStandby (s : State) : State :=
  let s := { s with standby := { s.standby with wakeTimer := none } }
  let s := together (sampleDeck .a) (sampleDeck .b) s
  let s := { s with standby := { s.standby with recordedA := none, recordedB := none } }
  let s := together (unpark .a) (unpark .b) s
  { s with
    shock := { s.shock with converting := s.shock.enable }
    tray := { s.tray with debouncing := true, sideA := s.tray.sideA.adopt, sideB := s.tray.sideB.adopt }
    standby := { s.standby with phase := .awake } }

/-- The wake timer expires (R206). -/
def wakeExpired (s : State) : State :=
  match s.standby.phase, s.standby.wakeTimer with
  | .standby, some _ =>
    let moved := lineMoved .a s || lineMoved .b s
    let s := together (sampleDeck .a) (sampleDeck .b) s
    let s := { s with standby := { s.standby with wakeTimer := some s.standby.wakePeriod } }
    if s.standby.wakeOnTray ∧ moved = true then leaveStandby s else s
  | _, _ => s

end Sys2Proof.Machine
end

