-- ==== Sys2Proof/Machine/Playout.lean ====
section
/-!
DEFINITION. The frame event of both zones (R137): the take (R69, R114 to R118), runs of doubtful samples (R138 to R144), CONCEAL
(R145), the ramp (R147, R148), gain and output (R149, R150), the serial audio output (R133).
-/

namespace Sys2Proof.Machine

/-! ## The take (R69, R88, R115, R116) -/

/-- The ring's part of a take (R69 steps 2 and 3). -/
def Ring.taken (r : Ring) (q : SlotRecord) : Ring :=
  let r := { r with records := r.records.tail }
  if q.seg = r.tag then r
  else { r with tag := q.seg, cueCopy := none, phase := if r.phase = .cue then .current else r.phase }

/-- An entry stands for one that was urgent before: their last slots are the same. -/
def sameTail (e f : Entry) : Bool := e.last == f.last && e.seg == f.seg

/-- The planner is told of a take (R88, R97): the slot is overtaken, and a take may draw an entry into the urgent window. -/
def plannerTaken (d : Deck) (p : Spot) (before : DeckUnit) (s : State) : State :=
  let s :=
    if (s.deck d).plan.entries.any (·.covers p) then
      leaveEntry d p (onPlanStats d (fun t => { t with overtaken := bump 1 t.overtaken }) s)
    else s
  let u := s.deck d
  let was := before.plan.entries.filter (urgent before)
  if u.plan.entries.any fun e => urgent u e && was.all fun f => !sameTail e f then breakPoint d s else s

/-- A mark at the taken address is reached (R115 step 5, R128); a mirror zone compares its mark at every take of zone 1 (DEDUCED,
unsafe, log entry 38). -/
def markTest (z : ZoneId) (a : Nat) (s : State) : State :=
  if (s.zone z).mark = some a then
    raiseNotice (.zone z) (.markReached a) (onZone z (fun n => { n with mark := none }) s)
  else s

/-- A staged level becomes current (R115 step 6). -/
def Zone.levelTaken (n : Zone) : Zone :=
  match n.staged with
  | some l => { n with level := l, staged := none }
  | none => n

/-- The zone's changes at a take, but for its notices (R115). -/
def Zone.took (q : SlotRecord) (n : Zone) : Zone :=
  let st : SlotState := if q.state = .missing then .void else q.state
  let n := { n with block := some { addr := q.addr, seg := q.seg, state := st, data := q.data } }
  let n := if q.seg = n.tag then n else { n with range := n.cue, tag := q.seg, cue := none, endTaken := false }
  let ended := match n.range with
    | some r => q.addr == r.last
    | none => false
  ({ n with position := some q.addr, endTaken := n.endTaken || ended, concealWaits := false }).levelTaken

/-- A record is taken (R69, R115). A mirror zone applies its staged level and compares its mark (R128, R131). -/
def takeRecord (z : ZoneId) (d : Deck) (q : SlotRecord) (s : State) : State :=
  let before := s.deck d
  let crossed := q.seg != (s.zone z).tag
  let s := onZone z (Zone.took q) s
  let s :=
    match crossed, (s.zone z).range with
    | true, some r => raiseNotice (.zone z) (.cueTaken r.first) s
    | _, _ => s
  let s :=
    if z = .one ∧ mirroring s = true then
      together (markTest .one q.addr) (markTest .two q.addr) (onZone .two Zone.levelTaken s)
    else markTest z q.addr s
  let s := plannerTaken d ⟨q.addr, q.seg⟩ before (onRing d (fun r => r.taken q) s)
  onLow d (reportGoodDepth d s)

/-- A zone starves (R116), unless it is already fading to an end (R114). -/
def starve (z : ZoneId) (s : State) : State :=
  let n := s.zone z
  if n.causes.stop || n.causes.switch then s
  else
    raised z
      (onZone z (fun n =>
        { n with causes := { n.causes with starve := true }, stats := { n.stats with starves := bump 1 n.stats.starves } }) s)

/-- The request for the play edge (R69, R114, R116). -/
def askEdge (z : ZoneId) (d : Deck) (s : State) : State :=
  match (s.deck d).ring.edge with
  | none => starve z s
  | some q => if q.playable || (s.zone z).set.policy == .pass then takeRecord z d q s else starve z s

/-- A block boundary of one zone (R114, R118). -/
def settleBlock (z : ZoneId) (s : State) : State :=
  match (s.zone z).deck? with
  | none => s
  | some d =>
    if (s.zone z).blockPhase = 0 then
      let s := onZone z (fun n => { n with block := none, runLeft := none, runRight := none }) s
      let n := s.zone z
      match n.state with
      | .stopped | .priming | .paused => s
      | .playing | .starved =>
        if n.endTaken ∧ n.cue = none then
          if n.causes.stop || n.causes.switch then s else stopRequest z .rangeEnd false s
        else if n.causes.starve then s
        else askEdge z d s
    else s

/-! ## Runs of doubtful samples (R138 to R144) -/

/-- Rounding half away from zero of `num / den` (0.6). -/
def roundAway (num : Int) (den : Nat) : Int :=
  let q : Int := Int.ofNat ((2 * num.natAbs + den) / (2 * den))
  if num < 0 then -q else q

/-- Value `k` of an interpolated run of `n` samples from `a` to `b` (R143). -/
def interpolate (a b : Int) (n k : Nat) : Int := a + roundAway ((b - a) * k) (n + 1)

/-- Doubtful frames of one channel in a row, from the head of the marks on; the other channel's marks stand between (R138). -/
def leadRun : List Bool → Nat
  | true :: _ :: rest => leadRun rest + 1
  | [true] => 1
  | _ => 0

/-- The sample position of a channel's frame (R1): channel 0 is left, 1 is right. -/
def samplePos (f channel : Nat) : Nat := 2 * f + channel

/-- The sample of a block at a position. -/
def Block.sample (b : Block) (p : Nat) : Sample := b.samples.getD p 0

/-- A sample of the block in hand is doubtful: its mark is set, or the block is VOID (R138). -/
def InHand.doubtful (h : InHand) (p : Nat) : Bool := h.state == .void || h.data.marks.getD p true

/-- Length of the run that begins at frame `f` (R138). -/
def InHand.runLength (h : InHand) (f channel : Nat) : Nat :=
  if h.state = .void then Config.framesPerBlock - f else leadRun (h.data.marks.drop (samplePos f channel))

/-- The right value read from the record after the block in hand (R70, R142). -/
def nextSample (r : Ring) (h : InHand) (channel : Nat) : Option Sample :=
  match r.edge with
  | none => none
  | some q =>
    if q.playable && q.seg == h.seg && q.state != .void && !(q.data.marks.getD channel true) then some (q.data.sample channel)
    else none

/-- A run is settled at its first frame (R140, R141, R142). -/
def settleRun (h : InHand) (next : Option Sample) (span : Nat) (carry : Sample) (f channel : Nat) : SettledRun :=
  let n := h.runLength f channel
  { start := f, n := n,
    a := if f = 0 then carry else h.data.sample (samplePos (f - 1) channel),
    b := if span < n then none
         else if f + n < Config.framesPerBlock then some (h.data.sample (samplePos (f + n) channel))
         else next }

/-- The value a run gives at a frame (R143, R144). -/
def SettledRun.value (r : SettledRun) (f : Nat) : Sample :=
  match r.b with
  | some b => BitVec.ofInt 16 (interpolate r.a.toInt b.toInt r.n (f - r.start + 1))
  | none => r.a

/-- What one channel's frame gives: the pre-gain value, the run in progress, whether the sample is clean, and whether a long run
begins (R137 step 2, R144). -/
structure ChannelFrame where
  x     : Sample
  run   : Option SettledRun
  clean : Bool
  long  : Bool
  deriving DecidableEq, Repr

/-- One channel of a frame of the block in hand (R137 step 2, R138, R140). -/
def channelFrame (h : InHand) (next : Option Sample) (span : Nat) (carry : Sample) (run : Option SettledRun) (f channel : Nat) :
    ChannelFrame :=
  let p := samplePos f channel
  if h.doubtful p then
    match run with
    | some r => { x := r.value f, run := some r, clean := false, long := false }
    | none =>
      let r := settleRun h next span carry f channel
      { x := r.value f, run := some r, clean := false, long := decide (span < r.n) }
  else { x := h.data.sample p, run := none, clean := true, long := false }

/-- Concealed samples of a channel frame, by its counter (R140, R152). -/
def ZoneStats.concealed (c : ChannelFrame) (t : ZoneStats) : ZoneStats :=
  if c.clean then t
  else
    match c.run with
    | some r =>
      let t := { t with longRuns := if c.long then bump 1 t.longRuns else t.longRuns }
      match r.b with
      | some _ => { t with interpolated := bump 1 t.interpolated }
      | none => { t with held := bump 1 t.held }
    | none => t

/-! ## Steps 2 to 4 of R137 -/

/-- CONCEAL's clean count after a frame (R145). CONCEAL that waits for a take counts no frame until then (R146). DEDUCED, unsafe (log
entry 47): R145 alone would count the clean frames of the silent rest. -/
def Zone.counted (n : Zone) (clean : Bool) : Zone :=
  if n.causes.conceal then
    if clean && !n.concealWaits then
      if n.set.recover ≤ n.clean + 1 then { n with clean := 0, causes := { n.causes with conceal := false } }
      else { n with clean := n.clean + 1 }
    else { n with clean := 0 }
  else n

/-- The CONCEAL tests of a frame (R144, R145). A long run in the silent rest of a PAUSED zone's block makes CONCEAL wait (R146). -/
def concealTests (z : ZoneId) (long clean : Bool) (s : State) : State :=
  let s :=
    if long then
      let had := (s.zone z).causes.conceal
      let s := onZone z (fun n =>
        { n with clean := 0, causes := { n.causes with conceal := true },
                 concealWaits := n.concealWaits || n.state == .paused }) s
      if had then s else raised z s
    else s
  follow z (onZone z (fun n => n.counted clean) s)

/-- Steps 2 to 4 of R137 for a zone that is no mirror. -/
def preGain (z : ZoneId) (s : State) : State :=
  let n := s.zone z
  if n.state = .stopped then onZone z (fun n => { n with pre := Stereo.zero, carry := Stereo.zero }) s
  else
    match n.block, n.deck? with
    | some h, some d =>
      let f := n.blockPhase
      let r := (s.deck d).ring
      let left := channelFrame h (nextSample r h 0) n.set.span n.carry.left n.runLeft f 0
      let right := channelFrame h (nextSample r h 1) n.set.span n.carry.right n.runRight f 1
      let x : Stereo := ⟨left.x, right.x⟩
      let s := onZone z (fun n =>
        { n with pre := x, carry := x, runLeft := left.run, runRight := right.run,
                 stats := (n.stats.concealed left).concealed right }) s
      concealTests z (left.long || right.long) (left.clean && right.clean) s
    | _, _ => concealTests z false false (onZone z (fun n => { n with pre := n.carry }) s)

/-- Steps 2 to 4 of R137; a mirror zone takes zone 1's pre-gain value (R151). -/
def findPreGain (z : ZoneId) (s : State) : State :=
  if z = .two ∧ mirroring s = true then onZone .two (fun n => { n with pre := s.zone1.pre }) s else preGain z s

/-! ## Ramp (R147, R148) -/

/-- A move by a step of `d` toward a target (R147). -/
def moveToward (r target d : Nat) : Nat :=
  if r < target then min target (r + d) else max target (r - d)

/-- A ramp step is due at this frame (R147). -/
def Zone.stepDue (n : Zone) : Bool :=
  n.state != .stopped && n.ramp != n.rampTarget && (n.fast || decide (n.set.period ≤ n.rampCount + 1))

/-- Step 5 of R137 (R147). -/
def Zone.ramped (n : Zone) : Zone :=
  if n.state = .stopped then n
  else if n.ramp = n.rampTarget then { n with rampCount := 0 }
  else if n.fast then { n with ramp := moveToward n.ramp n.rampTarget Config.fastStep, rampCount := 0 }
  else if n.rampCount + 1 < n.set.period then { n with rampCount := n.rampCount + 1 }
  else { n with ramp := moveToward n.ramp n.rampTarget n.set.step, rampCount := 0 }

/-- The ramp step of one zone; a step that brings the ramp to 0 while the target is 0 makes it act by R113. -/
def rampZone (z : ZoneId) (s : State) : State :=
  let n := s.zone z
  let s := onZone z Zone.ramped s
  if n.ramp ≠ 0 ∧ (s.zone z).ramp = 0 ∧ n.rampTarget = 0 then reachZero z s else s

/-! ## Gain and output (R149, R150) -/

/-- Effective gain (R149). -/
def Zone.gain (n : Zone) : Nat := n.level * n.ramp / Config.unity

/-- The output value before the clamp (R150). -/
def outputExact (x : Sample) (g : Nat) : Int := roundAway (x.toInt * g) Config.unity

/-- The clamp to the sample range (R150). -/
def clampSample (v : Int) : Int := max (-32768) (min 32767 v)

/-- The output value of a channel (R150). -/
def output (x : Sample) (g : Nat) : Sample := BitVec.ofInt 16 (clampSample (outputExact x g))

/-- The clamp changes the value (R150). -/
def clampsAt (x : Sample) (g : Nat) : Bool := clampSample (outputExact x g) != outputExact x g

/-- Steps 6 to 8 of R137: one frame is emitted and the block phase advances (R110). -/
def Zone.emit (n : Zone) : Zone :=
  let g := n.gain
  let stopped := n.state == .stopped
  let y : Stereo := if stopped then Stereo.zero else ⟨output n.pre.left g, output n.pre.right g⟩
  let c := if stopped then 0 else (clampsAt n.pre.left g).toNat + (clampsAt n.pre.right g).toNat
  { n with emitted := y, emittedPrev := n.emitted, blockPhase := (n.blockPhase + 1) % Config.framesPerBlock,
           stats := { n.stats with clamped := bump c n.stats.clamped } }

/-- One bit clock period of the serial output: word select (high for the right sample) and data (R133). -/
structure SerialBit where
  wordSelect : Bool
  data       : Bool
  deriving DecidableEq, Repr

/-- Bit clock period `i` of 32 of the latest frame (R133): the data runs one bit clock behind the word select, so period 0 carries
the last bit of the frame before. -/
def Zone.serialBit (n : Zone) (i : Nat) : SerialBit :=
  { wordSelect := decide (16 ≤ i),
    data :=
      if i = 0 then n.emittedPrev.right.getLsbD 0
      else if i ≤ 16 then n.emitted.left.getLsbD (16 - i)
      else n.emitted.right.getLsbD (32 - i) }

/-! ## The frame event (R137, log entry 8) -/

/-- Step 1 of R137 for both zones. -/
def toSettled (s : State) : State :=
  match s.stage with
  | .edge => { together (settleBlock .one) (settleBlock .two) s with stage := .settled }
  | .settled | .concealed | .ramped => s

/-- Through step 4 of R137 for both zones. -/
def toConcealed (s : State) : State :=
  let s := toSettled s
  match s.stage with
  | .edge | .settled => { together (findPreGain .one) (findPreGain .two) s with stage := .concealed }
  | .concealed | .ramped => s

/-- Through step 5 of R137 for both zones, zone 1 first. DESIGN CHOICE, unsafe (log entry 54): a mirror zone whose own ramp reaches 0 in
the frame in which zone 1's switch completes is not yet STOPPED at zone 1's PRIMING; it ends STOPPED and stays so. -/
def toRamped (s : State) : State :=
  let s := toConcealed s
  match s.stage with
  | .edge | .settled | .concealed => { together (rampZone .one) (rampZone .two) s with stage := .ramped }
  | .ramped => s

/-- The whole frame event, or what is left of it (R137). -/
def frame (s : State) : State :=
  { onZone .two Zone.emit (onZone .one Zone.emit (toRamped s)) with stage := .edge }

/-- A block boundary is due: a frame event has yet to settle its blocks at block phase 0 (R110). -/
def boundaryDue (s : State) : Bool := s.stage == .edge && s.zone1.blockPhase == 0

/-- CONCEAL of a zone clears at this frame (R145). -/
def concealClears (z : ZoneId) (s : State) : Bool :=
  (s.stage == .edge || s.stage == .settled) && ((toSettled s).zone z).mutes.conceal && !((toConcealed s).zone z).mutes.conceal

/-- A ramp step of a zone is due at this frame (R147). -/
def rampDue (z : ZoneId) (s : State) : Bool := s.stage != .ramped && ((toConcealed s).zone z).stepDue

end Sys2Proof.Machine
end

