-- ==== Sys2Proof/Machine/Events.lean ====
section
/-!
DEFINITION. The rows of the clocks, lines and sensors: the frame event and its parts (R110, R114, R137, R145, R147), the Shock
Monitor (R156, R159), the tray lines (R167), the Standby Controller (R204, R206). A timer's expiry, a conversion or an entry that is
not due changes nothing (DESIGN CHOICE, safe, log entry 2).
-/

namespace Sys2Proof.Machine

/-- FRAME_EVENT (R137): what is left of the frame is carried out (log entry 8). -/
def execFrameEvent (s : State) : Host.Outcome State Fault Refusal := event s frame

/-- BLOCK_BOUNDARY (R110, R114): the first part of a frame event at block phase 0 (log entry 8). -/
def execBlockBoundary (s : State) : Host.Outcome State Fault Refusal :=
  event s fun s => if boundaryDue s then toSettled s else s

/-- RAMP_STEP (R147): the frame through the ramp steps, when one of the zone is due (log entry 8). -/
def execRampStep (z : ZoneId) (s : State) : Host.Outcome State Fault Refusal :=
  event s fun s => if rampDue z s then toRamped s else s

/-- CONCEAL_CLEAR (R145): the frame through the CONCEAL tests, when the zone's CONCEAL clears at it (log entry 8). -/
def execConcealClear (z : ZoneId) (s : State) : Host.Outcome State Fault Refusal :=
  event s fun s => if concealClears z s then toConcealed s else s

/-- SHOCK_CONVERSION_COMPLETE (R156, R157, R158). -/
def execShockConversionComplete (v : BitVec 10) (s : State) : Host.Outcome State Fault Refusal := whenUp s (converted v.toNat)

/-- GUARD_TIMER_EXPIRY (R159). -/
def execGuardTimerExpiry (s : State) : Host.Outcome State Fault Refusal := whenUp s guardExpired

/-- TRAY_LINE_CHANGE (R167). With the reset pin low the line moves unread; its level counts when the pin rises (R168, R208). -/
def execTrayLineChange (d : Deck) (level : Level) (s : State) : Host.Outcome State Fault Refusal :=
  match s.resetPin with
  | .low => .next (onSide d (fun t => { t with line := level }) s)
  | .high => .next (trayLine d level s)

/-- TRAY_DEBOUNCE_EXPIRY (R167). -/
def execTrayDebounceExpiry (d : Deck) (s : State) : Host.Outcome State Fault Refusal := event s (trayDebounced d)

/-- WAKE_TIMER_EXPIRY (R206). -/
def execWakeTimerExpiry (s : State) : Host.Outcome State Fault Refusal := whenUp s wakeExpired

/-- STANDBY_ENTRY_COMPLETE (R204). -/
def execStandbyEntryComplete (s : State) : Host.Outcome State Fault Refusal := whenUp s finishEntry

end Sys2Proof.Machine
end

