-- ==== Sys2Proof/Decode.lean ====
section
/-!
DEFINITION. Commands from their bytes: host command payloads (R210, R211), transport reports (R214, R216) and deliveries (R215), with
the encoders of the first two. The table of operations and events gives its rows no bits, so `decodeTableWord` reads no
command from a word.
-/

namespace Sys2Proof

/-- The command a word of the table's bits spells: the table gives no row bits, so none. -/
def decodeTableWord (nbits w : Nat) : Option Instr :=
  match nbits, w with
  | _, _ => none

/-! ## Fields (R209) -/

/-- A two-byte field, most significant byte first. -/
abbrev field2 (b0 b1 : Byte) : BitVec 16 := b0 ++ b1

/-- A three-byte field. -/
abbrev field3 (b0 b1 b2 : Byte) : BitVec 24 := b0 ++ b1 ++ b2

/-- A four-byte field. -/
abbrev field4 (b0 b1 b2 b3 : Byte) : BitVec 32 := b0 ++ b1 ++ b2 ++ b3

/-- The bytes of a two-byte field. -/
def bytes2 (v : BitVec 16) : List Byte := [v.extractLsb' 8 8, v.extractLsb' 0 8]

/-- The bytes of a three-byte field. -/
def bytes3 (v : BitVec 24) : List Byte := [v.extractLsb' 16 8, v.extractLsb' 8 8, v.extractLsb' 0 8]

/-- The bytes of a four-byte field. -/
def bytes4 (v : BitVec 32) : List Byte := [v.extractLsb' 24 8, v.extractLsb' 16 8, v.extractLsb' 8 8, v.extractLsb' 0 8]

/-! ## Host commands (R191, R210, R211) -/

/-- What a kind below 80H and its payload spell. -/
inductive HostDecode where
  /-- the kind names no command (R191 test 3) -/
  | unknown
  /-- the payload is too short or too long (R191 test 4, R211) -/
  | badLength
  | command (i : Instr)
  deriving DecidableEq, Repr

/-- A command, or a wrong length. -/
def ofLength : Option Instr → HostDecode
  | some i => .command i
  | none => .badLength

/-- A payload of one byte. -/
def oneByte (f : Byte → Instr) : List Byte → Option Instr
  | [b] => some (f b)
  | _ => none

/-- A payload of two bytes. -/
def twoBytes (f : Byte → Byte → Instr) : List Byte → Option Instr
  | [b, c] => some (f b c)
  | _ => none

/-- An empty payload. -/
def noBytes (i : Instr) : List Byte → Option Instr
  | [] => some i
  | _ => none

/-- SET_POOL. -/
def decodePool : List Byte → Option Instr
  | [a, b, c, d] => some (.setPool (field2 a b) (field2 c d))
  | _ => none

/-- STANDBY, with or without settings. -/
def decodeStandby : List Byte → Option Instr
  | [] => some (.standby none)
  | [t, a, b] => some (.standby (some (t, field2 a b)))
  | _ => none

/-- SET_DECK. -/
def decodeSetDeck : List Byte → Option Instr
  | [d, a0, a1, b0, b1, c0, c1, d0, d1, e0, e1, f0, f1, l, o, g, h0, h1] =>
    some (.setDeck d
      { high := field2 a0 a1, low := field2 b0 b1, floor := field2 c0 c1, window := field2 d0 d1, lead := field2 e0 e1,
        threshold := field2 f0 f1, limit := l, overlap := o, gapLimit := g, seekTime := field2 h0 h1 })
  | _ => none

/-- SET_ZONE. -/
def decodeSetZone : List Byte → Option Instr
  | [z, src, pol, a0, a1, b0, b1, c0, c1, p, l, m0, m1] =>
    some (.setZone z
      { source := src, policy := pol, start := field2 a0 a1, restart := field2 b0 b1, step := field2 c0 c1, period := p,
        span := l, recover := field2 m0 m1 })
  | _ => none

/-- PLAY. -/
def decodePlay : List Byte → Option Instr
  | [z, a, b, c, d, e, f] => some (.play z (field3 a b c) (field3 d e f))
  | _ => none

/-- CUE: a zone alone cancels. -/
def decodeCue : List Byte → Option Instr
  | [z] => some (.cue z none)
  | [z, a, b, c, d, e, f] => some (.cue z (some (field3 a b c, field3 d e f)))
  | _ => none

/-- SET_LEVEL. -/
def decodeLevel : List Byte → Option Instr
  | [z, a, b] => some (.setLevel z (field2 a b))
  | _ => none

/-- SET_MARK: a zone alone sets the mark to none. -/
def decodeMark : List Byte → Option Instr
  | [z] => some (.setMark z none)
  | [z, a, b, c] => some (.setMark z (some (field3 a b c)))
  | _ => none

/-- SET_SHOCK. -/
def decodeShock : List Byte → Option Instr
  | [e, a, b, c, d, f, g, l, h, i] =>
    some (.setShock
      { enable := e, centre := field2 a b, ton := field2 c d, toff := field2 f g, latch := l, guard := field2 h i })
  | _ => none

/-- SET_RESUME. -/
def decodeResume : List Byte → Option Instr
  | [a, b, c, d, e] => some (.setResume a b (field2 c d) e)
  | _ => none

/-- FORGET: no payload means all. -/
def decodeForget : List Byte → Option Instr
  | [] => some (.forget none)
  | [a, b, c, d] => some (.forget (some (field4 a b c d)))
  | _ => none

/-- SET_NOTICE_MASK. -/
def decodeMask : List Byte → Option Instr
  | [a, b] => some (.setNoticeMask (field2 a b))
  | _ => none

/-- The command a kind and a payload spell (R210, R211). -/
def decodeCommand (kind : Byte) (p : List Byte) : HostDecode :=
  match kind.toNat with
  | 0x01 => ofLength (noBytes .ident p)
  | 0x02 => ofLength (noBytes .resetPart p)
  | 0x03 => ofLength (noBytes .takeNotices p)
  | 0x04 => ofLength (decodeMask p)
  | 0x05 => ofLength (decodePool p)
  | 0x06 => ofLength (decodeStandby p)
  | 0x07 => ofLength (noBytes .wake p)
  | 0x08 => ofLength (twoBytes .load p)
  | 0x09 => ofLength (oneByte .unload p)
  | 0x0A => ofLength (oneByte .resetDeck p)
  | 0x0B => ofLength (decodeSetDeck p)
  | 0x0C => ofLength (twoBytes .queryDeck p)
  | 0x0D => ofLength (twoBytes .queryDisc p)
  | 0x0E => ofLength (decodeSetZone p)
  | 0x0F => ofLength (decodePlay p)
  | 0x10 => ofLength (decodeCue p)
  | 0x11 => ofLength (oneByte .pause p)
  | 0x12 => ofLength (oneByte .unpause p)
  | 0x13 => ofLength (oneByte .stop p)
  | 0x14 => ofLength (decodeLevel p)
  | 0x15 => ofLength (decodeMark p)
  | 0x16 => ofLength (twoBytes .queryZone p)
  | 0x17 => ofLength (decodeShock p)
  | 0x18 => ofLength (noBytes .shockReport p)
  | 0x19 => ofLength (noBytes .clearShock p)
  | 0x1A => ofLength (decodeResume p)
  | 0x1B => ofLength (oneByte .queryResume p)
  | 0x1C => ofLength (oneByte .resume p)
  | 0x1D => ofLength (decodeForget p)
  | _ => .unknown

/-- The kind and payload of a host command (R210); none for a row that is no host command. -/
def encodeCommand : Instr → Option (Byte × List Byte)
  | .ident => some (0x01#8, [])
  | .resetPart => some (0x02#8, [])
  | .takeNotices => some (0x03#8, [])
  | .setNoticeMask m => some (0x04#8, bytes2 m)
  | .setPool a b => some (0x05#8, bytes2 a ++ bytes2 b)
  | .standby none => some (0x06#8, [])
  | .standby (some (t, p)) => some (0x06#8, t :: bytes2 p)
  | .wake => some (0x07#8, [])
  | .load d n => some (0x08#8, [d, n])
  | .unload d => some (0x09#8, [d])
  | .resetDeck d => some (0x0A#8, [d])
  | .setDeck d v =>
    some (0x0B#8, d :: (bytes2 v.high ++ bytes2 v.low ++ bytes2 v.floor ++ bytes2 v.window ++ bytes2 v.lead ++ bytes2 v.threshold
      ++ [v.limit, v.overlap, v.gapLimit] ++ bytes2 v.seekTime))
  | .queryDeck d c => some (0x0C#8, [d, c])
  | .queryDisc d q => some (0x0D#8, [d, q])
  | .setZone z v =>
    some (0x0E#8, [z, v.source, v.policy] ++ bytes2 v.start ++ bytes2 v.restart ++ bytes2 v.step ++ [v.period, v.span]
      ++ bytes2 v.recover)
  | .play z a b => some (0x0F#8, z :: (bytes3 a ++ bytes3 b))
  | .cue z none => some (0x10#8, [z])
  | .cue z (some (a, b)) => some (0x10#8, z :: (bytes3 a ++ bytes3 b))
  | .pause z => some (0x11#8, [z])
  | .unpause z => some (0x12#8, [z])
  | .stop z => some (0x13#8, [z])
  | .setLevel z l => some (0x14#8, z :: bytes2 l)
  | .setMark z none => some (0x15#8, [z])
  | .setMark z (some a) => some (0x15#8, z :: bytes3 a)
  | .queryZone z c => some (0x16#8, [z, c])
  | .setShock v =>
    some (0x17#8, v.enable :: (bytes2 v.centre ++ bytes2 v.ton ++ bytes2 v.toff ++ [v.latch] ++ bytes2 v.guard))
  | .shockReport => some (0x18#8, [])
  | .clearShock => some (0x19#8, [])
  | .setResume a b r t => some (0x1A#8, [a, b] ++ bytes2 r ++ [t])
  | .queryResume q => some (0x1B#8, [q])
  | .resume z => some (0x1C#8, [z])
  | .forget none => some (0x1D#8, [])
  | .forget (some f) => some (0x1D#8, bytes4 f)
  | .powerOnReset _ | .softReset | .hostFrameComplete _ | .interByteTimerExpiry | .replySent | .taken _ _ | .declined _ _ _
  | .landed _ _ _ | .seekMiss _ _ | .trackSlip _ _ _ | .discIn _ _ | .slotEmpty _ _ | .index _ _ _ _ _ _ | .stowed _ _
  | .parked _ _ | .deckTrouble _ _ | .controlFrameDiscard _ | .deckLinkByteTimeout _ _ | .delivery _ _ _
  | .ackTimerExpiry _ | .completionTimerExpiry _ | .deliveryGapTimerExpiry _ | .backoffTimerExpiry _ | .frameEvent
  | .blockBoundary | .rampStep _ | .concealClear _ | .shockConversionComplete _ | .guardTimerExpiry | .trayLineChange _ _
  | .trayDebounceExpiry _ | .wakeTimerExpiry | .standbyEntryComplete | .hostByteReceived _ | .deckLinkByteReceived _ _ _ => none

/-! ## Transport reports (R209, R214, R216) -/

/-- The tag of a tag byte: its low four bits (R209). -/
def tagOf (b : Byte) : Tag := b.extractLsb' 0 4

/-- The track entries that a content holds, and whether bytes are left over (R214). -/
def decodeEntries : List Byte → List TrackField × Bool
  | n :: a :: b :: c :: k :: rest =>
    let (es, r) := decodeEntries rest
    ({ number := n, start := field3 a b c, kind := k } :: es, r)
  | [] => ([], false)
  | _ :: _ => ([], true)

/-- The content of an INDEX report. DESIGN CHOICE, unsafe (log entry 55): a content of 0 to 3 bytes, too short for the track count and
the lead-out, is discarded and counted as stale by R216; by R214 alone it would fail the list-length check of R6. -/
def decodeIndex (d : Deck) (tag : Tag) : List Byte → Option Instr
  | n :: a :: b :: c :: rest =>
    let (es, r) := decodeEntries rest
    some (.index d tag n (field3 a b c) es r)
  | _ => none

/-- A report of one address. -/
def decodeAddress (f : BitVec 24 → Instr) : List Byte → Option Instr
  | [a, b, c] => some (f (field3 a b c))
  | _ => none

/-- The report a control frame's kind, tag byte and content spell; none for an unknown kind or a content of the wrong length
(R209, R214, R216). -/
def decodeReport (d : Deck) (kind tag : Byte) (content : List Byte) : Option Instr :=
  let t := tagOf tag
  match kind.toNat with
  | 0 => noBytes (.taken d t) content
  | 1 => oneByte (.declined d t) content
  | 2 => decodeAddress (.landed d t) content
  | 3 => noBytes (.seekMiss d t) content
  | 4 => noBytes (.discIn d t) content
  | 5 => noBytes (.slotEmpty d t) content
  | 6 => decodeIndex d t content
  | 7 => noBytes (.stowed d t) content
  | 8 => noBytes (.parked d t) content
  | 9 => decodeAddress (.trackSlip d t) content
  | 10 => oneByte (.deckTrouble d) content
  | _ => none

/-- The five bytes of a track entry (R212, R214). -/
def TrackField.bytes (e : TrackField) : List Byte := e.number :: (bytes3 e.start ++ [e.kind])

/-- A tag byte: the tag in its low four bits, 0 above (R209). -/
def tagByte (t : Tag) : Byte := t.setWidth 8

/-- Kind, tag byte and content of a report (R209, R214); none for a row that is no report, and for an INDEX with bytes left over,
whose bytes the command does not hold. -/
def encodeReport : Instr → Option (Byte × Byte × List Byte)
  | .taken _ t => some (0#8, tagByte t, [])
  | .declined _ t r => some (1#8, tagByte t, [r])
  | .landed _ t a => some (2#8, tagByte t, bytes3 a)
  | .seekMiss _ t => some (3#8, tagByte t, [])
  | .discIn _ t => some (4#8, tagByte t, [])
  | .slotEmpty _ t => some (5#8, tagByte t, [])
  | .index _ t n l es ragged =>
    if ragged then none else some (6#8, tagByte t, n :: (bytes3 l ++ es.flatMap TrackField.bytes))
  | .stowed _ t => some (7#8, tagByte t, [])
  | .parked _ t => some (8#8, tagByte t, [])
  | .trackSlip _ t a => some (9#8, tagByte t, bytes3 a)
  | .deckTrouble _ c => some (10#8, 0#8, [c])
  | .powerOnReset _ | .softReset | .hostFrameComplete _ | .interByteTimerExpiry | .replySent | .ident | .resetPart
  | .takeNotices | .setNoticeMask _ | .setPool _ _ | .standby _ | .wake | .load _ _ | .unload _ | .resetDeck _ | .setDeck _ _
  | .queryDeck _ _ | .queryDisc _ _ | .setZone _ _ | .play _ _ _ | .cue _ _ | .pause _ | .unpause _ | .stop _
  | .setLevel _ _ | .setMark _ _ | .queryZone _ _ | .setShock _ | .shockReport | .clearShock | .setResume _ _ _ _
  | .queryResume _ | .resume _ | .forget _ | .controlFrameDiscard _ | .deckLinkByteTimeout _ _ | .delivery _ _ _
  | .ackTimerExpiry _ | .completionTimerExpiry _ | .deliveryGapTimerExpiry _ | .backoffTimerExpiry _ | .frameEvent
  | .blockBoundary | .rampStep _ | .concealClear _ | .shockConversionComplete _ | .guardTimerExpiry | .trayLineChange _ _
  | .trayDebounceExpiry _ | .wakeTimerExpiry | .standbyEntryComplete | .hostByteReceived _ | .deckLinkByteReceived _ _ _ => none

/-! ## Deliveries (R215) -/

/-- Sum of a list of bytes. -/
def byteSum (bytes : List Byte) : Nat := bytes.foldl (fun n b => n + b.toNat) 0

/-- Samples from their bytes. -/
def decodeSamples : List Byte → List Sample
  | a :: b :: rest => field2 a b :: decodeSamples rest
  | _ => []

/-- The eight marks of a byte, sample position p at bit 7 - (p mod 8). -/
def marksOf (b : Byte) : List Bool :=
  [b.getLsbD 7, b.getLsbD 6, b.getLsbD 5, b.getLsbD 4, b.getLsbD 3, b.getLsbD 2, b.getLsbD 1, b.getLsbD 0]

/-- Bytes of a block frame after its sync byte (R215). -/
def blockFrameBytes : Nat := 2506

/-- The check word holds (R215): the bytes from tag through the marks plus the word are 0 mod 65,536. -/
def blockCheck (body : List Byte) : Bool :=
  match body.drop 2504 with
  | [a, b] => (byteSum (body.take 2504) + (field2 a b).toNat) % 65536 == 0
  | _ => false

/-- The delivery a block frame spells, from the bytes after its sync byte (R215). -/
def decodeDelivery (d : Deck) (body : List Byte) : Instr :=
  let at_ (i : Nat) : Byte := body.getD i 0
  .delivery d (tagOf (at_ 0))
    { good := blockCheck body, valid := (at_ 1).getLsbD 0, addr := field3 (at_ 2) (at_ 3) (at_ 4),
      samples := decodeSamples ((body.drop 5).take 2352), marks := ((body.drop 2357).take 147).flatMap marksOf }

end Sys2Proof
end

