-- ==== Sys2Proof/Machine/Operands.lean ====
section
/-!
DEFINITION. The encodings of R209: integers of one to four bytes, most significant byte first, and the byte of each named value;
the bytes of a host command that name a deck, a zone, or a two-valued setting.
-/

namespace Sys2Proof.Machine

/-! ## Integers (R209) -/

/-- One byte. -/
def byte (n : Nat) : Byte := BitVec.ofNat 8 n

/-- Two bytes, most significant first. -/
def be2 (n : Nat) : List Byte := [byte (n / 256), byte n]

/-- Three bytes, most significant first. -/
def be3 (n : Nat) : List Byte := byte (n / 65536) :: be2 n

/-- Four bytes, most significant first. -/
def be4 (n : Nat) : List Byte := byte (n / 16777216) :: be3 n

/-- A list of bytes as one unsigned number, most significant first. -/
def beNat (bytes : List Byte) : Nat := bytes.foldl (fun n b => 256 * n + b.toNat) 0

/-- A block address, or FFFFFFH for none (R209). -/
def addr3 : Option Nat → List Byte
  | some a => be3 a
  | none => be3 16777215

/-- A range as start and end. -/
def range6 : Option PlayRange → List Byte
  | some r => be3 r.first ++ be3 r.last
  | none => be3 16777215 ++ be3 16777215

/-- A flag byte: bit 0 upward in the order listed (R209). -/
def flags (bits : List Bool) : Byte := byte (bits.foldr (fun b n => b.toNat + 2 * n) 0)

/-- A named value that may be none (R209). -/
def named (code : α → Nat) : Option α → Byte
  | some a => byte (code a)
  | none => 0xFF#8

/-! ## Named values (R209) -/

/-- ON, CLEAR's partner, LATCHING, PASS and CLOSED are 1; OFF, CLEAR, FOLLOWING, WAIT and OPEN are 0 (R209). -/
def onOff (b : Bool) : Byte := byte b.toNat

/-- A tray level (R209). -/
def levelCode : Level → Nat
  | .opened => 0
  | .closed => 1

/-- A deck (R209). -/
def deckCode : Deck → Nat
  | .a => 0
  | .b => 1

/-- A zone (R209). -/
def zoneCode : ZoneId → Nat
  | .one => 1
  | .two => 2

/-- Deck states, in the order of section 2.5. -/
def DeckState.code : DeckState → Nat
  | .noDisc => 0
  | .loading => 1
  | .identifying => 2
  | .ready => 3
  | .seeking => 4
  | .streaming => 5
  | .stalled => 6
  | .parking => 7
  | .parked => 8
  | .stowing => 9
  | .fault => 10

/-- Deck reasons: the NO_DISC reasons of R35, then DISPLACED. -/
def DeckReason.code : DeckReason → Nat
  | .reset => 0
  | .emptySlot => 1
  | .declined => 2
  | .unreadable => 3
  | .unloaded => 4
  | .tray => 5
  | .displaced => 6

/-- Fault causes, in the order of R33. -/
def FaultCause.code : FaultCause → Nat
  | .ackTimeout => 0
  | .mechTimeout => 1
  | .declined => 2
  | .trouble => 3

/-- Slot states, in the order of R64. -/
def SlotState.code : SlotState → Nat
  | .good => 0
  | .doubtful => 1
  | .repaired => 2
  | .final => 3
  | .missing => 4
  | .void => 5

/-- Zone states, in the order of section 6.3. -/
def ZoneState.code : ZoneState → Nat
  | .stopped => 0
  | .priming => 1
  | .playing => 2
  | .starved => 3
  | .paused => 4

/-- Stop reasons, in the order of R135. -/
def StopReason.code : StopReason → Nat
  | .reset => 0
  | .host => 1
  | .rangeEnd => 2
  | .seekFailed => 3
  | .unreadable => 4
  | .deckFault => 5
  | .deckReset => 6
  | .trayOpen => 7
  | .standby => 8
  | .startRefused => 9

/-- Sources. -/
def Source.code : Source → Nat
  | .deck .a => 0
  | .deck .b => 1
  | .none => 2
  | .mirror => 3

/-- Jobs: NONE, then the table of R91. -/
def Job.code : Job → Nat
  | .none => 0
  | .playStart => 1
  | .fetch => 2
  | .cueFetch => 3
  | .skipRecovery => 4
  | .repair => 5
  | .voidOver => 6

/-- Job phases (R91). -/
def JobPhase.code : JobPhase → Nat
  | .idle => 0
  | .run => 1
  | .held => 2
  | .backoff => 3

/-- Fetch phases (R71). -/
def FetchPhase.code : FetchPhase → Nat
  | .idle => 0
  | .current => 1
  | .cue => 2
  | .done => 3

/-- Match outcomes (R38). -/
def MatchOutcome.code : MatchOutcome → Nat
  | .none => 0
  | .matched => 1
  | .noMatch => 2
  | .ambiguous => 3

/-- Run statuses. -/
def RunStatus.code : RunStatus → Nat
  | .closed => 0
  | .opened => 1
  | .abandoned => 2

/-- Resume reasons (R174). -/
def ResumeReason.code : ResumeReason → Nat
  | .tray => 0
  | .standby => 1
  | .unload => 2
  | .fault => 3

/-- Deck commands, in the order of R14. -/
def DeckCommand.code : DeckCommand → Nat
  | .seek _ => 0
  | .stall => 1
  | .proceed => 2
  | .fetchDisc _ => 3
  | .readIndex => 4
  | .stowDisc _ => 5
  | .park _ => 6
  | .linkReset => 7

/-- Reply codes (R192). -/
def ReplyCode.code : ReplyCode → Nat
  | .ok => 0
  | .busy => 1
  | .badArg => 2
  | .badState => 3
  | .noDisc => 4
  | .unknown => 5
  | .badFrame => 6

/-- Starve policies (R209). -/
def Policy.code : Policy → Nat
  | .wait => 0
  | .pass => 1

/-! ## Operand bytes of host commands (R209) -/

/-- The deck a byte names. -/
def deckArg (b : Byte) : Option Deck :=
  if b = 0 then some .a else if b = 1 then some .b else none

/-- The zone a byte names. -/
def zoneArg (b : Byte) : Option ZoneId :=
  if b = 1 then some .one else if b = 2 then some .two else none

/-- The zones a byte names where both may be named (R194). -/
inductive ZoneChoice where
  | only (z : ZoneId)
  | both
  deriving DecidableEq, Repr

/-- The zones of PAUSE, UNPAUSE, STOP and SET_LEVEL (R194). -/
def zonesArg (b : Byte) : Option ZoneChoice :=
  if b = 3 then some .both else (zoneArg b).map .only

/-- A two-valued setting: 0 or 1 (R209). -/
def boolArg (b : Byte) : Option Bool :=
  if b = 0 then some false else if b = 1 then some true else none

/-- The source a byte names (R209). -/
def sourceArg (b : Byte) : Option Source :=
  if b = 0 then some (.deck .a) else if b = 1 then some (.deck .b) else if b = 2 then some .none
  else if b = 3 then some .mirror else none

/-- The policy a byte names (R209). -/
def policyArg (b : Byte) : Option Policy :=
  if b = 0 then some .wait else if b = 1 then some .pass else none

/-- The clear flag of a control byte (R210). -/
def clearFlag (control : Byte) : Bool := control.getLsbD 0

/-- The page of a control byte (R210). -/
def pageOf (control : Byte) : Nat := (control.toNat / 2) % 4

end Sys2Proof.Machine
end

