-- ==== Sys2Proof/Machine/Replies.lean ====
section
/-!
DEFINITION. Reply data and records as bytes (R192, R212, R213): the reply to a host command, notice and resume records, the pages of
the deck record (R36, R59, R81, R107) and of the zone record (R134).
-/

namespace Sys2Proof.Machine

/-! ## Replies (R192) -/

/-- OK with reply data. -/
def ok (data : List Byte) : Reply := { code := .ok, data := data }

/-- A refusal carries its code alone (R192). -/
def refusal (c : ReplyCode) : Reply := { code := c, data := [] }

/-- A host command's state and answer. -/
abbrev Answered := State × Reply

/-- The owner settles the reply (R191). -/
def settle (a : Answered) : State := onPort (fun p => { p with reply := some a.2 }) a.1

/-- A command refused in standby (R191 test 5, R205). -/
def unlessStandby (f : State → Answered) (s : State) : Answered :=
  if inStandby s then (s, refusal .badState) else f s

/-! ## Notice and resume records (R212) -/

/-- Eight content bytes: those given, then 0 (R212). -/
def padded (bytes : List Byte) : List Byte := bytes ++ List.replicate (8 - bytes.length) 0

/-- The content of a notice (R212). -/
def NoticeBody.bytes : NoticeBody → List Byte
  | .zoneState st why => padded [byte st.code, named StopReason.code why]
  | .cueTaken a => padded (be3 a)
  | .markReached a => padded (be3 a)
  | .deckState st r c t => padded [byte st.code, named DeckReason.code r, named FaultCause.code c, named id t]
  | .discIdentified f => padded (be4 f.toNat)
  | .repairAbandoned a n => padded (be3 a ++ [byte n])
  | .trayChanged l => padded [byte (levelCode l)]
  | .resumeMatch z a f => padded (byte (zoneCode z) :: be3 a ++ be4 f.toNat)
  | .shock m => padded (be2 m)
  | .linkError c => padded [byte (match c with | .timeout => 0 | .overrun => 1)]
  | .wake => padded []
  | .resetDone k => padded [byte (match k with | .powerOn => 0 | .soft => 1)]

/-- The unit of a notice (R212). -/
def NoticeUnit.code : NoticeUnit → Nat
  | .part => 0
  | .zone .one => 1
  | .zone .two => 2
  | .deck .a => 3
  | .deck .b => 4

/-- A notice record of 11 bytes (R212). -/
def Notice.bytes (n : Notice) : List Byte :=
  [byte n.body.kind.position, byte n.unit.code, byte n.count] ++ n.body.bytes

/-- A resume record of 22 bytes (R212). -/
def ResumeRecord.bytes (r : ResumeRecord) : List Byte :=
  be4 r.fingerprint.toNat ++ [byte (deckCode r.deck), byte (zoneCode r.zone)] ++ be3 r.range.first ++ be3 r.range.last ++ be3 r.position
    ++ range6 r.cue ++ [byte r.reason.code]

/-- A track entry of 5 bytes (R212). -/
def TrackEntry.bytes (e : TrackEntry) : List Byte := byte e.number :: be3 e.start ++ [onOff e.data]

/-! ## The deck record (R213) -/

/-- The reason byte of deck page 0 (R36, R213). DESIGN CHOICE, unsafe (log entry 46): after an entry into FAULT it is none, as R209
lists no deck reason for a fault; the fault cause has a byte of its own. -/
def DeckCause.reason : DeckCause → Option DeckReason
  | .noDisc r => some r
  | .fault _ => none

/-- A one-byte number that may be none, with the byte for none. -/
def orByte (none_ : Byte) : Option Nat → Byte
  | some n => byte n
  | none => none_

/-- Deck page 0 (R36, R213). The bytes for no slot and no decline are free values (log entry 28). -/
def Link.page (l : Link) : List Byte :=
  [0, byte l.state.code, named DeckReason.code l.cause.reason, named FaultCause.code l.faultCause, named id l.trouble,
    named (fun o => o.command.code) l.outstanding, named (fun o => o.tag.toNat) l.outstanding,
    named (fun r => r.command.code) l.waiting, named (fun t : Tag => t.toNat) l.runTag]
    ++ addr3 l.lastLanded ++ [orByte Config.noSlotByte l.lastSlot] ++ be2 l.seekTime
    ++ [orByte Config.noDeclineByte l.decline] ++ be2 l.resends ++ be2 l.stales ++ be2 l.declines

/-- Deck page 1 (R59, R213). -/
def Intake.page (i : Intake) : List Byte :=
  let t := i.stats
  let c := i.ctx
  [1] ++ be2 t.placedNew ++ be2 t.merged ++ be2 t.repaired ++ be2 t.unplaced ++ be2 t.stray ++ be2 t.overflows
    ++ be2 t.disagreements ++ be2 t.listFull ++ be2 t.voided ++ [byte c.status.code, byte c.job.code] ++ be3 c.target
    ++ [byte c.k] ++ addr3 c.anchor ++ addr3 c.lastPlaced ++ [byte c.streak, byte c.outcome.code]
    ++ addr3 (i.abandoned.map (·.addr)) ++ [byte ((i.abandoned.map fun p => p.seg.toNat).getD 0), byte i.abandonedBy]

/-- Records of a ring in a state (R64, R81). -/
def Ring.countOf (r : Ring) (st : SlotState) : Nat := (r.records.filter fun q => q.state == st).length

/-- Deck page 2 (R81, R213), with the effective high mark. -/
def Ring.page (r : Ring) (effective : Nat) : List Byte :=
  [2] ++ be2 r.cap ++ be2 r.high ++ be2 r.low ++ be2 effective ++ be2 r.depth ++ be2 r.goodDepth ++ be2 (r.countOf .good)
    ++ be2 (r.countOf .doubtful) ++ be2 (r.countOf .repaired) ++ be2 (r.countOf .final) ++ be2 (r.countOf .missing)
    ++ be2 (r.countOf .void) ++ addr3 (r.records.head?.map (·.addr)) ++ addr3 (r.records.getLast?.map (·.addr))
    ++ [byte r.tag.toNat, byte r.phase.code] ++ addr3 r.fetchAddr ++ addr3 r.fetchEnd ++ range6 r.cueCopy
    ++ [flags [r.overflow]] ++ be2 r.flushes ++ be2 r.truncations ++ be2 r.peak

/-- A place as address and segment tag; none is FFFFFFH and 0 (log entry 31). -/
def spot4 (p : Option Spot) : List Byte := addr3 (p.map (·.addr)) ++ [byte ((p.map fun q => q.seg.toNat).getD 0)]

/-- The earliest entry (R107, R213). -/
def Entry.bytes : Option Entry → List Byte
  | some e => be3 e.first ++ [byte e.seg.toNat, byte e.count, flags [e.missing, e.active], byte e.attempts]
  | none => be3 16777215 ++ [0, 0, 0, 0]

/-- Deck page 3 (R107, R213). -/
def Planner.page (p : Planner) : List Byte :=
  [3, byte p.job.code, byte p.phase.code] ++ spot4 p.target ++ [flags [p.recovery, p.flushAwaited, p.backoff]]
    ++ [byte p.seekMisses, byte p.voids] ++ spot4 p.backoffTarget ++ addr3 p.lastSlip
    ++ [byte p.entries.length, byte (p.entries.filter (·.missing)).length] ++ Entry.bytes p.entries.head?
    ++ be2 p.floor ++ be2 p.window ++ be2 p.lead ++ be2 p.threshold ++ [byte p.limit, byte p.overlap]
    ++ be2 p.stats.repairRuns ++ be2 p.stats.runOns ++ be2 p.stats.overtaken ++ be2 p.stats.abandoned ++ be2 p.stats.seekMisses

/-- The deck record as pages (R213). -/
def deckRecord (d : Deck) (s : State) : List (List Byte) :=
  let u := s.deck d
  [u.link.page, u.intake.page, u.ring.page (effHigh d s), u.plan.page]

/-! ## The zone record (R134, R213) -/

/-- The settings of SET_ZONE from the policy on (R210). -/
def ZoneSettings.bytes (t : ZoneSettings) : List Byte :=
  [byte t.policy.code] ++ be2 t.start ++ be2 t.restart ++ be2 t.step ++ [byte t.period, byte t.span] ++ be2 t.recover

/-- The zone a record shows: a mirror zone that is not STOPPED has zone 1's block in hand, play position and carry values
(R131). PRESUMED, unsafe (log entry 27): R134 does not say what the record shows. -/
def shownZone (z : ZoneId) (s : State) : Zone :=
  let n := s.zone z
  match z with
  | .one => n
  | .two =>
    if mirrorActive s then
      { n with block := s.zone1.block, position := s.zone1.position, carry := s.zone1.carry }
    else n

/-- Zone page 0 (R213). -/
def Zone.page0 (n : Zone) : List Byte :=
  [0, byte n.state.code, byte n.stopReason.code, byte n.source.code] ++ n.set.bytes ++ range6 n.range ++ range6 n.cue
    ++ range6 n.pendingRange ++ range6 n.pendingCue ++ addr3 n.position

/-- Mute causes, one bit each in the order of R109 (R213). -/
def Causes.byte (c : Causes) : Byte := flags [c.pause, c.stop, c.starve, c.protect, c.conceal, c.switch]

/-- Zone page 1 (R213). -/
def Zone.page1 (n : Zone) : List Byte :=
  [1, flags [n.endTaken, n.tag, n.staged.isSome, n.block.isSome]] ++ addr3 (n.block.map (·.addr))
    ++ [named (fun h => h.state.code) n.block] ++ be2 n.carry.left.toNat ++ be2 n.carry.right.toNat ++ be2 n.ramp
    ++ be2 n.rampTarget ++ be2 n.level ++ be2 (n.staged.getD 0) ++ [n.mutes.byte] ++ addr3 n.mark
    ++ be2 n.stats.interpolated ++ be2 n.stats.held ++ be2 n.stats.longRuns ++ be2 n.stats.clamped ++ be2 n.stats.starves

/-- The zone record as pages (R213). -/
def zoneRecordPages (z : ZoneId) (s : State) : List (List Byte) :=
  let n := shownZone z s
  [n.page0, n.page1]

/-- A later page of a snapshot (R213): BAD_STATE before BAD_ARG (log entry 30). -/
def laterPage (snapshot : Option (List (List Byte))) (page : Nat) : Reply :=
  match snapshot with
  | none => refusal .badState
  | some pages =>
    match pages[page]? with
    | some p => ok p
    | none => refusal .badArg

end Sys2Proof.Machine
end

