-- ==== Sys2Proof/Machine/HostDecks.lean ====
section
/-!
DEFINITION. The host commands answered by the Slot Pool and by a deck's blocks: SET_POOL (R61), LOAD (R27), UNLOAD (R30), RESET_DECK
(R34), SET_DECK (R74, R83, R193), QUERY_DECK (R36, R213), QUERY_DISC (R11).
-/

namespace Sys2Proof.Machine

/-! ## SET_POOL (R61) -/

/-- A requested capacity, adjusted (R61). -/
def adjustCapacity (v : Nat) : Nat := if 1 ≤ v ∧ v ≤ 95 then 96 else v - v % 32

/-- The default high mark (R62, R74). -/
def defaultHigh (c : Nat) : Nat := c - 16

/-- The default low mark (R62, R74). -/
def defaultLow (c : Nat) : Nat := if c = 0 then 0 else max 1 (c - 128)

/-- A ring with a new capacity (R61, R74). DESIGN CHOICE, unsafe (log entry 53): the peak depth stays as it was, also where it lies above
the new capacity. -/
def Ring.withCapacity (r : Ring) (c : Nat) : Ring := { r with cap := c, high := defaultHigh c, low := defaultLow c }

/-- A planner whose deck has a new capacity (R83). -/
def Planner.withCapacity (p : Planner) (c : Nat) : Planner := { p with floor := min c p.floor, window := min c p.window }

/-- A zone whose source deck has a new capacity (R130). -/
def Zone.withCapacity (n : Zone) (c : Nat) : Zone :=
  { n with set := { n.set with start := clampTo 1 c n.set.start, restart := clampTo 1 c n.set.restart } }

/-- A deck takes its new capacity; an unchanged one keeps its marks (R61). -/
def setCapacity (d : Deck) (c : Nat) (s : State) : State :=
  if (s.deck d).ring.cap = c then s
  else
    let s := onPlan d (fun p => p.withCapacity c) (onRing d (fun r => r.withCapacity c) s)
    match zoneOf d s with
    | some z => onZone z (fun n => n.withCapacity c) s
    | none => s

/-- A deck keeps SET_POOL waiting (R61, order 3). -/
def poolBusy (d : Deck) (s : State) : Bool :=
  let u := s.deck d
  !u.ring.records.isEmpty || u.link.state == .seeking || u.link.state == .streaming || u.link.state == .stalled

/-- SET_POOL (R61). -/
def setPoolAnswer (a b : Nat) (s : State) : Answered :=
  let ca := adjustCapacity a
  let cb := adjustCapacity b
  if Config.poolSlots < ca + cb then (s, refusal .badArg)
  else if (ca = 0 ∧ (zoneOf .a s).isSome = true) ∨ (cb = 0 ∧ (zoneOf .b s).isSome = true) then (s, refusal .badArg)
  else if poolBusy .a s || poolBusy .b s then (s, refusal .busy)
  else (setCapacity .b cb (setCapacity .a ca s), ok (be2 ca ++ be2 cb))

/-! ## LOAD and UNLOAD (R27, R30) -/

/-- How a deck state answers LOAD or UNLOAD before its own test (R27, R30). -/
inductive MoveGate where
  | open_
  | busy
  | closed
  deriving DecidableEq, Repr

/-- The table of R27. -/
def loadGate : DeckState → MoveGate
  | .noDisc | .ready => .open_
  | .loading | .identifying | .parking | .stowing => .busy
  | .seeking | .streaming | .stalled | .parked | .fault => .closed

/-- The table of R30. -/
def unloadGate : DeckState → MoveGate
  | .noDisc | .ready | .stalled => .open_
  | .loading | .identifying | .parking | .stowing => .busy
  | .seeking | .streaming | .parked | .fault => .closed

/-- A host's request for a mechanical command. -/
def hostRequest (c : DeckCommand) : Request := { command := c, from_ := .host, plan := none }

/-- A host's request would be dropped or refused at once (R20). -/
def wouldDrop (d : Deck) (c : DeckCommand) (s : State) : Bool :=
  match (request d (hostRequest c) s).2 with
  | .sent | .waits => false
  | .dropped | .refused => true

/-- LOAD with a magazine slot 1..6 (R27). -/
def loadDeck (d : Deck) (slot : Nat) (s : State) : Answered :=
  match loadGate (s.deck d).link.state with
  | .busy => (s, refusal .busy)
  | .closed => (s, refusal .badState)
  | .open_ =>
    if !zoneIdle d s then (s, refusal .badState)
    else
      let slotted (s : State) : State := onLink d (fun l => { l with lastSlot := some slot }) s
      if (s.deck d).link.state = .ready then
        let s := slotted (discardDisc d s)
        let s := (request d (hostRequest (.stowDisc false)) s).1
        ((request d (hostRequest (.fetchDisc slot)) s).1, ok [])
      else if wouldDrop d (.fetchDisc slot) s then (s, refusal .busy)
      else ((request d (hostRequest (.fetchDisc slot)) (slotted s)).1, ok [])

/-- LOAD (R27). -/
def loadAnswer (deck slot : Byte) (s : State) : Answered :=
  match deckArg deck with
  | none => (s, refusal .badArg)
  | some d => if 1 ≤ slot.toNat ∧ slot.toNat ≤ 6 then loadDeck d slot.toNat s else (s, refusal .badArg)

/-- The record an UNLOAD writes from the stop note of reason HOST (R176). -/
def unloadRecord (d : Deck) (s : State) : State :=
  match zoneOf d s with
  | some z =>
    match s.note z with
    | some m => if m.reason = .host ∧ m.deck = d then consumeNote z .unload m s else s
    | none => s
  | none => s

/-- The run of a STALLED deck ends without a STALL (R30). -/
def endStalled (d : Deck) (s : State) : State :=
  closeRun d (onLink d (fun l => { l with state := .ready, runTag := none }) s)

/-- UNLOAD of a named deck (R30, R80). DEDUCED, unsafe (log entry 24): the order of its effects. -/
def unloadDeck (d : Deck) (s : State) : Answered :=
  match unloadGate (s.deck d).link.state with
  | .busy => (s, refusal .busy)
  | .closed => (s, refusal .badState)
  | .open_ =>
    if !zoneIdle d s then (s, refusal .badState)
    else if wouldDrop d (.stowDisc true) s then (s, refusal .busy)
    else
      let s := unloadRecord d s
      let s := if (s.deck d).link.state = .stalled then endStalled d s else s
      let s := if (s.deck d).link.state = .ready then discardDisc d s else s
      (flush d (request d (hostRequest (.stowDisc true)) s).1, ok [])

/-- UNLOAD (R30). -/
def unloadAnswer (deck : Byte) (s : State) : Answered :=
  match deckArg deck with
  | none => (s, refusal .badArg)
  | some d => unloadDeck d s

/-! ## RESET_DECK (R34) -/

/-- The requesters of the outstanding and the waiting command are told that they are cleared (R34, R171). -/
def tellCleared (d : Deck) (s : State) : State :=
  let l := (s.deck d).link
  let s :=
    match l.waiting with
    | some w => tellDropped d w s
    | none => s
  if l.parkingForTray then onSide d (fun t => { t with reload := false }) s else s

/-- RESET_DECK of a named deck (R34). The deck's state changes first, so that the flush finds nothing to release. -/
def resetDeck (d : Deck) (s : State) : State :=
  let fault := (s.deck d).link.state == .fault
  let s := tellCleared d s
  let s := onLink d (fun l =>
    { l with outstanding := none, waiting := none, gapTimer := false, runTag := none, lastSlot := none, lastLanded := none,
             byDelivery := false }) s
  let s := if fault then s else toNoDisc d .reset s
  let s := sendLinkReset d s
  let s := cancelJob d (flush d (stopZoneOf d .deckReset true s))
  if fault then s else announce d s

/-- RESET_DECK (R34). -/
def resetDeckAnswer (deck : Byte) (s : State) : Answered :=
  match deckArg deck with
  | none => (s, refusal .badArg)
  | some d => (resetDeck d s, ok [])

/-! ## SET_DECK (R14, R45, R74, R83) -/

/-- The marks of SET_DECK, clamped in the order of R74; a deck with capacity 0 keeps marks 0 (R62). -/
def clampMarks (c high low : Nat) : Nat × Nat :=
  if c = 0 then (0, 0)
  else
    let h := max 2 (min c high)
    let l := max 1 low
    (h, if h ≤ l then h - 1 else l)

/-- SET_DECK of a named deck: ring, planner, Intake Unit, DLU at one event (R193); a lower attempt limit abandons at once (R90). -/
def setDeck (d : Deck) (v : DeckArgs) (s : State) : State :=
  let c := (s.deck d).ring.cap
  let m := clampMarks c v.high.toNat v.low.toNat
  let s := onRing d (fun r => { r with high := m.1, low := m.2 }) s
  let s := onIntake d (fun i => { i with gapLimit := min 8 v.gapLimit.toNat }) s
  let s := onLink d (fun l => { l with seekTime := clampTo 100 3000 v.seekTime.toNat }) s
  let s := onPlan d (fun p =>
    { p with floor := min c v.floor.toNat, window := min c v.window.toNat, lead := min 300 v.lead.toNat,
             threshold := clampTo 1 1176 v.threshold.toNat, limit := min 7 v.limit.toNat, overlap := min 4 v.overlap.toNat }) s
  abandonReached d s

/-- The values SET_DECK used, in the layout of its payload (R212). -/
def deckSettings (u : DeckUnit) : List Byte :=
  be2 u.ring.high ++ be2 u.ring.low ++ be2 u.plan.floor ++ be2 u.plan.window ++ be2 u.plan.lead ++ be2 u.plan.threshold
    ++ [byte u.plan.limit, byte u.plan.overlap, byte u.intake.gapLimit] ++ be2 u.link.seekTime

/-- SET_DECK (R193). -/
def setDeckAnswer (deck : Byte) (v : DeckArgs) (s : State) : Answered :=
  match deckArg deck with
  | none => (s, refusal .badArg)
  | some d =>
    let s := setDeck d v s
    (s, ok (deckSettings (s.deck d)))

/-! ## QUERY_DECK and QUERY_DISC (R11, R36, R213) -/

/-- The counters that the clear flag clears (R36, R59, R81, R107). -/
def DeckUnit.cleared (u : DeckUnit) : DeckUnit :=
  { u with link := { u.link with resends := 0, stales := 0, declines := 0 }
           intake := { u.intake with stats := IntakeStats.zero }
           ring := { u.ring with flushes := 0, truncations := 0, peak := u.ring.depth }
           plan := { u.plan with stats := ⟨0, 0, 0, 0, 0⟩ } }

/-- QUERY_DECK (R36, R213). -/
def queryDeckAnswer (deck control : Byte) (s : State) : Answered :=
  match deckArg deck with
  | none => (s, refusal .badArg)
  | some d =>
    if pageOf control = 0 then
      let pages := deckRecord d s
      let s := onDeck d (fun u => { u with snapshot := some pages }) s
      (if clearFlag control then onDeck d DeckUnit.cleared s else s, laterPage (some pages) 0)
    else (s, laterPage (s.deck d).snapshot (pageOf control))

/-- QUERY_DISC (R11). -/
def queryDiscAnswer (deck first : Byte) (s : State) : Answered :=
  match deckArg deck with
  | none => (s, refusal .badArg)
  | some d =>
    match (s.deck d).link.usable with
    | none => (s, refusal .noDisc)
    | some c =>
      let n := c.entries.length
      let q := first.toNat
      if n ≤ q then (s, refusal .badArg)
      else
        let part := (c.entries.drop q).take 8
        (s, ok (byte n :: be3 c.leadOut ++ be4 c.fingerprint.toNat ++ [byte part.length] ++ part.flatMap TrackEntry.bytes))

end Sys2Proof.Machine
end

