-- ==== Sys2Proof/Machine/HostPart.lean ====
section
/-!
DEFINITION. The host commands answered by the Message Port (R195, R196, R199, R200), the Standby Controller (R203 to R205), the Shock
Monitor (R162 to R165) and the Tray Supervisor (R181 to R183).
-/

namespace Sys2Proof.Machine

/-! ## Message Port -/

/-- IDENT (R195). -/
def identAnswer (s : State) : Answered := (s, ok (0x7A#8 :: be2 0x0A50 ++ [1] ++ be2 Config.poolSlots))

/-- RESET_PART (R196): the soft reset waits for the end of its reply. -/
def resetPartAnswer (s : State) : Answered := (onPort (fun p => { p with resetDue := true }) s, ok [])

/-- TAKE_NOTICES (R200). -/
def takeNoticesAnswer (s : State) : Answered :=
  let taken := s.port.queue.take 4
  let rest := s.port.queue.drop 4
  (onPort (fun p => { p with queue := rest }) s, ok (taken.flatMap Notice.bytes ++ [byte rest.length]))

/-- SET_NOTICE_MASK (R199). -/
def setNoticeMaskAnswer (mask : BitVec 16) (s : State) : Answered :=
  (onPort (fun p => { p with mask := mask.setWidth 12 }) s, ok (be2 (mask.setWidth 12).toNat))

/-! ## Standby Controller (R203, R204, R205) -/

/-- STANDBY (R203, R204). The reply carries the settings used (log entry 29). -/
def standbyAnswer (settings : Option (Byte × BitVec 16)) (s : State) : Answered :=
  let go (s : State) : Answered :=
    let data := onOff s.standby.wakeOnTray :: be2 s.standby.wakePeriod
    (if s.standby.phase = .awake then beginStandby s else s, ok data)
  match settings with
  | none => go s
  | some (onTray, period) =>
    match boolArg onTray with
    | none => (s, refusal .badArg)
    | some b => go { s with standby := { s.standby with wakeOnTray := b, wakePeriod := clampTo 100 2000 period.toNat } }

/-- WAKE (R205, R207). -/
def wakeAnswer (s : State) : Answered :=
  match s.standby.phase with
  | .awake => (s, ok [])
  | .entering => (s, refusal .busy)
  | .standby => (leaveStandby s, ok [])

/-! ## Shock Monitor (R162 to R165) -/

/-- The settings of SET_SHOCK in the layout of its payload (R212). -/
def Shock.settings (h : Shock) : List Byte :=
  onOff h.enable :: be2 h.centre ++ be2 h.ton ++ be2 h.toff ++ [onOff h.latching] ++ be2 h.guardTime

/-- SET_SHOCK (R162, R163). -/
def setShockAnswer (v : ShockArgs) (s : State) : Answered :=
  match shockSettings v s.shock with
  | none => (s, refusal .badArg)
  | some h => (enableChanged s.shock.enable { s with shock := h }, ok h.settings)

/-- SHOCK_REPORT (R164). -/
def shockReportAnswer (s : State) : Answered :=
  let h := s.shock
  ({ s with shock := { h with peak := 0 } },
    ok ([onOff h.enable, onOff h.flag] ++ be2 h.last ++ be2 h.peak ++ [onOff (!guardOpen s)]))

/-- CLEAR_SHOCK (R165). -/
def clearShockAnswer (s : State) : Answered := ({ s with shock := { s.shock with flag := false } }, ok [])

/-! ## Tray Supervisor (R181 to R183) -/

/-- SET_RESUME (R183). -/
def setResumeAnswer (autoResume autoReload : Byte) (rewind : Nat) (debounce : Nat) (s : State) : Answered :=
  match boolArg autoResume, boolArg autoReload with
  | some a, some b =>
    let r := min 750 rewind
    let t := clampTo 5 200 debounce
    ({ s with tray := { s.tray with autoResume := a, autoReload := b, rewind := r, debounce := t } },
      ok ([onOff a, onOff b] ++ be2 r ++ [byte t]))
  | _, _ => (s, refusal .badArg)

/-- QUERY_RESUME (R182). -/
def queryResumeAnswer (position : Byte) (s : State) : Answered :=
  match s.tray.table[position.toNat]? with
  | none => (s, refusal .badArg)
  | some r => (s, ok (byte s.tray.table.length :: r.bytes))

/-- FORGET (R181). -/
def forgetAnswer (fingerprint : Option (BitVec 32)) (s : State) : Answered :=
  let kept := match fingerprint with
    | none => []
    | some f => s.tray.table.filter fun r => r.fingerprint != f
  ({ s with tray := { s.tray with table := kept } }, ok [byte (s.tray.table.length - kept.length)])

end Sys2Proof.Machine
end

