-- ==== Sys2Proof/Machine/HostZones.lean ====
section
/-!
DEFINITION. The host commands answered by a zone: SET_ZONE (R129, R130), PLAY (R120), CUE (R123), PAUSE, UNPAUSE, STOP (R124 to
R126), SET_LEVEL, SET_MARK (R127, R128), QUERY_ZONE (R134), RESUME (R180).
-/

namespace Sys2Proof.Machine

/-! ## One zone or both (R194) -/

/-- A change taken by the zones a choice names, at one event (R194). `first` acts first; the outcome does not depend on it but for
the repeat count of a mirror zone's notice (log entry 42). -/
def onChoice (first : ZoneId) (c : ZoneChoice) (f : ZoneId → State → State) (s : State) : State :=
  match c, first with
  | .only z, _ => f z s
  | .both, .one => together (f .one) (f .two) s
  | .both, .two => together (f .two) (f .one) s

/-- PAUSE, UNPAUSE and STOP: a zone argument outside 1..3 gives BAD_ARG (R124, R125, R126). -/
def zonesAnswer (first : ZoneId) (f : ZoneId → State → State) (zone : Byte) (s : State) : Answered :=
  match zonesArg zone with
  | none => (s, refusal .badArg)
  | some c => (onChoice first c f s, ok [])

/-! ## SET_ZONE (R129, R130) -/

/-- Capacity that bounds a zone's thresholds: the source deck's, or 1,536 for MIRROR and NONE (R130). -/
def thresholdTop (src : Source) (s : State) : Nat :=
  match src with
  | .deck d => (s.deck d).ring.cap
  | .none | .mirror => Config.poolSlots

/-- The settings used (R130). -/
def zoneSettings (policy : Policy) (top : Nat) (v : ZoneArgs) : ZoneSettings :=
  { policy := policy, start := clampTo 1 top v.start.toNat, restart := clampTo 1 top v.restart.toNat,
    step := clampTo 1 4096 v.step.toNat, period := clampTo 1 64 v.period.toNat, span := clampTo 1 32 v.span.toNat,
    recover := clampTo 1 1024 v.recover.toNat }

/-- Orders 2 to 5 of R129. -/
def sourceRefused (z : ZoneId) (src : Source) (s : State) : Option ReplyCode :=
  let other := match z with | .one => s.zone2 | .two => s.zone1
  if src = .mirror ∧ z = .one then some .badArg
  else if (match src with | .deck d => decide ((s.deck d).ring.cap = 0) | _ => false) = true then some .badArg
  else if (match src with | .deck d => other.source == .deck d | _ => false) = true then some .badArg
  else if src ≠ (s.zone z).source ∧ (s.zone z).state ≠ .stopped then some .badState
  else none

/-- An accepted SET_ZONE: a change of source clears the stop note (R177), and the thresholds are tested at once (R117). DESIGN CHOICE,
unsafe: the test is made also where both thresholds stay as they were (log entry 45), and a zone 2 that becomes MIRROR keeps the
statistics it counted before (R151, log entry 51). -/
def setZone (z : ZoneId) (src : Source) (policy : Policy) (v : ZoneArgs) (s : State) : State :=
  let s := if src = (s.zone z).source then s else setNote z none s
  let set := zoneSettings policy (thresholdTop src s) v
  starveTest z (onZone z (fun n => { n with source := src, set := set }) s)

/-- SET_ZONE (R129). -/
def setZoneAnswer (zone : Byte) (v : ZoneArgs) (s : State) : Answered :=
  match zoneArg zone, sourceArg v.source, policyArg v.policy with
  | some z, some src, some policy =>
    match sourceRefused z src s with
    | some code => (s, refusal code)
    | none =>
      (setZone z src policy v s, ok (byte src.code :: (zoneSettings policy (thresholdTop src s) v).bytes))
  | _, _, _ => (s, refusal .badArg)

/-! ## PLAY and CUE (R120, R123) -/

/-- Reply data of a range (R212). -/
def rangeData (r : PlayRange) (adjusted : Bool) : List Byte := be3 r.last ++ [flags [adjusted]]

/-- The deck is occupied by a mechanical command (R120, R180). -/
def deckBusy (d : Deck) (s : State) : Bool :=
  match (s.deck d).link.state with
  | .loading | .identifying | .parking | .stowing => true
  | .noDisc | .ready | .seeking | .streaming | .stalled | .parked | .fault => false

/-- PLAY (R120, R121). -/
def playAnswer (zone : Byte) (first last : Nat) (s : State) : Answered :=
  match zoneArg zone with
  | none => (s, refusal .badArg)
  | some z =>
    match (s.zone z).deck? with
    | none => (s, refusal .badState)
    | some d =>
      if deckBusy d s then (s, refusal .busy)
      else
        match zoneRange z first last s with
        | .refused code => (s, refusal code)
        | .accepted r adjusted => (playRange z r s, ok (rangeData r adjusted))

/-- CUE (R123). -/
def cueAnswer (zone : Byte) (range : Option (Nat × Nat)) (s : State) : Answered :=
  match zoneArg zone with
  | none => (s, refusal .badArg)
  | some z =>
    let n := s.zone z
    if n.source = .mirror ∨ n.state = .stopped then (s, refusal .badState)
    else
      match range with
      | none => (cueRange z none s, ok [])
      | some (first, last) =>
        match zoneRange z first last s with
        | .refused code => (s, refusal code)
        | .accepted r adjusted => (cueRange z (some r) s, ok (rangeData r adjusted))

/-! ## Level and mark (R127, R128) -/

/-- SET_LEVEL (R127). -/
def setLevelAnswer (zone : Byte) (level : Nat) (s : State) : Answered :=
  match zonesArg zone with
  | none => (s, refusal .badArg)
  | some c =>
    let l := min 65535 level
    (onChoice .one c (fun z => onZone z fun n => { n with staged := some l }) s, ok (be2 l))

/-- SET_MARK (R128). -/
def setMarkAnswer (zone : Byte) (addr : Option Nat) (s : State) : Answered :=
  match zoneArg zone with
  | none => (s, refusal .badArg)
  | some z =>
    let m := addr.map (min Config.lastAddress)
    (onZone z (fun n => { n with mark := m }) s, ok (addr3 m))

/-! ## QUERY_ZONE (R134, R213) -/

/-- QUERY_ZONE (R134, R213). -/
def queryZoneAnswer (zone control : Byte) (s : State) : Answered :=
  match zoneArg zone with
  | none => (s, refusal .badArg)
  | some z =>
    if pageOf control = 0 then
      let pages := zoneRecordPages z s
      let s := onZone z (fun n => { n with snapshot := some pages }) s
      (if clearFlag control then onZone z (fun n => { n with stats := ⟨0, 0, 0, 0, 0⟩ }) s else s, laterPage (some pages) 0)
    else (s, laterPage (s.zone z).snapshot (pageOf control))

/-! ## RESUME (R180) -/

/-- RESUME (R180). -/
def resumeAnswer (zone : Byte) (s : State) : Answered :=
  match zoneArg zone with
  | none => (s, refusal .badArg)
  | some z =>
    match (s.zone z).deck? with
    | none => (s, refusal .badState)
    | some d =>
      if (s.zone z).state ≠ .stopped then (s, refusal .badState)
      else if deckBusy d s then (s, refusal .busy)
      else
        match (s.deck d).link.usable with
        | none => (s, refusal .noDisc)
        | some c =>
          match findRecord c.fingerprint s with
          | none => (s, refusal .badArg)
          | some r =>
            match resumeRange r (some c) s, resumeCue r (some c) with
            | .refused code, _ => (s, refusal code)
            | .accepted _ _, some (.refused code) => (s, refusal code)
            | .accepted range adjusted, _ => (beginResume z r (some c) range s, ok (be3 range.first ++ rangeData range adjusted))

end Sys2Proof.Machine
end

