-- ==== Sys2Proof/Machine/Commands.lean ====
section
/-!
DEFINITION. The host commands as their owners take them (R191 tests 5 and 6, R193, R205): for each, what it does with the answer it
gives, and its meaning as a row of the table. A row is the take by the owner; the answer is left in the port's `reply`
(log entry 3).
-/

namespace Sys2Proof.Machine

/-! ## The owners' answers, with the refusals of standby (R205) -/

/-- IDENT (R195), answered in standby too. -/
def commandIdent : State → Answered := identAnswer

/-- RESET_PART (R196), answered in standby too. -/
def commandResetPart : State → Answered := resetPartAnswer

/-- TAKE_NOTICES (R200), answered in standby too. -/
def commandTakeNotices : State → Answered := takeNoticesAnswer

/-- SET_NOTICE_MASK (R199), refused in standby. -/
def commandSetNoticeMask (mask : BitVec 16) : State → Answered := unlessStandby (setNoticeMaskAnswer mask)

/-- SET_POOL (R61), refused in standby. -/
def commandSetPool (capA capB : BitVec 16) : State → Answered := unlessStandby (setPoolAnswer capA.toNat capB.toNat)

/-- STANDBY (R203, R204), answered in standby too. -/
def commandStandby (settings : Option (Byte × BitVec 16)) : State → Answered := standbyAnswer settings

/-- WAKE (R205, R207), answered in standby too. -/
def commandWake : State → Answered := wakeAnswer

/-- LOAD (R27), refused in standby. -/
def commandLoad (deck slot : Byte) : State → Answered := unlessStandby (loadAnswer deck slot)

/-- UNLOAD (R30), refused in standby. -/
def commandUnload (deck : Byte) : State → Answered := unlessStandby (unloadAnswer deck)

/-- RESET_DECK (R34), refused in standby. -/
def commandResetDeck (deck : Byte) : State → Answered := unlessStandby (resetDeckAnswer deck)

/-- SET_DECK (R83, R193), refused in standby. -/
def commandSetDeck (deck : Byte) (v : DeckArgs) : State → Answered := unlessStandby (setDeckAnswer deck v)

/-- QUERY_DECK (R36, R213), answered in standby too. -/
def commandQueryDeck (deck control : Byte) : State → Answered := queryDeckAnswer deck control

/-- QUERY_DISC (R11), answered in standby too. -/
def commandQueryDisc (deck first : Byte) : State → Answered := queryDiscAnswer deck first

/-- SET_ZONE (R129, R130), refused in standby. -/
def commandSetZone (zone : Byte) (v : ZoneArgs) : State → Answered := unlessStandby (setZoneAnswer zone v)

/-- PLAY (R120, R121), refused in standby. -/
def commandPlay (zone : Byte) (first last : BitVec 24) : State → Answered := unlessStandby (playAnswer zone first.toNat last.toNat)

/-- CUE (R123), refused in standby. -/
def commandCue (zone : Byte) (range : Option (BitVec 24 × BitVec 24)) : State → Answered := unlessStandby (cueAnswer zone (range.map fun r => (r.1.toNat, r.2.toNat)))

/-- PAUSE (R124), refused in standby. -/
def commandPause (zone : Byte) : State → Answered := unlessStandby (zonesAnswer .two pauseZone zone)

/-- UNPAUSE (R125), refused in standby. -/
def commandUnpause (zone : Byte) : State → Answered := unlessStandby (zonesAnswer .one unpauseZone zone)

/-- STOP (R126), refused in standby. -/
def commandStop (zone : Byte) : State → Answered := unlessStandby (zonesAnswer .one (fun z => stopRequest z .host false) zone)

/-- SET_LEVEL (R127), refused in standby. -/
def commandSetLevel (zone : Byte) (level : BitVec 16) : State → Answered := unlessStandby (setLevelAnswer zone level.toNat)

/-- SET_MARK (R128), refused in standby. -/
def commandSetMark (zone : Byte) (addr : Option (BitVec 24)) : State → Answered := unlessStandby (setMarkAnswer zone (addr.map (·.toNat)))

/-- QUERY_ZONE (R134, R213), answered in standby too. -/
def commandQueryZone (zone control : Byte) : State → Answered := queryZoneAnswer zone control

/-- SET_SHOCK (R162, R163), refused in standby. -/
def commandSetShock (v : ShockArgs) : State → Answered := unlessStandby (setShockAnswer v)

/-- SHOCK_REPORT (R164), refused in standby. -/
def commandShockReport : State → Answered := unlessStandby shockReportAnswer

/-- CLEAR_SHOCK (R165), refused in standby. -/
def commandClearShock : State → Answered := unlessStandby clearShockAnswer

/-- SET_RESUME (R183), refused in standby. -/
def commandSetResume (autoResume autoReload : Byte) (rewind : BitVec 16) (debounce : Byte) : State → Answered := unlessStandby (setResumeAnswer autoResume autoReload rewind.toNat debounce.toNat)

/-- QUERY_RESUME (R182), answered in standby too. -/
def commandQueryResume (position : Byte) : State → Answered := queryResumeAnswer position

/-- RESUME (R180), refused in standby. -/
def commandResume (zone : Byte) : State → Answered := unlessStandby (resumeAnswer zone)

/-- FORGET (R181), refused in standby. -/
def commandForget (fingerprint : Option (BitVec 32)) : State → Answered := unlessStandby (forgetAnswer fingerprint)

/-- The owner's answer to a host command (R193); a row that is no host command never reaches an owner. -/
def hostAnswer (i : Instr) (s : State) : Answered :=
  match i with
  | .ident => commandIdent s
  | .resetPart => commandResetPart s
  | .takeNotices => commandTakeNotices s
  | .setNoticeMask mask => commandSetNoticeMask mask s
  | .setPool capA capB => commandSetPool capA capB s
  | .standby settings => commandStandby settings s
  | .wake => commandWake s
  | .load deck slot => commandLoad deck slot s
  | .unload deck => commandUnload deck s
  | .resetDeck deck => commandResetDeck deck s
  | .setDeck deck v => commandSetDeck deck v s
  | .queryDeck deck control => commandQueryDeck deck control s
  | .queryDisc deck first => commandQueryDisc deck first s
  | .setZone zone v => commandSetZone zone v s
  | .play zone first last => commandPlay zone first last s
  | .cue zone range => commandCue zone range s
  | .pause zone => commandPause zone s
  | .unpause zone => commandUnpause zone s
  | .stop zone => commandStop zone s
  | .setLevel zone level => commandSetLevel zone level s
  | .setMark zone addr => commandSetMark zone addr s
  | .queryZone zone control => commandQueryZone zone control s
  | .setShock v => commandSetShock v s
  | .shockReport => commandShockReport s
  | .clearShock => commandClearShock s
  | .setResume autoResume autoReload rewind debounce => commandSetResume autoResume autoReload rewind debounce s
  | .queryResume position => commandQueryResume position s
  | .resume zone => commandResume zone s
  | .forget fingerprint => commandForget fingerprint s
  | .powerOnReset _ | .softReset | .hostFrameComplete _ | .interByteTimerExpiry | .replySent | .taken _ _ | .declined _ _ _
  | .landed _ _ _ | .seekMiss _ _ | .trackSlip _ _ _ | .discIn _ _ | .slotEmpty _ _ | .index _ _ _ _ _ _ | .stowed _ _
  | .parked _ _ | .deckTrouble _ _ | .controlFrameDiscard _ | .deckLinkByteTimeout _ _ | .delivery _ _ _
  | .ackTimerExpiry _ | .completionTimerExpiry _ | .deliveryGapTimerExpiry _ | .backoffTimerExpiry _ | .frameEvent
  | .blockBoundary | .rampStep _ | .concealClear _ | .shockConversionComplete _ | .guardTimerExpiry | .trayLineChange _ _
  | .trayDebounceExpiry _ | .wakeTimerExpiry | .standbyEntryComplete | .hostByteReceived _ | .deckLinkByteReceived _ _ _ =>
    (s, refusal .unknown)

/-! ## The rows -/

/-- A host command taken by its owner, the reply settled (R191). -/
def taken (s : State) (f : State → Answered) : Host.Outcome State Fault Refusal := whenUp s fun s => settle (f s)

/-- IDENT (R195). -/
def execIdent (s : State) : Host.Outcome State Fault Refusal :=
  taken s commandIdent

/-- RESET_PART (R196). -/
def execResetPart (s : State) : Host.Outcome State Fault Refusal :=
  taken s commandResetPart

/-- TAKE_NOTICES (R200). -/
def execTakeNotices (s : State) : Host.Outcome State Fault Refusal :=
  taken s commandTakeNotices

/-- SET_NOTICE_MASK (R199). -/
def execSetNoticeMask (mask : BitVec 16) (s : State) : Host.Outcome State Fault Refusal :=
  taken s (commandSetNoticeMask mask)

/-- SET_POOL (R61). -/
def execSetPool (capA capB : BitVec 16) (s : State) : Host.Outcome State Fault Refusal :=
  taken s (commandSetPool capA capB)

/-- STANDBY (R203, R204). -/
def execStandby (settings : Option (Byte × BitVec 16)) (s : State) : Host.Outcome State Fault Refusal :=
  taken s (commandStandby settings)

/-- WAKE (R205, R207). -/
def execWake (s : State) : Host.Outcome State Fault Refusal :=
  taken s commandWake

/-- LOAD (R27). -/
def execLoad (deck slot : Byte) (s : State) : Host.Outcome State Fault Refusal :=
  taken s (commandLoad deck slot)

/-- UNLOAD (R30). -/
def execUnload (deck : Byte) (s : State) : Host.Outcome State Fault Refusal :=
  taken s (commandUnload deck)

/-- RESET_DECK (R34). -/
def execResetDeck (deck : Byte) (s : State) : Host.Outcome State Fault Refusal :=
  taken s (commandResetDeck deck)

/-- SET_DECK (R83, R193). -/
def execSetDeck (deck : Byte) (v : DeckArgs) (s : State) : Host.Outcome State Fault Refusal :=
  taken s (commandSetDeck deck v)

/-- QUERY_DECK (R36, R213). -/
def execQueryDeck (deck control : Byte) (s : State) : Host.Outcome State Fault Refusal :=
  taken s (commandQueryDeck deck control)

/-- QUERY_DISC (R11). -/
def execQueryDisc (deck first : Byte) (s : State) : Host.Outcome State Fault Refusal :=
  taken s (commandQueryDisc deck first)

/-- SET_ZONE (R129, R130). -/
def execSetZone (zone : Byte) (v : ZoneArgs) (s : State) : Host.Outcome State Fault Refusal :=
  taken s (commandSetZone zone v)

/-- PLAY (R120, R121). -/
def execPlay (zone : Byte) (first last : BitVec 24) (s : State) : Host.Outcome State Fault Refusal :=
  taken s (commandPlay zone first last)

/-- CUE (R123). -/
def execCue (zone : Byte) (range : Option (BitVec 24 × BitVec 24)) (s : State) : Host.Outcome State Fault Refusal :=
  taken s (commandCue zone range)

/-- PAUSE (R124). -/
def execPause (zone : Byte) (s : State) : Host.Outcome State Fault Refusal :=
  taken s (commandPause zone)

/-- UNPAUSE (R125). -/
def execUnpause (zone : Byte) (s : State) : Host.Outcome State Fault Refusal :=
  taken s (commandUnpause zone)

/-- STOP (R126). -/
def execStop (zone : Byte) (s : State) : Host.Outcome State Fault Refusal :=
  taken s (commandStop zone)

/-- SET_LEVEL (R127). -/
def execSetLevel (zone : Byte) (level : BitVec 16) (s : State) : Host.Outcome State Fault Refusal :=
  taken s (commandSetLevel zone level)

/-- SET_MARK (R128). -/
def execSetMark (zone : Byte) (addr : Option (BitVec 24)) (s : State) : Host.Outcome State Fault Refusal :=
  taken s (commandSetMark zone addr)

/-- QUERY_ZONE (R134, R213). -/
def execQueryZone (zone control : Byte) (s : State) : Host.Outcome State Fault Refusal :=
  taken s (commandQueryZone zone control)

/-- SET_SHOCK (R162, R163). -/
def execSetShock (v : ShockArgs) (s : State) : Host.Outcome State Fault Refusal :=
  taken s (commandSetShock v)

/-- SHOCK_REPORT (R164). -/
def execShockReport (s : State) : Host.Outcome State Fault Refusal :=
  taken s commandShockReport

/-- CLEAR_SHOCK (R165). -/
def execClearShock (s : State) : Host.Outcome State Fault Refusal :=
  taken s commandClearShock

/-- SET_RESUME (R183). -/
def execSetResume (autoResume autoReload : Byte) (rewind : BitVec 16) (debounce : Byte) (s : State) : Host.Outcome State Fault Refusal :=
  taken s (commandSetResume autoResume autoReload rewind debounce)

/-- QUERY_RESUME (R182). -/
def execQueryResume (position : Byte) (s : State) : Host.Outcome State Fault Refusal :=
  taken s (commandQueryResume position)

/-- RESUME (R180). -/
def execResume (zone : Byte) (s : State) : Host.Outcome State Fault Refusal :=
  taken s (commandResume zone)

/-- FORGET (R181). -/
def execForget (fingerprint : Option (BitVec 32)) (s : State) : Host.Outcome State Fault Refusal :=
  taken s (commandForget fingerprint)

end Sys2Proof.Machine
end

