-- ==== Sys2Proof/Machine/Resets.lean ====
section
/-!
DEFINITION. Power-on reset and soft reset (R208). Both end every operation in progress. The queue of waiting commands and the
free choices already drawn are the model's own and are kept.
-/

namespace Sys2Proof.Machine

/-- Every block at its reset values (R208), with the tray lines as they stand and the resume records given. -/
def resetTo (k : ResetKind) (table : List ResumeRecord) (s : State) : State :=
  { State.afterReset k s.tray.sideA.line s.tray.sideB.line table with drawn := s.drawn, pending := s.pending }

/-- The soft reset (R208): the resume table is kept with its positions (R185). -/
def softReset (s : State) : State := resetTo .soft s.tray.table s

/-- A DLU while the reset pin is low: it has sent nothing (R208). -/
def Link.held : Link := { Link.reset with outstanding := none, nextTag := 0, sent := [] }

/-- A deck's blocks while the reset pin is low. -/
def DeckUnit.held : DeckUnit := { DeckUnit.reset with link := Link.held }

/-- The reset pin goes low (R208): every operation ends, and no block acts. DESIGN CHOICE, unsafe (log entry 6): what State shows
while the pin is low. -/
def heldInReset (s : State) : State :=
  let s := resetTo .powerOn [] s
  { s with resetPin := .low, deckA := DeckUnit.held, deckB := DeckUnit.held, port := { s.port with queue := [] } }

/-- The reset pin rises, or power is applied with the pin high (R208). -/
def powerOn (s : State) : State := resetTo .powerOn [] s

end Sys2Proof.Machine
end

