-- ==== Sys2Proof/Machine/Port.lean ====
section
/-!
DEFINITION. The Message Port's link: the receiver (R186 to R188), the receive buffer (R189, R190), the answer to a frame (R191,
R192), the end of a reply (R190, R196).
-/

namespace Sys2Proof.Machine

/-! ## Frames (R192, R210) -/

/-- The check byte that makes a sum 0 mod 256 (R189). -/
def checkByte (bytes : List Byte) : Byte := byte (256 - byteSum bytes % 256)

/-- A reply frame (R192, R210). -/
def replyFrame (kind tag : Byte) (r : Reply) : List Byte :=
  let body := byte (3 + r.data.length) :: kind :: tag :: byte r.code.code :: r.data
  0xA5#8 :: (body ++ [checkByte body])

/-- The answer to a frame in hand (R191): the state after it, the kind of the reply, its tag and the reply. -/
def answerFrame (f : HostFrame) (s : State) : Answered × Byte × Byte :=
  match f with
  | .bad tag => ((s, refusal .badFrame), 0xFF#8, tag)
  | .good kind tag payload =>
    if 128 ≤ kind.toNat then ((s, refusal .unknown), 0xFF#8, tag)
    else
      match decodeCommand kind payload with
      | .unknown => ((s, refusal .unknown), kind + 0x80#8, tag)
      | .badLength => ((s, refusal .badArg), kind + 0x80#8, tag)
      | .command i => (hostAnswer i s, kind + 0x80#8, tag)

/-- The oldest buffered frame is taken when the transmitter is IDLE and no frame is in hand (R190). While a soft reset waits for the
reply of a RESET_PART to be sent, no frame is taken (R196, log entry 5). -/
def takeFrame (s : State) : State :=
  match s.port.transmitter, s.port.inHand || s.port.resetDue, s.port.buffer with
  | none, false, f :: _ =>
    let (a, kind, tag) := answerFrame f s
    onPort (fun p => { p with inHand := true, transmitter := some (replyFrame kind tag a.2) }) (settle a)
  | _, _, _ => s

/-! ## The receiver (R186 to R189) -/

/-- A frame completes (R189). -/
def completeFrame (f : HostFrame) (s : State) : State :=
  let s := onPort (fun p => { p with receiver := .hunting }) s
  if s.port.buffer.length < 2 then takeFrame (onPort (fun p => { p with buffer := p.buffer ++ [f] }) s)
  else raiseNotice .part (.linkError .overrun) s

/-- The frame that a length byte, the bytes after it and the check byte make (R189). -/
def frameOf (len : Nat) (bytes : List Byte) : HostFrame :=
  match bytes with
  | kind :: tag :: rest =>
    if (len + byteSum bytes) % 256 = 0 then .good kind tag (rest.take (len - 2)) else .bad tag
  | _ => .bad 0

/-- A byte from the host (R186, R187). -/
def hostByte (b : Byte) (s : State) : State :=
  match s.port.receiver with
  | .hunting => if b = 0xA5#8 then onPort (fun p => { p with receiver := .length }) s else s
  | .length =>
    if 2 ≤ b.toNat ∧ b.toNat ≤ 66 then onPort (fun p => { p with receiver := .body b.toNat [] }) s
    else completeFrame (.bad 0) s
  | .body len got =>
    let got := got ++ [b]
    if got.length = len + 1 then completeFrame (frameOf len got) s
    else onPort (fun p => { p with receiver := .body len got }) s

/-- A byte that completes a frame: a bad length byte, or the check byte (R189). -/
def completesFrame (b : Byte) (s : State) : Bool :=
  match s.port.receiver with
  | .hunting => false
  | .length => !decide (2 ≤ b.toNat ∧ b.toNat ≤ 66)
  | .body len got => got.length == len

/-- The inter-byte timer expires (R188). It runs exactly while a frame is in progress. -/
def interByteExpired (s : State) : State :=
  match s.port.receiver with
  | .hunting => s
  | .length | .body _ _ =>
    raiseNotice .part (.linkError .timeout) (onPort (fun p => { p with receiver := .hunting }) s)

/-! ## The end of a reply (R190, R196) -/

/-- The last byte of a reply has been sent (R190); a soft reset that waited for it begins (R196, R208). -/
def replySent (s : State) : State :=
  if s.port.resetDue then softReset s
  else
    match s.port.transmitter with
    | none => s
    | some _ => takeFrame (onPort (fun p => { p with buffer := p.buffer.tail, inHand := false, transmitter := none }) s)

/-! ## The rows -/

/-- HOST_FRAME_COMPLETE with the byte that completes the frame (R189, log entry 4). -/
def execHostFrameComplete (b : Byte) (s : State) : Host.Outcome State Fault Refusal :=
  whenUp s fun s => if completesFrame b s then hostByte b s else s

/-- INTER_BYTE_TIMER_EXPIRY (R188). -/
def execInterByteTimerExpiry (s : State) : Host.Outcome State Fault Refusal := whenUp s interByteExpired

/-- REPLY_SENT (R190, R196). -/
def execReplySent (s : State) : Host.Outcome State Fault Refusal := whenUp s replySent

/-- HOST_BYTE_RECEIVED (R186). -/
def execHostByteReceived (b : Byte) (s : State) : Host.Outcome State Fault Refusal := whenUp s (hostByte b)

/-- POWER_ON_RESET with the level the reset pin takes (R208). -/
def execPowerOnReset (pin : Pin) (s : State) : Host.Outcome State Fault Refusal :=
  match pin with
  | .low => .next (heldInReset s)
  | .high => .next (powerOn s)

/-- SOFT_RESET (R196, R208). -/
def execSoftReset (s : State) : Host.Outcome State Fault Refusal := whenUp s softReset

end Sys2Proof.Machine
end

