-- ==== Sys2Proof/Machine/Reports.lean ====
section
/-!
DEFINITION. The rows of the deck links: reports (R15 to R34), deliveries (R26), timers (R15, R16, R25, R105), and frames received byte
by byte (R214 to R216).
-/

namespace Sys2Proof.Machine

/-! ## What a DLU sends (R13, R214) -/

/-- A control-channel frame: sync byte, two-byte length, kind, tag byte, content, and the check byte that makes the sum from the length
on a multiple of 256 (R214). -/
def controlFrameBytes (kind tag : Byte) (content : List Byte) : List Byte :=
  let body := be2 (2 + content.length) ++ kind :: tag :: content
  0xC3#8 :: (body ++ [byte (256 - byteSum body % 256)])

/-- The content of a command's frame (R214). -/
def DeckCommand.content : DeckCommand → List Byte
  | .seek a => be3 a
  | .fetchDisc slot => [byte slot]
  | .stall | .proceed | .readIndex | .stowDisc _ | .park _ | .linkReset => []

/-- The frame of a command the DLU sends, with its kind and tag byte by R209 (R214). -/
def SentCommand.frame (c : SentCommand) : List Byte :=
  controlFrameBytes (byte c.command.code) (tagByte c.tag) c.command.content

/-- The bytes a DLU has sent on its control channel since the reset, oldest first (R214, log entry 13). -/
def Link.sentBytes (l : Link) : List Byte := l.sent.flatMap SentCommand.frame

/-! ## Reports -/

/-- TAKEN (R15). -/
def execTaken (d : Deck) (tag : Tag) (s : State) : Host.Outcome State Fault Refusal := event s (takenReport d tag)

/-- DECLINED (R18). -/
def execDeclined (d : Deck) (tag : Tag) (reason : Byte) (s : State) : Host.Outcome State Fault Refusal :=
  event s (declinedReport d tag reason.toNat)

/-- LANDED (R22). -/
def execLanded (d : Deck) (tag : Tag) (addr : BitVec 24) (s : State) : Host.Outcome State Fault Refusal :=
  event s (landedReport d tag addr.toNat)

/-- SEEK_MISS (R24). -/
def execSeekMiss (d : Deck) (tag : Tag) (s : State) : Host.Outcome State Fault Refusal := event s (seekMissReport d tag)

/-- TRACK_SLIP (R24, R25). -/
def execTrackSlip (d : Deck) (tag : Tag) (addr : BitVec 24) (s : State) : Host.Outcome State Fault Refusal :=
  event s (trackSlipReport d tag addr.toNat)

/-- DISC_IN (R28). -/
def execDiscIn (d : Deck) (tag : Tag) (s : State) : Host.Outcome State Fault Refusal := event s (discInReport d tag)

/-- SLOT_EMPTY (R28). -/
def execSlotEmpty (d : Deck) (tag : Tag) (s : State) : Host.Outcome State Fault Refusal := event s (slotEmptyReport d tag)

/-- INDEX (R29). -/
def execIndex (d : Deck) (tag : Tag) (count : Byte) (leadOut : BitVec 24) (entries : List TrackField) (ragged : Bool) (s : State) :
    Host.Outcome State Fault Refusal :=
  event s (indexReport d tag count leadOut entries ragged)

/-- STOWED (R30). -/
def execStowed (d : Deck) (tag : Tag) (s : State) : Host.Outcome State Fault Refusal := event s (stowedReport d tag)

/-- PARKED (R31). -/
def execParked (d : Deck) (tag : Tag) (s : State) : Host.Outcome State Fault Refusal := event s (parkedReport d tag)

/-- DECK_TROUBLE (R33). -/
def execDeckTrouble (d : Deck) (code : Byte) (s : State) : Host.Outcome State Fault Refusal :=
  event s (deckTroubleReport d code.toNat)

/-- DELIVERY (R26, R40). -/
def execDelivery (d : Deck) (tag : Tag) (v : DeliveryArgs) (s : State) : Host.Outcome State Fault Refusal :=
  if v.wellFormed then event s (deliver d tag v) else .fault .illFormedCommand

/-! ## Timers -/

/-- ACK_TIMER_EXPIRY (R15). -/
def execAckTimerExpiry (d : Deck) (s : State) : Host.Outcome State Fault Refusal := event s (ackExpired d)

/-- COMPLETION_TIMER_EXPIRY (R16). -/
def execCompletionTimerExpiry (d : Deck) (s : State) : Host.Outcome State Fault Refusal := event s (completionExpired d)

/-- DELIVERY_GAP_TIMER_EXPIRY (R25). -/
def execDeliveryGapTimerExpiry (d : Deck) (s : State) : Host.Outcome State Fault Refusal := event s (gapExpired d)

/-- BACKOFF_TIMER_EXPIRY (R105). -/
def execBackoffTimerExpiry (d : Deck) (s : State) : Host.Outcome State Fault Refusal := event s (onBackoffExpired d)

/-! ## Frames of the deck links (R214 to R216) -/

/-- The meaning of a report or a delivery (R17, R26); a row that is neither never comes from a deck link's frame. -/
def linkReport (i : Instr) (s : State) : State :=
  match i with
  | .taken d t => takenReport d t s
  | .declined d t r => declinedReport d t r.toNat s
  | .landed d t a => landedReport d t a.toNat s
  | .seekMiss d t => seekMissReport d t s
  | .trackSlip d t a => trackSlipReport d t a.toNat s
  | .discIn d t => discInReport d t s
  | .slotEmpty d t => slotEmptyReport d t s
  | .index d t n l es r => indexReport d t n l es r s
  | .stowed d t => stowedReport d t s
  | .parked d t => parkedReport d t s
  | .deckTrouble d c => deckTroubleReport d c.toNat s
  | .delivery d t v => deliver d t v s
  | .powerOnReset _ | .softReset | .hostFrameComplete _ | .interByteTimerExpiry | .replySent | .ident | .resetPart
  | .takeNotices | .setNoticeMask _ | .setPool _ _ | .standby _ | .wake | .load _ _ | .unload _ | .resetDeck _ | .setDeck _ _
  | .queryDeck _ _ | .queryDisc _ _ | .setZone _ _ | .play _ _ _ | .cue _ _ | .pause _ | .unpause _ | .stop _
  | .setLevel _ _ | .setMark _ _ | .queryZone _ _ | .setShock _ | .shockReport | .clearShock | .setResume _ _ _ _
  | .queryResume _ | .resume _ | .forget _ | .controlFrameDiscard _ | .deckLinkByteTimeout _ _ | .ackTimerExpiry _
  | .completionTimerExpiry _ | .deliveryGapTimerExpiry _ | .backoffTimerExpiry _ | .frameEvent | .blockBoundary | .rampStep _
  | .concealClear _ | .shockConversionComplete _ | .guardTimerExpiry | .trayLineChange _ _ | .trayDebounceExpiry _
  | .wakeTimerExpiry | .standbyEntryComplete | .hostByteReceived _ | .deckLinkByteReceived _ _ _ => s

/-- A malformed control frame is discarded and counted (R216). -/
def discardControl (d : Deck) (s : State) : State :=
  staleReport d (onLink d (fun l => { l with controlIn := none }) s)

/-- The value of a control frame's length bytes (R214). -/
def controlLength (got : List Byte) : Option Nat :=
  match got with
  | a :: b :: _ => some (field2 a b).toNat
  | _ => none

/-- A control frame is complete (R214, R216): the bytes from its length on, its check byte last. -/
def controlFrame (d : Deck) (got : List Byte) (s : State) : State :=
  match got with
  | _ :: _ :: kind :: tag :: rest =>
    if byteSum got % 256 = 0 then
      match decodeReport d kind tag rest.dropLast with
      | some i => linkReport i (onLink d (fun l => { l with controlIn := none }) s)
      | none => discardControl d s
    else discardControl d s
  | _ => discardControl d s

/-- A byte on a control channel (R214, R216). PRESUMED, unsafe (log entry 32): outside a frame every byte but the sync byte is
passed over. -/
def controlByte (d : Deck) (b : Byte) (s : State) : State :=
  match (s.deck d).link.controlIn with
  | none => if b = 0xC3#8 then onLink d (fun l => { l with controlIn := some [] }) s else s
  | some got =>
    let got := got ++ [b]
    match controlLength got with
    | none => onLink d (fun l => { l with controlIn := some got }) s
    | some n =>
      if n < 2 ∨ 501 < n then discardControl d s
      else if got.length = n + 3 then controlFrame d got s
      else onLink d (fun l => { l with controlIn := some got }) s

/-- A byte on a block channel (R215, R216). -/
def blockByte (d : Deck) (b : Byte) (s : State) : State :=
  match (s.deck d).link.blockIn with
  | none => if b = 0x96#8 then onLink d (fun l => { l with blockIn := some [] }) s else s
  | some got =>
    let got := got ++ [b]
    if got.length = blockFrameBytes then
      linkReport (decodeDelivery d got) (onLink d (fun l => { l with blockIn := none }) s)
    else onLink d (fun l => { l with blockIn := some got }) s

/-- A partial frame is discarded (R216). -/
def discardPartial (d : Deck) (ch : Channel) (s : State) : State :=
  match ch with
  | .control => onLink d (fun l => { l with controlIn := none }) s
  | .block => onLink d (fun l => { l with blockIn := none }) s

/-- CONTROL_FRAME_DISCARD (R216). -/
def execControlFrameDiscard (d : Deck) (s : State) : Host.Outcome State Fault Refusal := whenUp s (discardControl d)

/-- DECK_LINK_BYTE_TIMEOUT (R216). -/
def execDeckLinkByteTimeout (d : Deck) (ch : Channel) (s : State) : Host.Outcome State Fault Refusal :=
  whenUp s (discardPartial d ch)

/-- DECK_LINK_BYTE_RECEIVED (R214 to R216). -/
def execDeckLinkByteReceived (d : Deck) (ch : Channel) (b : Byte) (s : State) : Host.Outcome State Fault Refusal :=
  event s fun s =>
    match ch with
    | .control => controlByte d b s
    | .block => blockByte d b s

end Sys2Proof.Machine
end

