-- ==== Sys2Proof/Machine/Dispatch.lean ====
section
/-!
DEFINITION. The meaning of each command: one arm for each row of the table of operations and events, in its order.
-/

namespace Sys2Proof.Machine

def exec (i : Instr) (s : State) : Host.Outcome State Fault Refusal :=
  match i with
  | .powerOnReset pin => Sys2Proof.Machine.execPowerOnReset pin s
  | .softReset => Sys2Proof.Machine.execSoftReset s
  | .hostFrameComplete b => Sys2Proof.Machine.execHostFrameComplete b s
  | .interByteTimerExpiry => Sys2Proof.Machine.execInterByteTimerExpiry s
  | .replySent => Sys2Proof.Machine.execReplySent s
  | .ident => Sys2Proof.Machine.execIdent s
  | .resetPart => Sys2Proof.Machine.execResetPart s
  | .takeNotices => Sys2Proof.Machine.execTakeNotices s
  | .setNoticeMask mask => Sys2Proof.Machine.execSetNoticeMask mask s
  | .setPool capA capB => Sys2Proof.Machine.execSetPool capA capB s
  | .standby settings => Sys2Proof.Machine.execStandby settings s
  | .wake => Sys2Proof.Machine.execWake s
  | .load deck slot => Sys2Proof.Machine.execLoad deck slot s
  | .unload deck => Sys2Proof.Machine.execUnload deck s
  | .resetDeck deck => Sys2Proof.Machine.execResetDeck deck s
  | .setDeck deck v => Sys2Proof.Machine.execSetDeck deck v s
  | .queryDeck deck control => Sys2Proof.Machine.execQueryDeck deck control s
  | .queryDisc deck first => Sys2Proof.Machine.execQueryDisc deck first s
  | .setZone zone v => Sys2Proof.Machine.execSetZone zone v s
  | .play zone first last => Sys2Proof.Machine.execPlay zone first last s
  | .cue zone range => Sys2Proof.Machine.execCue zone range s
  | .pause zone => Sys2Proof.Machine.execPause zone s
  | .unpause zone => Sys2Proof.Machine.execUnpause zone s
  | .stop zone => Sys2Proof.Machine.execStop zone s
  | .setLevel zone level => Sys2Proof.Machine.execSetLevel zone level s
  | .setMark zone addr => Sys2Proof.Machine.execSetMark zone addr s
  | .queryZone zone control => Sys2Proof.Machine.execQueryZone zone control s
  | .setShock v => Sys2Proof.Machine.execSetShock v s
  | .shockReport => Sys2Proof.Machine.execShockReport s
  | .clearShock => Sys2Proof.Machine.execClearShock s
  | .setResume autoResume autoReload rewind debounce => Sys2Proof.Machine.execSetResume autoResume autoReload rewind debounce s
  | .queryResume position => Sys2Proof.Machine.execQueryResume position s
  | .resume zone => Sys2Proof.Machine.execResume zone s
  | .forget fingerprint => Sys2Proof.Machine.execForget fingerprint s
  | .taken d tag => Sys2Proof.Machine.execTaken d tag s
  | .declined d tag reason => Sys2Proof.Machine.execDeclined d tag reason s
  | .landed d tag addr => Sys2Proof.Machine.execLanded d tag addr s
  | .seekMiss d tag => Sys2Proof.Machine.execSeekMiss d tag s
  | .trackSlip d tag addr => Sys2Proof.Machine.execTrackSlip d tag addr s
  | .discIn d tag => Sys2Proof.Machine.execDiscIn d tag s
  | .slotEmpty d tag => Sys2Proof.Machine.execSlotEmpty d tag s
  | .index d tag count leadOut entries ragged => Sys2Proof.Machine.execIndex d tag count leadOut entries ragged s
  | .stowed d tag => Sys2Proof.Machine.execStowed d tag s
  | .parked d tag => Sys2Proof.Machine.execParked d tag s
  | .deckTrouble d code => Sys2Proof.Machine.execDeckTrouble d code s
  | .controlFrameDiscard d => Sys2Proof.Machine.execControlFrameDiscard d s
  | .deckLinkByteTimeout d ch => Sys2Proof.Machine.execDeckLinkByteTimeout d ch s
  | .delivery d tag v => Sys2Proof.Machine.execDelivery d tag v s
  | .ackTimerExpiry d => Sys2Proof.Machine.execAckTimerExpiry d s
  | .completionTimerExpiry d => Sys2Proof.Machine.execCompletionTimerExpiry d s
  | .deliveryGapTimerExpiry d => Sys2Proof.Machine.execDeliveryGapTimerExpiry d s
  | .backoffTimerExpiry d => Sys2Proof.Machine.execBackoffTimerExpiry d s
  | .frameEvent => Sys2Proof.Machine.execFrameEvent s
  | .blockBoundary => Sys2Proof.Machine.execBlockBoundary s
  | .rampStep z => Sys2Proof.Machine.execRampStep z s
  | .concealClear z => Sys2Proof.Machine.execConcealClear z s
  | .shockConversionComplete v => Sys2Proof.Machine.execShockConversionComplete v s
  | .guardTimerExpiry => Sys2Proof.Machine.execGuardTimerExpiry s
  | .trayLineChange d level => Sys2Proof.Machine.execTrayLineChange d level s
  | .trayDebounceExpiry d => Sys2Proof.Machine.execTrayDebounceExpiry d s
  | .wakeTimerExpiry => Sys2Proof.Machine.execWakeTimerExpiry s
  | .standbyEntryComplete => Sys2Proof.Machine.execStandbyEntryComplete s
  | .hostByteReceived b => Sys2Proof.Machine.execHostByteReceived b s
  | .deckLinkByteReceived d ch b => Sys2Proof.Machine.execDeckLinkByteReceived d ch b s

end Sys2Proof.Machine
end

