-- ==== Sys2Proof/Machine/Step.lean ====
section
/-!
DEFINITION. One step: the command at the front of the queue, carried out with the queue's rest (log entry 1). How a run of commands
comes about: they are queued from outside the part; from `State.reset` the queue is empty and the part idles.
-/

namespace Sys2Proof.Machine

/-- One step. On an empty queue the part idles (DESIGN CHOICE, safe, log entry 1). -/
def step (s : State) : Host.Outcome State Fault Refusal :=
  match s.pending with
  | [] => .next s
  | i :: rest => exec i { s with pending := rest }

/-- The state with the command that a word spells put at the front of its queue; the table gives no row bits, so no word spells
one, and the state is unchanged (log entry 1). -/
def State.withFetchWord (s : State) (nbits w : Nat) : State :=
  match decodeTableWord nbits w with
  | some i => { s with pending := i :: s.pending }
  | none => s

end Sys2Proof.Machine
end

