-- ==== Sys2Proof/Safety.lean ====
section
/-!
DEFINITION. The terms in which claims about the part are made: what a command answers, runs of several commands, which commands
standby refuses, the frames that carry a command on a link, and the forms that every step keeps.
-/

namespace Sys2Proof.Machine

/-! ## What a command answers -/

/-- The command answers a next state, and it is one of which `q` holds. -/
def Answers (i : Instr) (s : State) (q : State → Prop) : Prop := ∃ t, exec i s = .next t ∧ q t

/-- The state with a reply settled (R191). -/
def replied (c : ReplyCode) (data : List Byte) (s : State) : State :=
  { s with port := { s.port with reply := some { code := c, data := data } } }

/-- The reset pin is high (R208). -/
abbrev Up (s : State) : Prop := s.resetPin = .high

/-- The part runs and is not in standby (R203). -/
abbrev Awake (s : State) : Prop := s.resetPin = .high ∧ s.standby.phase = .awake

/-- The part runs and standby entry is not waiting for a zone (R204). -/
abbrev Settled (s : State) : Prop := s.resetPin = .high ∧ s.standby.phase ≠ .entering

/-- The state after commands taken one after the other; none where one of them does not answer a next state. -/
def runAll : List Instr → State → Option State
  | [], s => some s
  | i :: rest, s =>
    match exec i s with
    | .next t => runAll rest t
    | .fault _ | .refused _ => none

/-! ## The other deck, the other zone -/

/-- The other deck. -/
def otherDeck : Deck → Deck
  | .a => .b
  | .b => .a

/-- The other zone. -/
def otherZone : ZoneId → ZoneId
  | .one => .two
  | .two => .one

/-- The byte that names a deck (R209). -/
def deckByte : Deck → Byte
  | .a => 0#8
  | .b => 1#8

/-- The byte that names a zone (R209). -/
def zoneByte : ZoneId → Byte
  | .one => 1#8
  | .two => 2#8

/-! ## Arithmetic -/

/-- `q` is `num / den` rounded half away from zero (0.6, "Arithmetic"). -/
abbrev Rounded (num : Int) (den : Nat) (q : Int) : Prop :=
  2 * (num - q * den).natAbs ≤ den ∧ (2 * (num - q * den).natAbs = den → num.natAbs < q.natAbs * den)

/-! ## Kinds of commands -/

/-- The commands answered BAD_STATE in standby (R205): every host command but the nine it names. -/
def refusedInStandby : Instr → Bool
  | .setNoticeMask _ | .setPool _ _ | .load _ _ | .unload _ | .resetDeck _ | .setDeck _ _ | .setZone _ _ | .play _ _ _ | .cue _ _
  | .pause _ | .unpause _ | .stop _ | .setLevel _ _ | .setMark _ _ | .setShock _ | .shockReport | .clearShock
  | .setResume _ _ _ _ | .resume _ | .forget _ => true
  | .ident | .takeNotices | .queryDeck _ _ | .queryDisc _ _ | .queryZone _ _ | .queryResume _ | .standby _ | .wake | .resetPart
  | .powerOnReset _ | .softReset | .hostFrameComplete _ | .interByteTimerExpiry | .replySent | .taken _ _ | .declined _ _ _
  | .landed _ _ _ | .seekMiss _ _ | .trackSlip _ _ _ | .discIn _ _ | .slotEmpty _ _ | .index _ _ _ _ _ _ | .stowed _ _
  | .parked _ _ | .deckTrouble _ _ | .controlFrameDiscard _ | .deckLinkByteTimeout _ _ | .delivery _ _ _
  | .ackTimerExpiry _ | .completionTimerExpiry _ | .deliveryGapTimerExpiry _ | .backoffTimerExpiry _ | .frameEvent
  | .blockBoundary | .rampStep _ | .concealClear _ | .shockConversionComplete _ | .guardTimerExpiry | .trayLineChange _ _
  | .trayDebounceExpiry _ | .wakeTimerExpiry | .standbyEntryComplete | .hostByteReceived _ | .deckLinkByteReceived _ _ _ => false

/-- The deck or zone byte of a host command names no deck or zone that the command takes (R209, R194). -/
def misnamesUnit : Instr → Bool
  | .load d _ | .unload d | .resetDeck d | .setDeck d _ | .queryDeck d _ | .queryDisc d _ => decide (1 < d.toNat)
  | .setZone z _ | .play z _ _ | .cue z _ | .setMark z _ | .queryZone z _ | .resume z => decide (z.toNat ≠ 1 ∧ z.toNat ≠ 2)
  | .pause z | .unpause z | .stop z | .setLevel z _ => decide (z.toNat < 1 ∨ 3 < z.toNat)
  | .ident | .resetPart | .takeNotices | .setNoticeMask _ | .setPool _ _ | .standby _ | .wake | .setShock _ | .shockReport
  | .clearShock | .setResume _ _ _ _ | .queryResume _ | .forget _
  | .powerOnReset _ | .softReset | .hostFrameComplete _ | .interByteTimerExpiry | .replySent | .taken _ _ | .declined _ _ _
  | .landed _ _ _ | .seekMiss _ _ | .trackSlip _ _ _ | .discIn _ _ | .slotEmpty _ _ | .index _ _ _ _ _ _ | .stowed _ _
  | .parked _ _ | .deckTrouble _ _ | .controlFrameDiscard _ | .deckLinkByteTimeout _ _ | .delivery _ _ _
  | .ackTimerExpiry _ | .completionTimerExpiry _ | .deliveryGapTimerExpiry _ | .backoffTimerExpiry _ | .frameEvent
  | .blockBoundary | .rampStep _ | .concealClear _ | .shockConversionComplete _ | .guardTimerExpiry | .trayLineChange _ _
  | .trayDebounceExpiry _ | .wakeTimerExpiry | .standbyEntryComplete | .hostByteReceived _ | .deckLinkByteReceived _ _ _ => false

/-- The deck of a row that belongs to one deck link: a report, a delivery, a link timer, a byte or a discard. -/
def linkDeck : Instr → Option Deck
  | .taken d _ | .declined d _ _ | .landed d _ _ | .seekMiss d _ | .trackSlip d _ _ | .discIn d _ | .slotEmpty d _
  | .index d _ _ _ _ _ | .stowed d _ | .parked d _ | .deckTrouble d _ | .controlFrameDiscard d | .deckLinkByteTimeout d _
  | .delivery d _ _ | .ackTimerExpiry d | .completionTimerExpiry d | .deliveryGapTimerExpiry d | .backoffTimerExpiry d
  | .deckLinkByteReceived d _ _ => some d
  | .powerOnReset _ | .softReset | .hostFrameComplete _ | .interByteTimerExpiry | .replySent | .ident | .resetPart
  | .takeNotices | .setNoticeMask _ | .setPool _ _ | .standby _ | .wake | .load _ _ | .unload _ | .resetDeck _ | .setDeck _ _
  | .queryDeck _ _ | .queryDisc _ _ | .setZone _ _ | .play _ _ _ | .cue _ _ | .pause _ | .unpause _ | .stop _
  | .setLevel _ _ | .setMark _ _ | .queryZone _ _ | .setShock _ | .shockReport | .clearShock | .setResume _ _ _ _
  | .queryResume _ | .resume _ | .forget _ | .frameEvent | .blockBoundary | .rampStep _ | .concealClear _
  | .shockConversionComplete _ | .guardTimerExpiry | .trayLineChange _ _ | .trayDebounceExpiry _ | .wakeTimerExpiry
  | .standbyEntryComplete | .hostByteReceived _ => none

/-- Deck and tag of a report that carries a meaningful tag (R17). -/
def reportTag : Instr → Option (Deck × Tag)
  | .taken d t | .declined d t _ | .landed d t _ | .seekMiss d t | .trackSlip d t _ | .discIn d t | .slotEmpty d t
  | .index d t _ _ _ _ | .stowed d t | .parked d t => some (d, t)
  | .deckTrouble _ _ | .controlFrameDiscard _ | .deckLinkByteTimeout _ _
  | .delivery _ _ _ | .ackTimerExpiry _ | .completionTimerExpiry _ | .deliveryGapTimerExpiry _ | .backoffTimerExpiry _
  | .deckLinkByteReceived _ _ _
  | .powerOnReset _ | .softReset | .hostFrameComplete _ | .interByteTimerExpiry | .replySent | .ident | .resetPart
  | .takeNotices | .setNoticeMask _ | .setPool _ _ | .standby _ | .wake | .load _ _ | .unload _ | .resetDeck _ | .setDeck _ _
  | .queryDeck _ _ | .queryDisc _ _ | .setZone _ _ | .play _ _ _ | .cue _ _ | .pause _ | .unpause _ | .stop _
  | .setLevel _ _ | .setMark _ _ | .queryZone _ _ | .setShock _ | .shockReport | .clearShock | .setResume _ _ _ _
  | .queryResume _ | .resume _ | .forget _ | .frameEvent | .blockBoundary | .rampStep _ | .concealClear _
  | .shockConversionComplete _ | .guardTimerExpiry | .trayLineChange _ _ | .trayDebounceExpiry _ | .wakeTimerExpiry
  | .standbyEntryComplete | .hostByteReceived _ => none

/-! ## Frames on the links -/

/-- The frame of a host command: sync byte, length, kind, tag, payload, and the check byte that makes the sum from the length on a
multiple of 256 (R186, R189, R210). -/
def hostFrameBytes (kind tag : Byte) (payload : List Byte) : List Byte :=
  let body := byte (2 + payload.length) :: kind :: tag :: payload
  0xA5#8 :: (body ++ [byte (256 - byteSum body % 256)])

/-- The frame of a report (R214). -/
abbrev reportFrameBytes (kind tag : Byte) (content : List Byte) : List Byte := controlFrameBytes kind tag content

/-! ## Layouts (R209) -/

/-- Fields laid out one after the other, each as its size in bytes and its value, most significant byte first (R209). -/
def laidOut (fields : List (Nat × Nat)) : List Byte :=
  fields.flatMap fun f => (List.range f.1).reverse.map fun i => BitVec.ofNat 8 (f.2 / 256 ^ i)

/-- The value of a field of one byte that may be none: FFH (R209). -/
def orFF (v : Option Nat) : Nat := v.getD 255

/-- The value of an address that may be none: FFFFFFH (R209). -/
def orFFFFFF (v : Option Nat) : Nat := v.getD 16777215

/-- The value of a flag byte: bit 0 upward in the order listed (R209). -/
def flagValue : List Bool → Nat
  | [] => 0
  | b :: rest => b.toNat + 2 * flagValue rest

/-- The fields of a range that may be none: start and end (R209, R213). -/
def rangeFields (r : Option PlayRange) : List (Nat × Nat) := [(3, orFFFFFF (r.map (·.first))), (3, orFFFFFF (r.map (·.last)))]

/-- The fields of a place that may be none: address and segment tag (R213; the tag of none is log entry 31). -/
def spotFields (p : Option Spot) : List (Nat × Nat) :=
  [(3, orFFFFFF (p.map (·.addr))), (1, (p.map fun q => q.seg.toNat).getD 0)]

/-! ## The requests of a deck link -/

/-- A DLU that has just sent a new command: the command is outstanding with the next tag and its acknowledge timer, and the tag
counter has advanced (R13, R15). -/
def Link.hasSent (c : DeckCommand) (l : Link) : Link :=
  { l with
    outstanding := some { command := c, tag := l.nextTag, resends := 0, limit := completionTime l.seekTime c, timer := .acknowledge }
    nextTag := l.nextTag + 1
    sent := l.sent ++ [{ command := c, tag := l.nextTag }] }

/-- A DLU that stands in FAULT with a cause: no command, no run, no usable catalogue (R33). -/
abbrev Link.faulted (c : FaultCause) (l : Link) : Prop :=
  l.state = .fault ∧ l.cause = .fault c ∧ l.faultCause = some c ∧ l.outstanding = none ∧ l.waiting = none ∧ l.runTag = none ∧
    l.gapTimer = false ∧ l.usable = none

/-- A ring and its planner and Intake Unit as a flush and a cancelled job leave them (R38, R79, R106). -/
abbrev DeckUnit.emptied (u : DeckUnit) : Prop :=
  u.ring.records = [] ∧ u.ring.phase = .idle ∧ u.ring.fetchAddr = none ∧ u.ring.fetchEnd = none ∧ u.ring.cueCopy = none ∧
    u.ring.tag = false ∧ u.ring.overflow = false ∧ u.plan.entries = [] ∧ u.plan.job = .none ∧ u.plan.phase = .idle ∧
    u.plan.target = none ∧ u.plan.backoff = false ∧ u.plan.flushAwaited = false ∧ u.intake.ctx.status = .closed ∧
    u.intake.abandoned = none

/-! ## What stays as it was -/

/-- The reset pin, the Shock Monitor, the Standby Controller, the frame event's stage and the queue of waiting commands are as they
were. -/
abbrev SamePart (s t : State) : Prop :=
  t.resetPin = s.resetPin ∧ t.shock = s.shock ∧ t.standby = s.standby ∧ t.stage = s.stage ∧ t.pending = s.pending

/-- The settings that SET_SHOCK sets (R162). -/
def settingsOfShock (h : Shock) : Bool × Nat × Nat × Nat × Bool × Nat := (h.enable, h.centre, h.ton, h.toff, h.latching, h.guardTime)

/-- The settings that SET_RESUME sets (R183). -/
def settingsOfTray (t : Tray) : Bool × Bool × Nat × Nat := (t.autoResume, t.autoReload, t.rewind, t.debounce)

/-- The settings of a deck that SET_DECK sets (R14, R45, R74, R83), some of them bounded by SET_POOL (R61). -/
def settingsOfDeck (u : DeckUnit) : List Nat :=
  [u.ring.high, u.ring.low, u.plan.floor, u.plan.window, u.plan.lead, u.plan.threshold, u.plan.limit, u.plan.overlap,
   u.intake.gapLimit, u.link.seekTime]

/-- A zone with both thresholds changed (R130). -/
def onThresholds (f : Nat → Nat) (n : Zone) : Zone :=
  { n with set := { n.set with start := f n.set.start, restart := f n.set.restart } }

/-- The rows that can carry out another command or a reset: they are followed by whatever that does. -/
def carriesAnother : Instr → Bool
  | .powerOnReset _ | .softReset | .hostFrameComplete _ | .hostByteReceived _ | .replySent => true
  | .interByteTimerExpiry | .ident | .resetPart | .takeNotices | .setNoticeMask _ | .setPool _ _ | .standby _ | .wake | .load _ _
  | .unload _ | .resetDeck _ | .setDeck _ _ | .queryDeck _ _ | .queryDisc _ _ | .setZone _ _ | .play _ _ _ | .cue _ _
  | .pause _ | .unpause _ | .stop _ | .setLevel _ _ | .setMark _ _ | .queryZone _ _ | .setShock _ | .shockReport | .clearShock
  | .setResume _ _ _ _ | .queryResume _ | .resume _ | .forget _ | .taken _ _ | .declined _ _ _ | .landed _ _ _ | .seekMiss _ _
  | .trackSlip _ _ _ | .discIn _ _ | .slotEmpty _ _ | .index _ _ _ _ _ _ | .stowed _ _ | .parked _ _ | .deckTrouble _ _
  | .controlFrameDiscard _ | .deckLinkByteTimeout _ _ | .delivery _ _ _ | .ackTimerExpiry _ | .completionTimerExpiry _
  | .deliveryGapTimerExpiry _ | .backoffTimerExpiry _ | .frameEvent | .blockBoundary | .rampStep _ | .concealClear _
  | .shockConversionComplete _ | .guardTimerExpiry | .trayLineChange _ _ | .trayDebounceExpiry _ | .wakeTimerExpiry
  | .standbyEntryComplete | .deckLinkByteReceived _ _ _ => false

/-! ## Forms that every step keeps -/

/-- A kind of notice belongs to this unit (R197). -/
def fitsUnit (u : NoticeUnit) (k : NoticeKind) : Bool :=
  match u, k with
  | .zone _, .zoneState | .zone _, .cueTaken | .zone _, .markReached => true
  | .deck _, .deckState | .deck _, .discIdentified | .deck _, .repairAbandoned | .deck _, .trayChanged | .deck _, .resumeMatch
  | .deck _, .wake => true
  | .part, .shock | .part, .linkError | .part, .resetDone => true
  | _, _ => false

/-- The notice queue (R197, R198): no two entries of one kind and unit, each of a kind that belongs to its unit, each with a
repeat count of 1 to 255. -/
abbrev QueueForm (q : List Notice) : Prop :=
  (q.map fun n => (n.unit, n.body.kind)).Nodup ∧ ∀ n ∈ q, fitsUnit n.unit n.body.kind = true ∧ 1 ≤ n.count ∧ n.count ≤ 255

/-- The resume table (R175): at most 8 records, no two with one fingerprint. -/
abbrev TableForm (t : List ResumeRecord) : Prop := t.length ≤ 8 ∧ (t.map (·.fingerprint)).Nodup

/-- A ring's capacity and marks (R60, R62, R63, R74): the capacity is 0 with both marks 0, or a multiple of 32 from 96 to 1,536 with
1 ≤ low < high ≤ C; and the ring holds no more records than its capacity. -/
abbrev Ring.sized (r : Ring) : Prop :=
  (r.cap = 0 ∧ r.high = 0 ∧ r.low = 0 ∨
    96 ≤ r.cap ∧ r.cap ≤ 1536 ∧ r.cap % 32 = 0 ∧ 1 ≤ r.low ∧ r.low < r.high ∧ r.high ≤ r.cap) ∧
  r.records.length ≤ r.cap

/-- The Slot Pool and the rings (R60, R63, R74): the capacities sum to at most 1,536, and each deck's capacity, marks and records are in
their form. -/
abbrev PoolForm (s : State) : Prop := s.deckA.ring.cap + s.deckB.ring.cap ≤ 1536 ∧ s.deckA.ring.sized ∧ s.deckB.ring.sized

/-- The Message Port's link (R186 to R190): at most two frames are held, one is in hand exactly while a reply is sent, and while any
is held, but for those that a soft reset is due to discard (R196); a frame in progress has a good length and no more bytes than it
needs. -/
def PortForm (p : Port) : Prop :=
  p.buffer.length ≤ 2 ∧ (p.inHand = true ↔ p.transmitter.isSome = true) ∧ (p.inHand = true → p.buffer ≠ []) ∧
    (p.buffer ≠ [] → p.inHand = true ∨ p.resetDue = true) ∧
    ∀ len got, p.receiver = .body len got → 2 ≤ len ∧ len ≤ 66 ∧ got.length ≤ len

/-- A zone at rest (R113, R139, R145, R147): no block in hand, no run in progress, the carry values and the ramp 0, no cause. -/
abbrev Zone.atRest (n : Zone) : Prop :=
  n.block = none ∧ n.runLeft = none ∧ n.runRight = none ∧ n.carry = ⟨0, 0⟩ ∧ n.ramp = 0 ∧ n.causes = Causes.empty ∧
    n.inherited = Causes.empty ∧ n.concealWaits = false

/-- Every zone that is STOPPED is at rest (R113). -/
def RestForm (s : State) : Prop := ∀ z, (s.zone z).state = .stopped → (s.zone z).atRest

/-- A zone's thresholds lie in 1 to the capacity of its source deck, or in 1 to 1,536 for MIRROR and NONE (R130). -/
abbrev ThresholdForm (s : State) : Prop :=
  ∀ z, 1 ≤ (s.zone z).set.start ∧ (s.zone z).set.start ≤ thresholdTop (s.zone z).source s ∧ 1 ≤ (s.zone z).set.restart ∧
    (s.zone z).set.restart ≤ thresholdTop (s.zone z).source s

/-- A zone's ramp, levels and other settings stay in their ranges (R109, R127, R130, R147). -/
abbrev ZoneForm (n : Zone) : Prop :=
  n.ramp ≤ 32768 ∧ n.rampCount ≤ 63 ∧ n.level ≤ 65535 ∧ (∀ l, n.staged = some l → l ≤ 65535) ∧ n.blockPhase < 588 ∧
    1 ≤ n.set.step ∧ n.set.step ≤ 4096 ∧ 1 ≤ n.set.period ∧ n.set.period ≤ 64 ∧ 1 ≤ n.set.span ∧ n.set.span ≤ 32 ∧
    1 ≤ n.set.recover ∧ n.set.recover ≤ 1024

/-- Only zone 2 mirrors, and no deck is the source of both zones (R129). -/
def SourcesForm (s : State) : Prop :=
  s.zone1.source ≠ .mirror ∧ ∀ d, ¬ (s.zone1.source = .deck d ∧ s.zone2.source = .deck d)

/-- The Shock Monitor (R162, R163): thresholds in their ranges, and nothing open, set or converting while it is disabled. -/
abbrev ShockForm (h : Shock) : Prop :=
  h.centre ≤ 1023 ∧ 1 ≤ h.ton ∧ h.ton ≤ 511 ∧ h.toff < h.ton ∧ h.guardTime ≤ 10000 ∧
    (h.enable = false → h.guard = none ∧ h.flag = false ∧ h.converting = false)

/-- The records of one segment (R65). -/
def Ring.segment (r : Ring) (g : Seg) : List SlotRecord := r.records.filter fun q => q.seg == g

/-- Addresses that ascend by exactly one (R65). -/
def ascendByOne : List SlotRecord → Prop
  | q :: r :: rest => r.addr = q.addr + 1 ∧ ascendByOne (r :: rest)
  | [_] | [] => True

/-- The fetch address continues a segment: it follows the segment's last record, if there is one (R71, R72). -/
def Ring.continues (r : Ring) (g : Seg) : Prop :=
  (∃ e, r.fetchEnd = some e) ∧ ∃ f, r.fetchAddr = some f ∧ ∀ q, (r.segment g).getLast? = some q → f = q.addr + 1

/-- A ring's segments (R65, R71): the current segment stands before the cue segment, each ascends by one, a cue segment exists only with
a cue, and the fetch address continues the segment that the fetch phase names. -/
def RingForm (r : Ring) : Prop :=
  r.records = r.segment r.tag ++ r.segment (!r.tag) ∧ ascendByOne (r.segment r.tag) ∧ ascendByOne (r.segment (!r.tag)) ∧
    (r.segment (!r.tag) ≠ [] → r.cueCopy ≠ none) ∧
    match r.phase with
    | .idle => r.records = [] ∧ r.fetchAddr = none ∧ r.fetchEnd = none
    | .current => r.segment (!r.tag) = [] ∧ r.continues r.tag
    | .cue => r.cueCopy ≠ none ∧ r.continues (!r.tag)
    | .done => r.fetchAddr = none ∧ r.fetchEnd = none

/-- One entry of the repair list against its ring (R84): 1 to 8 consecutive slots that the ring holds, each DOUBTFUL or MISSING, fewer
attempts than the limit, and the holds-missing flag as the slots have it. -/
def Entry.fits (e : Entry) (r : Ring) (limit : Nat) : Prop :=
  1 ≤ e.count ∧ e.count ≤ 8 ∧ e.attempts < limit ∧
    (∀ k, k < e.count → ∃ q ∈ r.records, q.addr = e.first + k ∧ q.seg = e.seg ∧ (q.state = .doubtful ∨ q.state = .missing)) ∧
    (e.missing = true ↔ ∃ q ∈ r.records, q.state = .missing ∧ e.covers ⟨q.addr, q.seg⟩ = true)

/-- A deck's repair list (R84): at most 32 entries in play order, no two sharing a slot, each fitting the ring, at most one ACTIVE, every
MISSING slot covered; and the gap limit in its range (R45). -/
def RepairForm (u : DeckUnit) : Prop :=
  u.plan.entries.length ≤ 32 ∧ (∀ e ∈ u.plan.entries, e.fits u.ring u.plan.limit) ∧
    u.plan.entries.Pairwise (fun e f => if e.seg = f.seg then e.first + e.count ≤ f.first else e.seg = u.ring.tag) ∧
    (u.plan.entries.filter (·.active)).length ≤ 1 ∧
    (∀ q ∈ u.ring.records, q.state = .missing → ∃ e ∈ u.plan.entries, e.covers ⟨q.addr, q.seg⟩ = true) ∧ u.intake.gapLimit ≤ 8

/-- Standby entry never waits for zones that have both stopped (R204). -/
def EntryForm (s : State) : Prop :=
  s.standby.phase = .entering → s.zone1.state ≠ .stopped ∨ s.zone2.state ≠ .stopped

/-! ## A range begun -/

/-- The mirror of a zone 1 that enters PRIMING leaves STOPPED with it (R132) and inherits STARVE. That this counts a starve event is the
model's reading of R132 (DEDUCED, unsafe, log entry 40). -/
def Zone.mirrorPrimed (n : Zone) : Zone :=
  { n with state := .priming, causes := { n.causes with stop := false }, inherited := { Causes.empty with starve := true },
           stats := { n.stats with starves := min 65535 (n.stats.starves + 1) } }

/-- A link on which a run can be started at once: the deck is READY, SEEKING, STREAMING or STALLED, and a command outstanding, if there is
one, is a motion command, which the SEEK supersedes (R19, R22). -/
abbrev Link.startable (l : Link) : Prop := l.state.runnable = true ∧ ∀ o, l.outstanding = some o → o.command.isMotion = true

/-- What a release sends (R23): a STALL from a deck that moves, SEEKING, STREAMING or STALLED with PROCEED outstanding. -/
def Link.released (l : Link) : Link :=
  match l.state with
  | .seeking | .streaming => Link.hasSent .stall l
  | .stalled => if l.proceeding = true then Link.hasSent .stall l else l
  | .noDisc | .loading | .identifying | .ready | .parking | .parked | .stowing | .fault => l

/-- A zone whose ring has reported a flush (R139): no block in hand, no run in progress, the carry values 0. -/
def Zone.unheld (n : Zone) : Zone := { n with block := none, runLeft := none, runRight := none, carry := ⟨0, 0⟩ }

/-- A link that has entered FAULT with a cause (R33 steps 1, 2 and 4): no timer, no command and no run, and a usable catalogue is
unusable. -/
def Link.inFault (cause : FaultCause) (l : Link) : Link :=
  { l with
    state := .fault, cause := .fault cause, faultCause := some cause, outstanding := none, waiting := none, gapTimer := false,
    runTag := none
    disc := match l.disc with
      | .usable c => .unusable c
      | .unusable c => .unusable c
      | .absent => .absent }

/-- A zone after entry into STOPPED with a reason: its own values cleared (R113, R139, R145, R147). -/
def Zone.ended (why : StopReason) (n : Zone) : Zone :=
  { n with
    state := .stopped, stopReason := why, range := none, cue := none, pendingRange := none, pendingCue := none, position := none,
    endTaken := false, block := none, carry := ⟨0, 0⟩, runLeft := none, runRight := none, ramp := 0, rampCount := 0, clean := 0,
    concealWaits := false, causes := Causes.empty, inherited := Causes.empty }

/-- A range begun, with a cue or none, over a deck that can start a run: the zone is PRIMING with STARVE alone (R121, R122), the ring is
empty and fetches the range (R79, R99), a deck that moves is released (R23), SEEK is sent to the range's start with overlap 0 and the run
context opened with its tag (R22, R39, R92), the zone's stop note is cleared (R177), a STOPPED mirror of zone 1 enters PRIMING (R132), and
everything else but the reply and the resume table is as it was. -/
structure RangeBegun (z : ZoneId) (d : Deck) (r : PlayRange) (cue : Option PlayRange) (s t : State) : Prop where
  theZone : t.zone z = { s.zone z with
    state := .priming, range := some r, tag := false, cue := cue, pendingRange := none, pendingCue := none, position := some r.first,
    endTaken := false, block := none, carry := ⟨0, 0⟩, runLeft := none, runRight := none, ramp := 0, clean := 0,
    concealWaits := false, causes := { Causes.empty with starve := true } }
  theDeck : t.deck d = { s.deck d with
    link := { Link.hasSent (.seek r.first) (s.deck d).link.released with
      state := .seeking, runTag := some (s.deck d).link.released.nextTag, gapTimer := false, lastLanded := none, byDelivery := false }
    intake := { (s.deck d).intake with
      abandoned := none, abandonedBy := 0,
      ctx := { status := .opened, runTag := (s.deck d).link.released.nextTag, job := .playStart, target := r.first, k := 0, span := none,
               anchor := none, lastPlaced := none, streak := 0, outcome := .none, blind := false, asked := false, reached := [] } }
    ring := { (s.deck d).ring with
      records := [], tag := false, phase := .current, fetchAddr := some r.first, fetchEnd := some r.last, cueCopy := cue,
      overflow := false, flushes := min 65535 ((s.deck d).ring.flushes + 1) }
    plan := { (s.deck d).plan with
      entries := [], job := .playStart, phase := .run, target := some ⟨r.first, false⟩, recovery := false, flushAwaited := false,
      seekMisses := 0, voids := 0, backoff := false, backoffTarget := none } }
  deckKept : t.deck (otherDeck d) = s.deck (otherDeck d)
  zoneKept : z = .two ∨ s.zone2.source ≠ .mirror → t.zone (otherZone z) = s.zone (otherZone z)
  mirror : z = .one → s.zone2.source = .mirror → s.zone2.state = .stopped → s.zone2.atRest → t.zone2 = s.zone2.mirrorPrimed
  notices : z = .two ∨ s.zone2.source ≠ .mirror →
    t.port.queue = (raiseNotice (.zone z) (.zoneState .priming none) s).port.queue
  tray : { t.tray with table := s.tray.table } = (setNote z none s).tray
  part : SamePart s t

end Sys2Proof.Machine
end

