-- ==== Sys2Proof/Certificates/Slice0/Obligations.lean ====
section
/-!
DEFINITION. The statements about the part that are put to the provers.
-/

open Sys2Proof Sys2Proof.Machine

/-! ## The machine -/

/-- A step runs the command at the front of the queue on the state with the queue's rest; on an empty queue the part idles. The
queue is the model's own (log entry 1). -/
def Obligations.StepRunsFrontCommand : Prop :=
  (∀ (i : Instr) (rest : List Instr) (s : State), s.pending = i :: rest → step s = exec i { s with pending := rest }) ∧
    ∀ s : State, s.pending = [] → step s = .next s

/-- Every command that can reach the part answers a next state; a delivery that does not carry one block is the only term that
stops (log entry 33). While the reset pin is low no block acts, and the attention line is high (R208); the tray lines are pins of
their own (log entry 6). -/
def Obligations.EveryCommandAnswersNext : Prop :=
  ((∀ (i : Instr) (s : State), i.wellFormed = true → ∃ t, exec i s = .next t) ∧
     ∀ (d : Deck) (tag : Tag) (v : DeliveryArgs) (s : State),
       v.wellFormed = false → exec (.delivery d tag v) s = .fault .illFormedCommand) ∧
  (∀ (i : Instr) (s : State),
     s.resetPin = .low → i.wellFormed = true → (∀ p, i ≠ .powerOnReset p) →
       attention s = .high ∧
         exec i s = .next (match i with
           | .trayLineChange d l => onSide d (fun t => { t with line := l }) s
           | _ => s))

/-- No command changes the queue of waiting commands, resets included (log entry 1). -/
def Obligations.CommandsKeepTheQueue : Prop :=
  ∀ (i : Instr) (s t : State), exec i s = .next t → t.pending = s.pending

/-! ## Resets (R208) -/

/-- A soft reset puts every block at its reset values, keeps the resume table, and leaves RESET_DONE with SOFT alone in the notice
queue. A power-on reset, in any state: with the pin low the attention line is high, no command is outstanding, both zones are STOPPED
and silent and the resume table is empty (what State shows then is log entry 6); when the pin rises every block stands at its reset
values. -/
def Obligations.ResetsStartAfresh : Prop :=
  (∀ s : State, Up s →
     exec .softReset s = .next
       { State.reset with
         tray := { State.reset.tray with
           sideA := { line := s.tray.sideA.line, level := s.tray.sideA.line, timer := none, reload := false }
           sideB := { line := s.tray.sideB.line, level := s.tray.sideB.line, timer := none, reload := false }
           table := s.tray.table }
         port := { State.reset.port with queue := [{ unit := .part, body := .resetDone .soft, count := 1 }] }
         drawn := s.drawn
         pending := s.pending }) ∧
  (∀ s : State,
     exec (.powerOnReset .high) s = .next
       { State.reset with
         tray := { State.reset.tray with
           sideA := { line := s.tray.sideA.line, level := s.tray.sideA.line, timer := none, reload := false }
           sideB := { line := s.tray.sideB.line, level := s.tray.sideB.line, timer := none, reload := false } }
         drawn := s.drawn
         pending := s.pending } ∧
     Answers (.powerOnReset .low) s fun t =>
       t.resetPin = .low ∧ attention t = .high ∧ t.tray.table = [] ∧ t.standby.phase = .awake ∧
         (∀ d, (t.deck d).link.outstanding = none ∧ (t.deck d).link.sent = [] ∧ (t.deck d).emptied) ∧
         (∀ z, (t.zone z).state = .stopped ∧ (t.zone z).ramp = 0 ∧ (t.zone z).emitted = ⟨0, 0⟩) ∧
         (∀ d, (t.side d).line = (s.side d).line))

/-- The reset state in full: every register, list, timer, flag and setting of every block at the value the chapters' tables give it;
where they give none, the run context's tag, job, target and overlap are log entry 14 and the levels of the tray lines log entry 7; of
the count of free choices (log entry 10) nothing is said, and the queue, the stage, the last reply and the list of what was sent are
the model's own (log entries 1, 8, 3, 13). The attention line is low. The reset state has every form that the steps keep. -/
def Obligations.ResetState : Prop :=
  (let deck : DeckUnit :=
    { link :=
        { state := .noDisc, cause := .noDisc .reset, faultCause := none, trouble := none, decline := none,
          outstanding := some { command := .linkReset, tag := 0, resends := 0, limit := 0, timer := .acknowledge },
          waiting := none, nextTag := 1, runTag := none, gapTimer := false, lastLanded := none, byDelivery := false,
          lastSlot := none, disc := .absent,
          seekTime := 800, resends := 0, stales := 0, declines := 0, sent := [{ command := .linkReset, tag := 0 }],
          controlIn := none, blockIn := none }
      intake :=
        { ctx := { status := .closed, runTag := 0, job := .none, target := 0, k := 0, span := none, anchor := none,
                   lastPlaced := none, streak := 0, outcome := .none, blind := false, asked := false, reached := [] },
          abandoned := none, abandonedBy := 0,
          stats := { placedNew := 0, merged := 0, repaired := 0, unplaced := 0, stray := 0, overflows := 0, disagreements := 0,
                     listFull := 0, voided := 0 },
          gapLimit := 6 }
      ring :=
        { cap := 768, high := 752, low := 640, records := [], tag := false, phase := .idle, fetchAddr := none, fetchEnd := none,
          cueCopy := none, overflow := false, flushes := 0, truncations := 0, peak := 0 }
      plan :=
        { entries := [], job := .none, phase := .idle, target := none, recovery := false, flushAwaited := false, seekMisses := 0,
          voids := 0, backoff := false, backoffTarget := none, lastSlip := none, floor := 225, window := 75, lead := 38,
          threshold := 1, limit := 3, overlap := 2,
          stats := { repairRuns := 0, runOns := 0, overtaken := 0, abandoned := 0, seekMisses := 0 } }
      snapshot := none }
   let none_ : Causes := { pause := false, stop := false, starve := false, protect := false, conceal := false, switch := false }
   let zone (d : Deck) : Zone :=
    { state := .stopped, stopReason := .reset, source := .deck d, range := none, tag := false, cue := none, pendingRange := none,
      pendingCue := none, position := none, endTaken := false, block := none, carry := ⟨0, 0⟩, pre := ⟨0, 0⟩, runLeft := none,
      runRight := none, ramp := 0, rampCount := 0, clean := 0, concealWaits := false, level := 32768, staged := none,
      causes := none_, inherited := none_, mark := none,
      set := { policy := .wait, start := 75, restart := 38, step := 128, period := 4, span := 8, recover := 64 },
      stats := { interpolated := 0, held := 0, longRuns := 0, clamped := 0, starves := 0 },
      blockPhase := 0, emitted := ⟨0, 0⟩, emittedPrev := ⟨0, 0⟩, snapshot := none }
   let side : TraySide := { line := .closed, level := .closed, timer := none, reload := false }
   State.reset =
    { deckA := deck, deckB := deck, zone1 := zone .a, zone2 := zone .b,
      shock := { enable := false, centre := 512, ton := 160, toff := 120, latching := false, guardTime := 1500, converting := false,
                 last := 0, peak := 0, flag := false, guard := none },
      tray := { sideA := side, sideB := side, debouncing := true, noteOne := none, noteTwo := none, table := [], autoResume := true,
                autoReload := true, rewind := 75, debounce := 20 },
      standby := { phase := .awake, wakeTimer := none, recordedA := none, recordedB := none, wakeOnTray := true, wakePeriod := 500 },
      port := { receiver := .hunting, buffer := [], inHand := false, transmitter := none,
                queue := [{ unit := .part, body := .resetDone .powerOn, count := 1 }], mask := 0xFFF#12, reply := none,
                resetDue := false },
      resetPin := .high, stage := .edge, drawn := State.reset.drawn, pending := [] }) ∧
  attention State.reset = .low ∧
  (let s := State.reset
   QueueForm s.port.queue ∧ TableForm s.tray.table ∧ PoolForm s ∧ PortForm s.port ∧ ZoneForm s.zone1 ∧ ZoneForm s.zone2 ∧ RestForm s ∧
     SourcesForm s ∧ ThresholdForm s ∧ ShockForm s.shock ∧ EntryForm s ∧ ∀ d, RingForm (s.deck d).ring ∧ RepairForm (s.deck d))

/-! ## Encodings (R209 to R214) -/

/-- Every host command is read back from its kind and payload, and a kind and payload spell a command only if they are its own
encoding: no other length and no second spelling is taken. -/
def Obligations.HostCommandsRoundTrip : Prop :=
  (∀ (i : Instr) (kind : Byte) (payload : List Byte),
     encodeCommand i = some (kind, payload) → decodeCommand kind payload = .command i) ∧
  (∀ (i : Instr) (kind : Byte) (payload : List Byte),
     decodeCommand kind payload = .command i → encodeCommand i = some (kind, payload))

/-- Every transport report is read back from its kind, tag byte and content, with the track entries of an INDEX report. -/
def Obligations.TransportReportsRoundTrip : Prop :=
  ∀ (i : Instr) (d : Deck) (kind tag : Byte) (content : List Byte),
    encodeReport i = some (kind, tag, content) → linkDeck i = some d → decodeReport d kind tag content = some i

/-- The bytes of a report's frame, received one by one on the control channel, do what the report's own row does. -/
def Obligations.ReportFrameBytesActAsTheReport : Prop :=
  ∀ (i : Instr) (d : Deck) (kind tag : Byte) (content : List Byte) (s : State),
    encodeReport i = some (kind, tag, content) → linkDeck i = some d → i.wellFormed = true → Settled s →
      (s.deck d).link.controlIn = none →
      ∃ t, exec i s = .next t ∧
        runAll ((reportFrameBytes kind tag content).map (.deckLinkByteReceived d .control)) s = some t

/-- The bytes of a host command's frame, received one by one while nothing is held or sent and no soft reset is due, are answered by
what the command's own row does and leaves as its reply; the transmitter then sends that reply with the command's kind plus 80H and its
tag. -/
def Obligations.HostFrameBytesAreAnswered : Prop :=
  ∀ (i : Instr) (kind tag : Byte) (payload : List Byte) (s : State),
    encodeCommand i = some (kind, payload) → Up s → s.port.receiver = .hunting → s.port.buffer = [] → s.port.inHand = false →
      s.port.transmitter = none → s.port.resetDue = false →
      ∃ (t : State) (r : Reply),
        exec i { s with port := { s.port with buffer := [.good kind tag payload] } } = .next t ∧ t.port.reply = some r ∧
          runAll ((hostFrameBytes kind tag payload).map .hostByteReceived) s =
            some { t with port := { t.port with inHand := true, transmitter := some (replyFrame (kind + 0x80#8) tag r) } }

/-- The layouts of the records and of the frames a DLU sends, field by field with its size: notice records (R212), the four pages of the
deck record and the two of the zone record (R213; a byte for no slot and no decline reason is a free value, log entry 28; the reason
after FAULT, the trouble code and the tag of no place are log entries 31 and 46), and the command frames (R214), each new command's
frame sent behind the others (the list of what was sent is the model's own, log entry 13). -/
def Obligations.RecordsAndFramesAreLaidOut : Prop :=
  (∀ (n : Notice) (unit kind : Nat) (content : List (Nat × Nat)),
     (match n.unit with
       | .part => unit = 0
       | .zone .one => unit = 1
       | .zone .two => unit = 2
       | .deck .a => unit = 3
       | .deck .b => unit = 4) →
     (match n.body with
       | .zoneState st why => kind = 0 ∧ content = [(1, st.code), (1, orFF (why.map StopReason.code)), (6, 0)]
       | .cueTaken a => kind = 1 ∧ content = [(3, a), (5, 0)]
       | .markReached a => kind = 2 ∧ content = [(3, a), (5, 0)]
       | .deckState st why c code =>
         kind = 3 ∧ content = [(1, st.code), (1, orFF (why.map DeckReason.code)), (1, orFF (c.map FaultCause.code)), (1, orFF code), (4, 0)]
       | .discIdentified f => kind = 4 ∧ content = [(4, f.toNat), (4, 0)]
       | .repairAbandoned a m => kind = 5 ∧ content = [(3, a), (1, m), (4, 0)]
       | .trayChanged l => kind = 6 ∧ content = [(1, if l = .opened then 0 else 1), (7, 0)]
       | .resumeMatch z a f => kind = 7 ∧ content = [(1, if z = .one then 1 else 2), (3, a), (4, f.toNat)]
       | .shock m => kind = 8 ∧ content = [(2, m), (6, 0)]
       | .linkError c => kind = 9 ∧ content = [(1, if c = .timeout then 0 else 1), (7, 0)]
       | .wake => kind = 10 ∧ content = [(8, 0)]
       | .resetDone k => kind = 11 ∧ content = [(1, if k = .powerOn then 0 else 1), (7, 0)]) →
     n.bytes = laidOut ([(1, kind), (1, unit), (1, n.count)] ++ content) ∧ n.bytes.length = 11) ∧
  (∀ u : DeckUnit,
     (∃ slot decline : Nat,
       (∀ n, u.link.lastSlot = some n → slot = n) ∧ (∀ n, u.link.decline = some n → decline = n) ∧
       u.link.page = laidOut
         [(1, 0), (1, u.link.state.code), (1, orFF (u.link.cause.reason.map DeckReason.code)),
          (1, orFF (u.link.faultCause.map FaultCause.code)), (1, orFF u.link.trouble),
          (1, orFF (u.link.outstanding.map fun o => o.command.code)), (1, orFF (u.link.outstanding.map fun o => o.tag.toNat)),
          (1, orFF (u.link.waiting.map fun w => w.command.code)), (1, orFF (u.link.runTag.map fun g => g.toNat)),
          (3, orFFFFFF u.link.lastLanded), (1, slot), (2, u.link.seekTime), (1, decline), (2, u.link.resends), (2, u.link.stales),
          (2, u.link.declines)]) ∧
     u.intake.page = laidOut
       [(1, 1), (2, u.intake.stats.placedNew), (2, u.intake.stats.merged), (2, u.intake.stats.repaired), (2, u.intake.stats.unplaced),
        (2, u.intake.stats.stray), (2, u.intake.stats.overflows), (2, u.intake.stats.disagreements), (2, u.intake.stats.listFull),
        (2, u.intake.stats.voided), (1, u.intake.ctx.status.code), (1, u.intake.ctx.job.code), (3, u.intake.ctx.target),
        (1, u.intake.ctx.k), (3, orFFFFFF u.intake.ctx.anchor), (3, orFFFFFF u.intake.ctx.lastPlaced), (1, u.intake.ctx.streak),
        (1, u.intake.ctx.outcome.code), (3, orFFFFFF (u.intake.abandoned.map (·.addr))),
        (1, (u.intake.abandoned.map fun p => p.seg.toNat).getD 0), (1, u.intake.abandonedBy)] ∧
     (∀ effective : Nat,
       u.ring.page effective = laidOut
         ([(1, 2), (2, u.ring.cap), (2, u.ring.high), (2, u.ring.low), (2, effective), (2, u.ring.records.length), (2, u.ring.goodDepth)]
           ++ [SlotState.good, .doubtful, .repaired, .final, .missing, .void].map
                (fun st => (2, (u.ring.records.filter fun q => q.state == st).length))
           ++ [(3, orFFFFFF (u.ring.records.head?.map (·.addr))), (3, orFFFFFF (u.ring.records.getLast?.map (·.addr))),
               (1, u.ring.tag.toNat), (1, u.ring.phase.code), (3, orFFFFFF u.ring.fetchAddr), (3, orFFFFFF u.ring.fetchEnd)]
           ++ rangeFields u.ring.cueCopy
           ++ [(1, flagValue [u.ring.overflow]), (2, u.ring.flushes), (2, u.ring.truncations), (2, u.ring.peak)])) ∧
     u.plan.page = laidOut
       ([(1, 3), (1, u.plan.job.code), (1, u.plan.phase.code)] ++ spotFields u.plan.target
         ++ [(1, flagValue [u.plan.recovery, u.plan.flushAwaited, u.plan.backoff]), (1, u.plan.seekMisses), (1, u.plan.voids)]
         ++ spotFields u.plan.backoffTarget
         ++ [(3, orFFFFFF u.plan.lastSlip), (1, u.plan.entries.length), (1, (u.plan.entries.filter (·.missing)).length)]
         ++ (match u.plan.entries with
             | e :: _ => [(3, e.first), (1, e.seg.toNat), (1, e.count), (1, flagValue [e.missing, e.active]), (1, e.attempts)]
             | [] => [(3, 0xFFFFFF), (4, 0)])
         ++ [(2, u.plan.floor), (2, u.plan.window), (2, u.plan.lead), (2, u.plan.threshold), (1, u.plan.limit), (1, u.plan.overlap),
             (2, u.plan.stats.repairRuns), (2, u.plan.stats.runOns), (2, u.plan.stats.overtaken), (2, u.plan.stats.abandoned),
             (2, u.plan.stats.seekMisses)])) ∧
  (∀ n : Zone,
     n.page0 = laidOut
       ([(1, 0), (1, n.state.code), (1, n.stopReason.code), (1, n.source.code), (1, n.set.policy.code), (2, n.set.start),
         (2, n.set.restart), (2, n.set.step), (1, n.set.period), (1, n.set.span), (2, n.set.recover)]
         ++ rangeFields n.range ++ rangeFields n.cue ++ rangeFields n.pendingRange ++ rangeFields n.pendingCue
         ++ [(3, orFFFFFF n.position)]) ∧
     n.page1 = laidOut
       [(1, 1), (1, flagValue [n.endTaken, n.tag, n.staged.isSome, n.block.isSome]), (3, orFFFFFF (n.block.map (·.addr))),
        (1, orFF (n.block.map fun h => h.state.code)), (2, n.carry.left.toNat), (2, n.carry.right.toNat), (2, n.ramp),
        (2, n.rampTarget), (2, n.level), (2, n.staged.getD 0),
        (1, flagValue [n.mutes.pause, n.mutes.stop, n.mutes.starve, n.mutes.protect, n.mutes.conceal, n.mutes.switch]),
        (3, orFFFFFF n.mark), (2, n.stats.interpolated), (2, n.stats.held), (2, n.stats.longRuns), (2, n.stats.clamped),
        (2, n.stats.starves)]) ∧
  (∀ (c : DeckCommand) (tag : Tag),
     (∀ l : Link, l.nextTag = tag → (Link.hasSent c l).sentBytes = l.sentBytes ++ SentCommand.frame { command := c, tag := tag }) ∧
     ∃ (kind : Nat) (content : List (Nat × Nat)) (check : Byte),
       let body := laidOut ([(2, 2 + (laidOut content).length), (1, kind), (1, tag.toNat)] ++ content) ++ [check]
       SentCommand.frame { command := c, tag := tag } = 0xC3#8 :: body ∧ byteSum body % 256 = 0 ∧
         match c with
         | .seek a => kind = 0 ∧ content = [(3, a)]
         | .stall => kind = 1 ∧ content = []
         | .proceed => kind = 2 ∧ content = []
         | .fetchDisc slot => kind = 3 ∧ content = [(1, slot)]
         | .readIndex => kind = 4 ∧ content = []
         | .stowDisc _ => kind = 5 ∧ content = []
         | .park _ => kind = 6 ∧ content = []
         | .linkReset => kind = 7 ∧ content = [])

/-! ## Forms that every step keeps -/

/-- Every step keeps the notice queue's form (R197, R198), and a queue of that form holds at most 21 notices. -/
def Obligations.StepKeepsNoticeQueue : Prop :=
  (∀ s t : State, QueueForm s.port.queue → step s = .next t → QueueForm t.port.queue) ∧
  (∀ q : List Notice, QueueForm q → q.length ≤ 21)

/-- Every step keeps the resume table's form. A write (R175): the new record stands first, the others keep their order but for one
of its fingerprint or, with 8 others, the last. -/
def Obligations.StepKeepsResumeTable : Prop :=
  (∀ s t : State, TableForm s.tray.table → step s = .next t → TableForm t.tray.table) ∧
  (∀ (r : ResumeRecord) (table : List ResumeRecord), TableForm table →
     TableForm (placeRecord r table) ∧
     (∀ before q after, table = before ++ q :: after → q.fingerprint = r.fingerprint →
       placeRecord r table = r :: (before ++ after)) ∧
     ((∀ q ∈ table, q.fingerprint ≠ r.fingerprint) →
       placeRecord r table = r :: (if table.length < 8 then table else table.dropLast)))

/-- Every step keeps the partition within the Slot Pool, each capacity 0 or a multiple of 32 from 96 (R60), each ring within its capacity
(R63), and its marks 1 ≤ low < high ≤ C, or both 0 for a capacity of 0 (R62, R74). -/
def Obligations.StepKeepsSlotPool : Prop :=
  ∀ s t : State, PoolForm s → step s = .next t → PoolForm t

/-- Every step keeps the Message Port's link in its form (R186 to R190). -/
def Obligations.StepKeepsMessagePort : Prop :=
  ∀ s t : State, PortForm s.port → step s = .next t → PortForm t.port

/-- Every step keeps both zones' ramps, levels and settings in their ranges (R109, R127, R130, R147), a STOPPED zone at rest (R113,
with no CONCEAL that waits, log entry 47), a ring's deck the source of at most one zone (R129) with that zone's thresholds within its
capacity (R130), the Shock Monitor closed while it is disabled (R163), and standby entry from waiting for stopped zones (R204). -/
def Obligations.StepKeepsZonesAndShock : Prop :=
  (∀ s t : State, ZoneForm s.zone1 ∧ ZoneForm s.zone2 → step s = .next t → ZoneForm t.zone1 ∧ ZoneForm t.zone2) ∧
  (∀ s t : State, RestForm s → step s = .next t → RestForm t) ∧
  (∀ s t : State, SourcesForm s ∧ ThresholdForm s ∧ ShockForm s.shock ∧ EntryForm s → step s = .next t →
     SourcesForm t ∧ ThresholdForm t ∧ ShockForm t.shock ∧ EntryForm t)

/-- Every step keeps each ring's segments in their form (R65, R71); and, over rings of that form, each repair list in the form of R84:
consecutive slots that the ring holds, DOUBTFUL or MISSING, in play order, no slot twice, every MISSING slot covered, at most one entry
ACTIVE; with the gap limit at most 8 (R45). -/
def Obligations.StepKeepsRingsAndRepairLists : Prop :=
  (∀ (d : Deck) (s t : State), RingForm (s.deck d).ring → step s = .next t → RingForm (t.deck d).ring) ∧
  (∀ (d : Deck) (s t : State), RingForm (s.deck d).ring → RepairForm (s.deck d) → step s = .next t → RepairForm (t.deck d))

/-- What one deck link brings leaves every block of the other deck alone, unless standby entry is waiting. -/
def Obligations.DeckLinksLeaveTheOtherDeckAlone : Prop :=
  ∀ (i : Instr) (d : Deck) (s t : State),
    linkDeck i = some d → Settled s → exec i s = .next t → t.deck (otherDeck d) = s.deck (otherDeck d)

/-- A setting changes only by the command that sets it, a deck's or a zone's only by one that names it or by SET_POOL, which bounds
some of them (R14, R45, R61, R74, R83, R129, R130, R162, R183, R199, R204); rows that carry out another command, and resets, are set
aside. No other row touches the reset pin, the frames held from the host, or the transmitter. -/
def Obligations.SettingsChangeOnlyByTheirCommands : Prop :=
  ∀ (i : Instr) (s t : State), exec i s = .next t → carriesAnother i = false →
    t.resetPin = s.resetPin ∧ t.port.buffer = s.port.buffer ∧ t.port.inHand = s.port.inHand ∧
    t.port.transmitter = s.port.transmitter ∧ (i ≠ .interByteTimerExpiry → t.port.receiver = s.port.receiver) ∧
    ((∀ mask, i ≠ .setNoticeMask mask) → t.port.mask = s.port.mask) ∧
    ((∀ v, i ≠ .setShock v) → settingsOfShock t.shock = settingsOfShock s.shock) ∧
    ((∀ a b c e, i ≠ .setResume a b c e) → settingsOfTray t.tray = settingsOfTray s.tray) ∧
    ((∀ v, i ≠ .standby v) →
      t.standby.wakeOnTray = s.standby.wakeOnTray ∧ t.standby.wakePeriod = s.standby.wakePeriod) ∧
    (∀ d, (∀ v, i ≠ .setDeck (deckByte d) v) →
      (t.deck d).link.seekTime = (s.deck d).link.seekTime ∧ (t.deck d).intake.gapLimit = (s.deck d).intake.gapLimit ∧
        ((∀ a b, i ≠ .setPool a b) → settingsOfDeck (t.deck d) = settingsOfDeck (s.deck d))) ∧
    ((∀ a b, i ≠ .setPool a b) → ∀ d, (t.deck d).ring.cap = (s.deck d).ring.cap) ∧
    ∀ z, (∀ v, i ≠ .setZone (zoneByte z) v) →
      (t.zone z).source = (s.zone z).source ∧ ((∀ a b, i ≠ .setPool a b) → (t.zone z).set = (s.zone z).set)

/-! ## Notices and the host link (R186 to R201) -/

/-- A raised notice (R198): dropped when its kind is disabled; updated in place, its count risen to at most 255, when the queue
holds an entry of its kind and unit; otherwise a new entry at the tail. Nothing but the queue changes. -/
def Obligations.NoticesJoinTheQueue : Prop :=
  ∀ (u : NoticeUnit) (b : NoticeBody) (s : State),
    (s.port.mask.getLsbD b.kind.position = false → raiseNotice u b s = s) ∧
    (s.port.mask.getLsbD b.kind.position = true →
      (∀ (before after : List Notice) (n : Notice),
        s.port.queue = before ++ n :: after → n.unit = u → n.body.kind = b.kind →
          (∀ m ∈ before, ¬ (m.unit = u ∧ m.body.kind = b.kind)) →
            raiseNotice u b s =
              { s with port := { s.port with
                queue := before ++ { unit := u, body := b, count := min 255 (n.count + 1) } :: after } }) ∧
      ((∀ m ∈ s.port.queue, ¬ (m.unit = u ∧ m.body.kind = b.kind)) →
        raiseNotice u b s = { s with port := { s.port with queue := s.port.queue ++ [{ unit := u, body := b, count := 1 }] } }))

/-- TAKE_NOTICES, in every phase: the four oldest entries leave the queue and are returned in order, then the count that remains; the
attention line is low exactly while an entry is left (R200, R201). SET_NOTICE_MASK replaces the twelve enables and replies with
them; the queue keeps its entries (R199). -/
def Obligations.NoticeCommands : Prop :=
  (∀ s : State, Up s →
     exec .takeNotices s = .next
       (replied .ok ((s.port.queue.take 4).flatMap Notice.bytes ++ [byte (s.port.queue.length - 4)])
         { s with port := { s.port with queue := s.port.queue.drop 4 } }) ∧
     Answers .takeNotices s fun t => attention t = .low ↔ 4 < s.port.queue.length) ∧
  (∀ (mask : BitVec 16) (s : State), Awake s →
     exec (.setNoticeMask mask) s = .next
       (replied .ok [byte (mask.toNat / 256 % 16), byte mask.toNat]
         { s with port := { s.port with mask := mask.setWidth 12 } }))

/-- IDENT, in every phase: vendor code 7AH, part code 0A50H, revision 1 and the pool of 1,536 slots; nothing changes (R195). -/
def Obligations.IdentNamesThePart : Prop :=
  ∀ s : State, Up s → exec .ident s = .next (replied .ok [0x7A#8, 0x0A#8, 0x50#8, 1#8, 6#8, 0#8] s)

/-- RESET_PART is answered OK in every phase, and the soft reset begins when its reply has been sent (R196; given as a row of its own,
log entry 5). The end of another reply (R190): its frame leaves the buffer and the transmitter returns to IDLE; a held BAD frame is then
answered BAD_FRAME with kind FFH and its tag (R191, R192). Without a reply being sent nothing happens (log entry 2). -/
def Obligations.RepliesEnd : Prop :=
  (∀ s : State, Up s →
     exec .resetPart s = .next (replied .ok [] { s with port := { s.port with resetDue := true } }) ∧
     (s.port.resetDue = true → exec .replySent s = exec .softReset s)) ∧
  (∀ s : State, Up s → s.port.resetDue = false →
     (s.port.transmitter = none → exec .replySent s = .next s) ∧
     (s.port.transmitter ≠ none →
       (s.port.buffer.tail = [] →
         exec .replySent s = .next { s with port := { s.port with buffer := [], inHand := false, transmitter := none } }) ∧
       ∀ (tag : Byte) (rest : List HostFrame), s.port.buffer.tail = .bad tag :: rest →
         exec .replySent s = .next
           { s with port := { s.port with
             buffer := .bad tag :: rest, inHand := true, reply := some { code := .badFrame, data := [] },
             transmitter := some [0xA5#8, 3#8, 0xFF#8, tag, 6#8, byte (1016 - tag.toNat)] } }))

/-- Bytes from the host (R186, R187): in HUNTING only A5H begins a frame; a length byte of 2 to 66 begins the body; a body byte that
does not complete the frame is appended. A frame that completes while a reply is being sent or a soft reset is due (R187, R189, R196): at
its check byte it is GOOD when the sum is a multiple of 256 and else BAD with its tag; at a bad length byte it is BAD with tag 0; it
joins the buffer, or with two frames held it is discarded with LINK_ERROR OVERRUN; any other byte completes nothing (log entry 4). The
inter-byte timer's expiry discards the frame in progress with LINK_ERROR TIMEOUT (R188); with none in progress the timer is stopped and
nothing happens. -/
def Obligations.HostLinkReceivesFrames : Prop :=
  (∀ (b : Byte) (s : State), Up s →
     (s.port.receiver = .hunting →
       exec (.hostByteReceived b) s = .next (if b = 0xA5#8 then { s with port := { s.port with receiver := .length } } else s)) ∧
     (s.port.receiver = .length → 2 ≤ b.toNat → b.toNat ≤ 66 →
       exec (.hostByteReceived b) s = .next { s with port := { s.port with receiver := .body b.toNat [] } }) ∧
     ∀ len got, s.port.receiver = .body len got → got.length < len →
       exec (.hostByteReceived b) s = .next { s with port := { s.port with receiver := .body len (got ++ [b]) } }) ∧
  (∀ (b : Byte) (s : State), Up s →
     let held (f : HostFrame) : State :=
       if s.port.buffer.length < 2 then
         { s with port := { s.port with receiver := .hunting, buffer := s.port.buffer ++ [f] } }
       else raiseNotice .part (.linkError .overrun) { s with port := { s.port with receiver := .hunting } }
     (s.port.inHand = true ∨ s.port.resetDue = true →
       (∀ kind tag payload, s.port.receiver = .body (payload.length + 2) (kind :: tag :: payload) →
         exec (.hostFrameComplete b) s = .next
           (held (if (payload.length + 2 + byteSum (kind :: tag :: payload) + b.toNat) % 256 = 0 then .good kind tag payload
             else .bad tag))) ∧
       (s.port.receiver = .length → b.toNat < 2 ∨ 66 < b.toNat → exec (.hostFrameComplete b) s = .next (held (.bad 0)))) ∧
     (s.port.receiver = .length → 2 ≤ b.toNat → b.toNat ≤ 66 → exec (.hostFrameComplete b) s = .next s) ∧
     (s.port.receiver = .hunting → exec (.hostFrameComplete b) s = .next s) ∧
     ∀ len got, s.port.receiver = .body len got → got.length ≠ len → exec (.hostFrameComplete b) s = .next s) ∧
  (∀ s : State, Up s →
     exec .interByteTimerExpiry s = .next
       (if s.port.receiver = .hunting then s
       else raiseNotice .part (.linkError .timeout) { s with port := { s.port with receiver := .hunting } }))

/-- In standby every host command but the nine of R205 is answered BAD_STATE and changes nothing. A host command that names no deck
or zone it takes is answered BAD_ARG and changes nothing (R193, R194). -/
def Obligations.RefusedCommandsChangeNothing : Prop :=
  (∀ (i : Instr) (s : State), Up s → s.standby.phase ≠ .awake → refusedInStandby i = true →
     exec i s = .next (replied .badState [] s)) ∧
  (∀ (i : Instr) (s : State), Awake s → misnamesUnit i = true → exec i s = .next (replied .badArg [] s))

/-! ## Standby (R203 to R207) -/

/-- STANDBY with both zones STOPPED and at rest enters STANDBY at once (R204): settings used and returned (log entry 29), lines
recorded, wake timer running, debouncing and the converter stopped, the guard closed, both rings flushed, a settled READY deck sent
PARK. A wake-on-tray byte that is neither OFF nor ON gives BAD_ARG. Where standby entry is due, STANDBY_ENTRY_COMPLETE does the same;
elsewhere it does nothing (log entry 2). WAKE (R205, R207): OK without effect in AWAKE, BUSY in ENTERING; in STANDBY the part leaves
standby, taking the lines' levels, starting the converter when enabled, and making READY a PARKED deck whose line has not moved. A wake
sample (R206): with both lines as recorded the timer runs again and nothing else changes; a line that has moved is recorded and raises
WAKE, and a PARKED deck there becomes NO_DISC with its catalogue absent, which clears the stop notes that name it (R177), while with
wake-on-tray OFF the part stays in STANDBY. -/
def Obligations.StandbyIsEnteredAndLeft : Prop :=
  (∀ (settings : Option (Byte × BitVec 16)) (s : State), Awake s → s.zone1.state = .stopped → s.zone2.state = .stopped → RestForm s →
     (∀ b p, settings = some (b, p) → 1 < b.toNat → exec (.standby settings) s = .next (replied .badArg [] s)) ∧
     ((∀ b p, settings = some (b, p) → b.toNat ≤ 1) →
       Answers (.standby settings) s fun t =>
         let onTray := match settings with
           | some (b, _) => b == 1#8
           | none => s.standby.wakeOnTray
         let period := match settings with
           | some (_, p) => min 2000 (max 100 p.toNat)
           | none => s.standby.wakePeriod
         t.standby = { phase := .standby, wakeTimer := some period, recordedA := some s.tray.sideA.line,
                       recordedB := some s.tray.sideB.line, wakeOnTray := onTray, wakePeriod := period } ∧
         t.port.reply = some { code := .ok, data := byte onTray.toNat :: be2 period } ∧
         t.shock = { s.shock with converting := false, guard := none } ∧
         t.tray.debouncing = false ∧ t.tray.sideA.timer = none ∧ t.tray.sideB.timer = none ∧
         t.zone1 = s.zone1 ∧ t.zone2 = s.zone2 ∧ t.resetPin = s.resetPin ∧ t.stage = s.stage ∧
         (∀ d, (t.deck d).emptied) ∧
         ∀ d, (s.deck d).link.state = .ready → (s.deck d).link.outstanding = none → (s.deck d).link.usable ≠ none →
           (t.deck d).link.state = .parking ∧
             (t.deck d).link.outstanding.map (fun o => (o.command, o.tag)) = some (.park .standby, (s.deck d).link.nextTag))) ∧
  (∀ s : State, Up s →
     (s.standby.phase ≠ .entering ∨ s.zone1.state ≠ .stopped ∨ s.zone2.state ≠ .stopped →
       exec .standbyEntryComplete s = .next s) ∧
     (s.standby.phase = .entering → s.zone1.state = .stopped → s.zone2.state = .stopped → RestForm s →
       Answers .standbyEntryComplete s fun t =>
         t.standby = { s.standby with
           phase := .standby, wakeTimer := some s.standby.wakePeriod, recordedA := some s.tray.sideA.line,
           recordedB := some s.tray.sideB.line } ∧
         t.shock = { s.shock with converting := false, guard := none } ∧ t.tray.debouncing = false ∧ t.zone1 = s.zone1 ∧
         t.zone2 = s.zone2 ∧ t.resetPin = s.resetPin ∧ t.stage = s.stage ∧ ∀ d, (t.deck d).emptied)) ∧
  (∀ s : State, Up s →
     (s.standby.phase = .awake → exec .wake s = .next (replied .ok [] s)) ∧
     (s.standby.phase = .entering → exec .wake s = .next (replied .busy [] s)) ∧
     (s.standby.phase = .standby →
       Answers .wake s fun t =>
         t.standby = { s.standby with phase := .awake, wakeTimer := none, recordedA := none, recordedB := none } ∧
         t.tray.debouncing = true ∧ (∀ d, t.side d = { s.side d with level := (s.side d).line, timer := none }) ∧
         t.shock = { s.shock with converting := s.shock.enable } ∧ t.zone1 = s.zone1 ∧ t.zone2 = s.zone2 ∧
         t.port.reply = some { code := .ok, data := [] } ∧ t.tray.table = s.tray.table ∧ t.resetPin = s.resetPin ∧ t.stage = s.stage ∧
         ∀ d, (s.deck d).link.state = .parked → s.recorded d = some (s.side d).line →
           (t.deck d).link = { (s.deck d).link with state := .ready, runTag := none })) ∧
  (∀ (d : Deck) (n : Nat) (s : State), Up s → s.standby.phase = .standby → s.standby.wakeTimer = some n →
     s.recorded (otherDeck d) = some (s.side (otherDeck d)).line →
     (s.recorded d = some (s.side d).line →
       exec .wakeTimerExpiry s = .next { s with standby := { s.standby with wakeTimer := some s.standby.wakePeriod } }) ∧
     (s.recorded d ≠ some (s.side d).line → s.standby.wakeOnTray = false → (s.deck d).link.state = .parked →
       Answers .wakeTimerExpiry s fun t =>
         t.standby.phase = .standby ∧ t.standby.wakeTimer = some s.standby.wakePeriod ∧ t.recorded d = some (s.side d).line ∧
         t.deck d = { s.deck d with
           link := { (s.deck d).link with state := .noDisc, cause := .noDisc .tray, disc := .absent } } ∧
         t.deck (otherDeck d) = s.deck (otherDeck d) ∧ t.zone1 = s.zone1 ∧ t.zone2 = s.zone2 ∧ t.shock = s.shock ∧
         t.tray = { s.tray with noteOne := keepNote d s.tray.noteOne, noteTwo := keepNote d s.tray.noteTwo } ∧
         t.port.queue = (raiseNotice (.deck d) (.deckState .noDisc (some .tray) none none)
           (raiseNotice (.deck d) .wake s)).port.queue))

/-! ## Shock Monitor (R154 to R165) -/

/-- SET_SHOCK: a bad enable or latch mode gives BAD_ARG and changes nothing; otherwise the settings are clamped and returned, the
magnitudes are kept, and with the enable setting unchanged nothing else changes (R162). A change of the enable setting starts or
stops the converter, and stopping clears the flag and closes the guard (R163); the reply carries the settings used likewise. -/
def Obligations.SetShockClampsAndEnables : Prop :=
  ∀ (v : ShockArgs) (s : State), Awake s →
    (1 < v.enable.toNat ∨ 1 < v.latch.toNat → exec (.setShock v) s = .next (replied .badArg [] s)) ∧
    (v.enable.toNat ≤ 1 → v.latch.toNat ≤ 1 →
      let on := v.enable == 1#8
      let ton := max 1 (min 511 v.ton.toNat)
      let set : Shock := { s.shock with
        enable := on, centre := min 1023 v.centre.toNat, ton := ton, toff := min (ton - 1) v.toff.toNat,
        latching := v.latch == 1#8, guardTime := min 10000 v.guard.toNat }
      let data : List Byte :=
        byte v.enable.toNat :: be2 set.centre ++ be2 set.ton ++ be2 set.toff ++ [byte v.latch.toNat] ++ be2 set.guardTime
      (s.shock.enable = on → exec (.setShock v) s = .next (replied .ok data { s with shock := set })) ∧
      (s.shock.enable ≠ on →
        Answers (.setShock v) s fun t =>
          t.port.reply = some { code := .ok, data := data } ∧
          t.shock = (if on then { set with converting := true } else { set with converting := false, flag := false, guard := none }) ∧
          t.zone1 = s.zone1 ∧ t.zone2 = s.zone2 ∧ t.tray = s.tray ∧ t.standby = s.standby ∧ t.resetPin = s.resetPin ∧
          ∀ d, (t.deck d).ring.records = (s.deck d).ring.records ∧ (t.deck d).link.disc = (s.deck d).link.disc))

/-- SHOCK_REPORT returns enable, flag, last magnitude, peak and guard state, and then clears the peak alone (R164). CLEAR_SHOCK clears
the shock flag in either latch mode and changes nothing else (R165). -/
def Obligations.ShockReportAndClear : Prop :=
  (∀ s : State, Awake s →
     exec .shockReport s = .next
       (replied .ok ([byte s.shock.enable.toNat, byte s.shock.flag.toNat] ++ be2 s.shock.last ++ be2 s.shock.peak
           ++ [if s.shock.guard = none then 1#8 else 0#8])
         { s with shock := { s.shock with peak := 0 } })) ∧
  (∀ s : State, Awake s → exec .clearShock s = .next (replied .ok [] { s with shock := { s.shock with flag := false } }))

/-- A completed conversion (R156 to R159): magnitude, peak, flag by the latch mode and thresholds, the guard timer restarted at or
above the on threshold, a SHOCK notice when the guard was closed. With guard time 0 a closed guard stays closed. With the converter
stopped nothing happens. -/
def Obligations.ConversionsSetFlagAndGuard : Prop :=
  ∀ (v : BitVec 10) (s : State), Up s →
    let h := s.shock
    let m := (v.toNat - h.centre) + (h.centre - v.toNat)
    (h.converting = false → exec (.shockConversionComplete v) s = .next s) ∧
    (h.converting = true →
      let set (flag : Bool) (guard : Option Nat) : State :=
        { s with shock := { h with last := m, peak := max h.peak m, flag := flag, guard := guard } }
      (h.ton ≤ m → h.guard ≠ none → exec (.shockConversionComplete v) s = .next (set true (some h.guardTime))) ∧
      (h.ton ≤ m → h.guard = none →
        exec (.shockConversionComplete v) s = .next
          (raiseNotice .part (.shock m) (set true (if h.guardTime = 0 then none else some h.guardTime)))) ∧
      (m < h.ton → exec (.shockConversionComplete v) s = .next
        (set (if m < h.toff ∧ h.latching = false then false else h.flag) h.guard)))

/-- The guard timer's expiry closes the guard and changes nothing else of the Shock Monitor, the zones, the trays, the slot records or
the discs (R159), and raises no notice where no deck command waits; the planners decide (R160). The backoff timer's expiry clears the
backoff (R105), and the planner decides. With the timer stopped nothing happens (log entry 2). -/
def Obligations.GuardAndBackoffTimersExpire : Prop :=
  (∀ s : State, Up s →
     (s.shock.guard = none → exec .guardTimerExpiry s = .next s) ∧
     (s.shock.guard ≠ none →
       Answers .guardTimerExpiry s fun t =>
         t.shock = { s.shock with guard := none } ∧ t.zone1 = s.zone1 ∧ t.zone2 = s.zone2 ∧ t.tray = s.tray ∧
           t.standby = s.standby ∧ t.resetPin = s.resetPin ∧ t.stage = s.stage ∧
           ((∀ d, (s.deck d).link.waiting = none) → t.port = s.port) ∧
           ∀ d, (t.deck d).ring.records = (s.deck d).ring.records ∧ (t.deck d).link.disc = (s.deck d).link.disc)) ∧
  (∀ (d : Deck) (s : State), Settled s →
     ((s.deck d).plan.backoff = false → exec (.backoffTimerExpiry d) s = .next s) ∧
     ((s.deck d).plan.backoff = true →
       Answers (.backoffTimerExpiry d) s fun t =>
         (t.deck d).plan.backoff = false ∧ (t.deck d).plan.backoffTarget = none ∧
           (t.deck d).ring.records = (s.deck d).ring.records ∧ t.zone1 = s.zone1 ∧ t.zone2 = s.zone2 ∧ SamePart s t ∧
           t.tray = s.tray ∧ t.deck (otherDeck d) = s.deck (otherDeck d)))

/-! ## Resume table and trays (R167 to R183) -/

/-- SET_RESUME: a bad auto-resume or auto-reload value gives BAD_ARG; otherwise the rewind is clamped to 0..750 and the debounce time
to 5..200, and the settings used are returned (R183). QUERY_RESUME, in every phase: BAD_ARG at or above the number of records; otherwise
that number and the record with all its fields (R182). FORGET removes the record of a fingerprint, or every record, and returns how many it
removed; the other records keep their order and the stop notes stay (R181). -/
def Obligations.ResumeTableCommands : Prop :=
  (∀ (resume reload : Byte) (rewind : BitVec 16) (debounce : Byte) (s : State), Awake s →
     exec (.setResume resume reload rewind debounce) s = .next
       (if 1 < resume.toNat ∨ 1 < reload.toNat then replied .badArg [] s
       else
         let r := min 750 rewind.toNat
         let t := min 200 (max 5 debounce.toNat)
         replied .ok ([resume, reload] ++ be2 r ++ [byte t])
           { s with tray := { s.tray with autoResume := resume == 1#8, autoReload := reload == 1#8, rewind := r, debounce := t } })) ∧
  (∀ (position : Byte) (s : State), Up s →
     (s.tray.table.length ≤ position.toNat → exec (.queryResume position) s = .next (replied .badArg [] s)) ∧
     ∀ r, s.tray.table[position.toNat]? = some r →
       exec (.queryResume position) s = .next
         (replied .ok (byte s.tray.table.length :: be4 r.fingerprint.toNat ++ [deckByte r.deck, zoneByte r.zone] ++ be3 r.range.first
           ++ be3 r.range.last ++ be3 r.position ++ range6 r.cue ++ [byte r.reason.code]) s)) ∧
  (∀ (f : BitVec 32) (s : State), Awake s →
     exec (.forget none) s = .next (replied .ok [byte s.tray.table.length] { s with tray := { s.tray with table := [] } }) ∧
     ((∀ r ∈ s.tray.table, r.fingerprint ≠ f) → exec (.forget (some f)) s = .next (replied .ok [0#8] s)) ∧
     ∀ before r after, s.tray.table = before ++ r :: after → r.fingerprint = f →
       (∀ q ∈ before ++ after, q.fingerprint ≠ f) →
         exec (.forget (some f)) s = .next (replied .ok [1#8] { s with tray := { s.tray with table := before ++ after } }))

/-- A change of a tray line starts the debounce timer when it leaves the debounced level, and stops it when it returns; while
debouncing is stopped, and for a line that keeps its level, only the line is followed (R167, R206). -/
def Obligations.TrayLineStartsOrStopsDebounce : Prop :=
  ∀ (d : Deck) (level : Level) (s : State), Up s →
    exec (.trayLineChange d level) s = .next
      (if (s.side d).line = level then s
      else onSide d (fun t =>
        { t with line := level,
                 timer := if s.tray.debouncing = false then t.timer
                          else if level = t.level then none else some s.tray.debounce }) s)

/-- An expiry of a running debounce timer with the line OPEN (R169), the deck READY with no command in progress and its zone STOPPED:
PARK is sent, the catalogue is discarded, the ring flushed, the stop notes that name the deck cleared, and TRAY_CHANGED OPEN raised; the
other deck is as it was. With the line CLOSED on a NO_DISC deck with no command in progress (R172, R173): TRAY_CHANGED CLOSED is raised,
and with auto-reload ON and a last magazine slot FETCH_DISC with that slot is sent. With the timer stopped nothing happens (log entry 2).
Zones that are STOPPED are at rest. -/
def Obligations.DrawerOpensAndCloses : Prop :=
  (∀ (d : Deck) (s : State), Settled s →
     ((s.side d).timer = none → exec (.trayDebounceExpiry d) s = .next s) ∧
     ((s.side d).timer ≠ none → (s.side d).line = .opened → (s.deck d).link.state = .ready →
       (s.deck d).link.outstanding = none → zoneIdle d s = true → (s.zone2.source = .mirror → s.zone2.state = .stopped) →
       RestForm s →
       Answers (.trayDebounceExpiry d) s fun t =>
         t.side d = { line := .opened, level := .opened, timer := none, reload := false } ∧
         (t.deck d).link =
           { Link.hasSent (.park .tray) (s.deck d).link with state := .parking, runTag := none, gapTimer := false, disc := .absent } ∧
         (t.deck d).emptied ∧ t.deck (otherDeck d) = s.deck (otherDeck d) ∧ SamePart s t ∧ t.zone1 = s.zone1 ∧ t.zone2 = s.zone2 ∧
         t.side (otherDeck d) = s.side (otherDeck d) ∧ t.tray.table = s.tray.table ∧
         t.tray.noteOne = keepNote d s.tray.noteOne ∧ t.tray.noteTwo = keepNote d s.tray.noteTwo ∧
         t.port.queue = (raiseNotice (.deck d) (.trayChanged .opened)
           (raiseNotice (.deck d) (.deckState .parking none none none) s)).port.queue)) ∧
  (∀ (d : Deck) (s : State), Settled s → (s.side d).timer ≠ none → (s.side d).line = .closed →
     let closed (s : State) : State := onSide d (fun t => { t with level := .closed, timer := none }) s
     (s.tray.autoReload = false ∨ (s.deck d).link.lastSlot = none →
       exec (.trayDebounceExpiry d) s = .next (raiseNotice (.deck d) (.trayChanged .closed) (closed s))) ∧
     ∀ slot, s.tray.autoReload = true → (s.deck d).link.lastSlot = some slot → (s.deck d).link.state = .noDisc →
       (s.deck d).link.outstanding = none → (s.deck d).link.waiting = none →
       exec (.trayDebounceExpiry d) s = .next
         (raiseNotice (.deck d) (.deckState .loading none none none)
           (onLink d (fun l => { Link.hasSent (.fetchDisc slot) l with state := .loading, runTag := none, gapTimer := false })
             (raiseNotice (.deck d) (.trayChanged .closed) (closed s)))))

/-- The drawer of a playing zone opens (R169): the record of the zone's position is written with reason TRAY, and the zone has STOP and
PROTECT raised with reason TRAY_OPEN and falls fast over the carry hold of 0. -/
def Obligations.OpenedDrawerSavesThePosition : Prop :=
  ∀ (z : ZoneId) (d : Deck) (s : State) (c : Catalogue) (r : PlayRange) (p : Nat), Settled s →
    (s.side d).timer ≠ none → (s.side d).line = .opened → (s.zone z).source = .deck d →
    (s.zone (otherZone z)).source = .deck (otherDeck d) →
    (s.zone z).state = .playing → 0 < (s.zone z).ramp → (s.deck d).link.disc = .usable c → (s.zone z).range = some r →
    (s.zone z).position = some p → (s.zone z).causes.switch = false →
    Answers (.trayDebounceExpiry d) s fun t =>
      t.tray.table = placeRecord { fingerprint := c.fingerprint, deck := d, zone := z, range := r, position := p,
                                   cue := (s.zone z).cue, reason := .tray } s.tray.table ∧
      t.zone z = { s.zone z with
        causes := { (s.zone z).causes with stop := true, protect := true }
        stopReason := .trayOpen, pendingRange := none, pendingCue := none, block := none, carry := ⟨0, 0⟩, runLeft := none,
        runRight := none } ∧
      t.zone (otherZone z) = s.zone (otherZone z) ∧ (t.deck d).link.disc = .absent ∧ (t.deck d).emptied ∧ SamePart s t ∧
      t.side (otherDeck d) = s.side (otherDeck d)

/-! ## Slot Pool and decks: host commands -/

/-- SET_POOL (R61): each request adjusted to a multiple of 32, at least 96 or 0; BAD_ARG for more than 1,536 slots or for 0 on a zone's
source, BUSY while a ring holds a record or a deck moves; otherwise the capacities are taken and returned; for a capacity that
changes the marks are the defaults (R74), and the repair floor, the urgent window and the thresholds of the deck's zone are clamped to
it (R83, R130). The rest of the deck stays as it was; that the peak depth does, also above the new capacity, is the model's choice (log
entry 53). -/
def Obligations.SetPoolPartitionsThePool : Prop :=
  ∀ (a b : BitVec 16) (s : State), Awake s →
    let adjust (v : Nat) : Nat := if v = 0 then 0 else if v < 96 then 96 else 32 * (v / 32)
    let ca := adjust a.toNat
    let cb := adjust b.toNat
    let sourced (d : Deck) : Prop := s.zone1.source = .deck d ∨ s.zone2.source = .deck d
    let busy (u : DeckUnit) : Prop :=
      u.ring.records ≠ [] ∨ u.link.state = .seeking ∨ u.link.state = .streaming ∨ u.link.state = .stalled
    (1536 < ca + cb → exec (.setPool a b) s = .next (replied .badArg [] s)) ∧
    (ca + cb ≤ 1536 →
      ((ca = 0 ∧ sourced .a) ∨ (cb = 0 ∧ sourced .b) → exec (.setPool a b) s = .next (replied .badArg [] s)) ∧
      (¬ ((ca = 0 ∧ sourced .a) ∨ (cb = 0 ∧ sourced .b)) →
        (busy s.deckA ∨ busy s.deckB → exec (.setPool a b) s = .next (replied .busy [] s)) ∧
        (¬ (busy s.deckA ∨ busy s.deckB) →
          Answers (.setPool a b) s fun t =>
            t.port.reply = some { code := .ok, data := be2 ca ++ be2 cb } ∧
            (∀ d, let u := s.deck d
              let c := match d with
                | .a => ca
                | .b => cb
              t.deck d = (if u.ring.cap = c then u
                else { u with
                  ring := { u.ring with cap := c, high := c - 16, low := if c = 0 then 0 else max 1 (c - 128) }
                  plan := { u.plan with floor := min c u.plan.floor, window := min c u.plan.window } }) ∧
              ∀ z, zoneOf d s = some z → t.zone z = (if u.ring.cap = c then s.zone z
                else onThresholds (fun v => min c (max 1 v)) (s.zone z))) ∧
            (∀ z, (s.zone z).deck? = none → t.zone z = s.zone z) ∧ t.tray = s.tray ∧ SamePart s t ∧ t.port.queue = s.port.queue)))

/-- LOAD (R27): a slot outside 1..6 gives BAD_ARG, an occupied deck BUSY, any other state than NO_DISC and READY, or a zone that is not
STOPPED, BAD_STATE. In NO_DISC with no command in progress the slot is recorded and FETCH_DISC sent; in READY STOW_DISC is sent and
FETCH_DISC waits. -/
def Obligations.LoadFetchesADisc : Prop :=
  ∀ (d : Deck) (slot : Byte) (s : State), Awake s →
    (slot.toNat < 1 ∨ 6 < slot.toNat → exec (.load (deckByte d) slot) s = .next (replied .badArg [] s)) ∧
    (1 ≤ slot.toNat → slot.toNat ≤ 6 →
      ((s.deck d).link.state ∈ [.loading, .identifying, .parking, .stowing] →
        exec (.load (deckByte d) slot) s = .next (replied .busy [] s)) ∧
      ((s.deck d).link.state ∈ [.seeking, .streaming, .stalled, .parked, .fault] →
        exec (.load (deckByte d) slot) s = .next (replied .badState [] s)) ∧
      ((s.deck d).link.state ∈ [.noDisc, .ready] → zoneIdle d s = false →
        exec (.load (deckByte d) slot) s = .next (replied .badState [] s)) ∧
      (zoneIdle d s = true → (s.deck d).link.outstanding = none → (s.deck d).link.waiting = none →
        ((s.deck d).link.state = .noDisc →
          exec (.load (deckByte d) slot) s = .next
            (replied .ok [] (raiseNotice (.deck d) (.deckState .loading none none none)
              (onLink d (fun l =>
                { Link.hasSent (.fetchDisc slot.toNat) l with
                  state := .loading, runTag := none, gapTimer := false, lastSlot := some slot.toNat }) s)))) ∧
        ((s.deck d).link.state = .ready →
          Answers (.load (deckByte d) slot) s fun t =>
            t.port.reply = some { code := .ok, data := [] } ∧
            (t.deck d).link =
              { Link.hasSent (.stowDisc false) (s.deck d).link with
                state := .stowing, runTag := none, gapTimer := false, disc := .absent, lastSlot := some slot.toNat,
                waiting := some { command := .fetchDisc slot.toNat, from_ := .host, plan := none } } ∧
            t.deck (otherDeck d) = s.deck (otherDeck d) ∧ t.zone1 = s.zone1 ∧ t.zone2 = s.zone2 ∧ SamePart s t ∧
            ∀ e, t.side e = s.side e)))

/-- UNLOAD (R30): BUSY for an occupied deck, BAD_STATE for a moving, PARKED or FAULT deck or a zone that is not STOPPED. In NO_DISC or
READY with no command in progress STOW_DISC is sent, the catalogue discarded and the ring flushed; a stop note of reason HOST that
names the deck is written into the resume table with reason UNLOAD (R176). Zones that are STOPPED are at rest. -/
def Obligations.UnloadStowsTheDisc : Prop :=
  ∀ (d : Deck) (s : State), Awake s →
    ((s.deck d).link.state ∈ [.loading, .identifying, .parking, .stowing] →
      exec (.unload (deckByte d)) s = .next (replied .busy [] s)) ∧
    ((s.deck d).link.state ∈ [.seeking, .streaming, .parked, .fault] →
      exec (.unload (deckByte d)) s = .next (replied .badState [] s)) ∧
    ((s.deck d).link.state ∈ [.noDisc, .ready, .stalled] → zoneIdle d s = false →
      exec (.unload (deckByte d)) s = .next (replied .badState [] s)) ∧
    ((s.deck d).link.state = .noDisc ∨ (s.deck d).link.state = .ready → zoneIdle d s = true → RestForm s →
      (s.deck d).link.outstanding = none → (s.deck d).link.waiting = none →
      Answers (.unload (deckByte d)) s fun t =>
        t.port.reply = some { code := .ok, data := [] } ∧ (t.deck d).link.state = .stowing ∧
        (t.deck d).link.outstanding.map (fun o => (o.command, o.tag)) = some (.stowDisc true, (s.deck d).link.nextTag) ∧
        ((s.deck d).link.state = .ready → (t.deck d).link.disc = .absent) ∧ (t.deck d).emptied ∧
        t.deck (otherDeck d) = s.deck (otherDeck d) ∧ t.zone1 = s.zone1 ∧ t.zone2 = s.zone2 ∧ SamePart s t ∧
        (∀ e, t.side e = s.side e) ∧
        ∀ z m, zoneOf d s = some z → s.note z = some m → m.deck = d →
          t.tray.table = (if m.reason = .host then
            placeRecord { fingerprint := m.fingerprint, deck := d, zone := z, range := m.range, position := m.position, cue := m.cue,
                          reason := .unload } s.tray.table
          else s.tray.table))

/-- RESET_DECK, in every state of the deck (R34): LINK_RESET is sent with the next tag, nothing waits, the last slot and landed address
are none, the ring is flushed and the job cancelled. A deck in FAULT stays there; any other is NO_DISC with reason RESET and no
catalogue. The other deck, the seek time and the link statistics are kept. -/
def Obligations.ResetDeckResetsTheLink : Prop :=
  ∀ (d : Deck) (s : State), Awake s →
    Answers (.resetDeck (deckByte d)) s fun t =>
      t.port.reply = some { code := .ok, data := [] } ∧
      (t.deck d).link.outstanding =
        some { command := .linkReset, tag := (s.deck d).link.nextTag, resends := 0, limit := 0, timer := .acknowledge } ∧
      (t.deck d).link.nextTag = (s.deck d).link.nextTag + 1 ∧ (t.deck d).link.waiting = none ∧
      (t.deck d).link.runTag = none ∧ (t.deck d).link.gapTimer = false ∧ (t.deck d).link.lastSlot = none ∧
      (t.deck d).link.lastLanded = none ∧ (t.deck d).emptied ∧
      ((s.deck d).link.state = .fault → (t.deck d).link.state = .fault ∧ (t.deck d).link.disc = (s.deck d).link.disc) ∧
      ((s.deck d).link.state ≠ .fault →
        (t.deck d).link.state = .noDisc ∧ (t.deck d).link.cause = .noDisc .reset ∧ (t.deck d).link.disc = .absent) ∧
      (t.deck d).link.seekTime = (s.deck d).link.seekTime ∧ (t.deck d).link.resends = (s.deck d).link.resends ∧
      (t.deck d).link.stales = (s.deck d).link.stales ∧ (t.deck d).link.declines = (s.deck d).link.declines ∧
      t.tray.table = s.tray.table ∧ t.deck (otherDeck d) = s.deck (otherDeck d) ∧ SamePart s t ∧
      t.side (otherDeck d) = s.side (otherDeck d)

/-- SET_DECK (R74, R83, R45, R14): every setting clamped to its range in the order given, and all of them returned. With an empty repair
list nothing else changes. -/
def Obligations.SetDeckClampsItsSettings : Prop :=
  ∀ (d : Deck) (v : DeckArgs) (s : State), Awake s →
    let c := (s.deck d).ring.cap
    let high := if c = 0 then 0 else max 2 (min c v.high.toNat)
    let low := if c = 0 then 0 else if high ≤ max 1 v.low.toNat then high - 1 else max 1 v.low.toNat
    let set (u : DeckUnit) : DeckUnit :=
      { u with
        ring := { u.ring with high := high, low := low }
        plan := { u.plan with
          floor := min c v.floor.toNat, window := min c v.window.toNat, lead := min 300 v.lead.toNat,
          threshold := max 1 (min 1176 v.threshold.toNat), limit := min 7 v.limit.toNat, overlap := min 4 v.overlap.toNat }
        intake := { u.intake with gapLimit := min 8 v.gapLimit.toNat }
        link := { u.link with seekTime := max 100 (min 3000 v.seekTime.toNat) } }
    let data : List Byte :=
      be2 high ++ be2 low ++ be2 (min c v.floor.toNat) ++ be2 (min c v.window.toNat) ++ be2 (min 300 v.lead.toNat)
        ++ be2 (max 1 (min 1176 v.threshold.toNat))
        ++ [byte (min 7 v.limit.toNat), byte (min 4 v.overlap.toNat), byte (min 8 v.gapLimit.toNat)]
        ++ be2 (max 100 (min 3000 v.seekTime.toNat))
    ((s.deck d).plan.entries = [] → exec (.setDeck (deckByte d) v) s = .next (replied .ok data (onDeck d set s))) ∧
    Answers (.setDeck (deckByte d) v) s fun t =>
      t.port.reply = some { code := .ok, data := data } ∧ (t.deck d).ring.high = high ∧ (t.deck d).ring.low = low ∧
        (∀ e ∈ (t.deck d).plan.entries, e.attempts < min 7 v.limit.toNat) ∧ t.deck (otherDeck d) = s.deck (otherDeck d) ∧
        t.tray = s.tray ∧ SamePart s t

/-- QUERY_DECK and QUERY_ZONE, in every phase (R36, R134, R213): page 0 makes the snapshot of all pages and returns the first, and the
clear flag then clears the statistics, and for a deck brings the peak to the depth; a later page is read from the snapshot, BAD_STATE
without one, and a page that does not exist is BAD_ARG (the order of the two is log entry 30). QUERY_DISC (R11): NO_DISC without a usable
catalogue, BAD_ARG from an entry that does not exist, else N, L, F and up to eight entries of five bytes; nothing changes. A mirror
zone's record shows zone 1's block in hand, play position and carry values (`shownZone`, log entry 27). -/
def Obligations.QueriesReadPagesAndDiscs : Prop :=
  (∀ (d : Deck) (control : Byte) (s : State), Up s →
     let u := s.deck d
     let pages := [u.link.page, u.intake.page, u.ring.page (effHigh d s), u.plan.page]
     let page := control.toNat / 2 % 4
     (page = 0 → control.toNat % 2 = 0 →
       exec (.queryDeck (deckByte d) control) s = .next
         (replied .ok u.link.page (onDeck d (fun u => { u with snapshot := some pages }) s))) ∧
     (page = 0 → control.toNat % 2 = 1 →
       exec (.queryDeck (deckByte d) control) s = .next
         (replied .ok u.link.page (onDeck d (fun u =>
           { u with
             snapshot := some pages
             link := { u.link with resends := 0, stales := 0, declines := 0 }
             intake := { u.intake with stats := ⟨0, 0, 0, 0, 0, 0, 0, 0, 0⟩ }
             ring := { u.ring with flushes := 0, truncations := 0, peak := u.ring.records.length }
             plan := { u.plan with stats := ⟨0, 0, 0, 0, 0⟩ } }) s))) ∧
     (page ≠ 0 → u.snapshot = none → exec (.queryDeck (deckByte d) control) s = .next (replied .badState [] s)) ∧
     ∀ p q r w, page ≠ 0 → u.snapshot = some [p, q, r, w] →
       exec (.queryDeck (deckByte d) control) s = .next
         (replied .ok (if page = 1 then q else if page = 2 then r else w) s)) ∧
  (∀ (z : ZoneId) (control : Byte) (s : State), Up s →
     let n := shownZone z s
     let page := control.toNat / 2 % 4
     (page = 0 → exec (.queryZone (zoneByte z) control) s = .next
       (replied .ok n.page0 (onZone z (fun m =>
         { m with snapshot := some [n.page0, n.page1],
                  stats := if control.toNat % 2 = 1 then ⟨0, 0, 0, 0, 0⟩ else m.stats }) s))) ∧
     (page ≠ 0 → (s.zone z).snapshot = none → exec (.queryZone (zoneByte z) control) s = .next (replied .badState [] s)) ∧
     ∀ p q, page ≠ 0 → (s.zone z).snapshot = some [p, q] →
       exec (.queryZone (zoneByte z) control) s = .next (if page = 1 then replied .ok q s else replied .badArg [] s)) ∧
  (∀ (d : Deck) (first : Byte) (s : State), Up s →
     ((s.deck d).link.usable = none → exec (.queryDisc (deckByte d) first) s = .next (replied .noDisc [] s)) ∧
     ∀ c, (s.deck d).link.disc = .usable c →
       exec (.queryDisc (deckByte d) first) s = .next
         (if c.entries.length ≤ first.toNat then replied .badArg [] s
         else
           let part := (c.entries.drop first.toNat).take 8
           replied .ok (byte c.entries.length :: be3 c.leadOut ++ be4 c.fingerprint.toNat ++ [byte part.length]
             ++ part.flatMap fun e => byte e.number :: be3 e.start ++ [byte e.data.toNat]) s))

/-! ## Zones: host commands -/

/-- SET_ZONE (R129, R130): the refusals in the order of R129, which change nothing; an accepted one takes the source and the settings,
clamped to their ranges, and returns them. For a STOPPED zone or one without STARVE nothing else changes, but that a change of source
clears the zone's stop note (R177). That a zone 2 made MIRROR keeps the interpolated, held and long-run statistics it counted before is
the model's choice (log entry 51). -/
def Obligations.SetZoneChecksAndClamps : Prop :=
  ∀ (z : ZoneId) (src : Source) (policy : Policy) (v : ZoneArgs) (s : State), Awake s →
    let refused : Prop :=
      (src = .mirror ∧ z = .one) ∨ (∃ d, src = .deck d ∧ ((s.deck d).ring.cap = 0 ∨ (s.zone (otherZone z)).source = .deck d))
    let top := match src with
      | .deck d => (s.deck d).ring.cap
      | .none | .mirror => 1536
    let set : ZoneSettings :=
      { policy := policy, start := min top (max 1 v.start.toNat), restart := min top (max 1 v.restart.toNat),
        step := min 4096 (max 1 v.step.toNat), period := min 64 (max 1 v.period.toNat), span := min 32 (max 1 v.span.toNat),
        recover := min 1024 (max 1 v.recover.toNat) }
    (3 < v.source.toNat ∨ 1 < v.policy.toNat → exec (.setZone (zoneByte z) v) s = .next (replied .badArg [] s)) ∧
    (v.source = byte src.code → v.policy = byte policy.code →
      (refused → exec (.setZone (zoneByte z) v) s = .next (replied .badArg [] s)) ∧
      (¬ refused → src ≠ (s.zone z).source → (s.zone z).state ≠ .stopped →
        exec (.setZone (zoneByte z) v) s = .next (replied .badState [] s)) ∧
      (¬ refused → src = (s.zone z).source ∧ (s.zone z).causes.starve = false ∨ (s.zone z).state = .stopped →
        exec (.setZone (zoneByte z) v) s = .next
          (replied .ok ([byte src.code, byte policy.code] ++ be2 set.start ++ be2 set.restart ++ be2 set.step
              ++ [byte set.period, byte set.span] ++ be2 set.recover)
            (onZone z (fun n => { n with source := src, set := set })
              (if src = (s.zone z).source then s else setNote z none s)))))

/-- PLAY and RESUME begin a range on a STOPPED zone over a deck that can start a run (R99, R121, R179, `RangeBegun`; a mirror zone that
primes with it counts a starve event by log entry 40): PLAY the range asked for with the end used, RESUME the range from the record's
resume address less the rewind, with the record's cue if it has one; the record leaves the table. PLAY is refused in the order of R120,
RESUME in the order of R180, and a refusal changes nothing. PLAY on a zone that is not STOPPED, none mirroring (R121, R122): at ramp 0
the switch completes at once and the range begins; above it SWITCH is raised with the pending range, STOP and the cue are cleared, the
ring is told, which here holds no cue record and fetches the current range, and the planner awaits the flush. On a deck that can start
no run PLAY_START is refused: the zone passes through PRIMING and is STOPPED with START_REFUSED (R122). -/
def Obligations.PlayAndResumeBeginARange : Prop :=
  (∀ (z : ZoneId) (first last : BitVec 24) (s : State), Awake s →
     ((s.zone z).deck? = none → exec (.play (zoneByte z) first last) s = .next (replied .badState [] s)) ∧
     ∀ d, (s.zone z).source = .deck d →
       (deckBusy d s = true → exec (.play (zoneByte z) first last) s = .next (replied .busy [] s)) ∧
       (deckBusy d s = false →
         (∀ code, rangeCheck (s.deck d).link.usable first.toNat last.toNat = .refused code →
           exec (.play (zoneByte z) first last) s = .next (replied code [] s)) ∧
         ∀ r adjusted, rangeCheck (s.deck d).link.usable first.toNat last.toNat = .accepted r adjusted →
           (s.zone (otherZone z)).source ≠ .deck d →
           let data := be3 r.last ++ [byte adjusted.toNat]
           ((s.zone z).state = .stopped ∨ ((s.zone z).ramp = 0 ∧ s.zone2.source ≠ .mirror) → (s.deck d).link.startable →
             (s.deck d).ring.cap ≠ 0 →
             Answers (.play (zoneByte z) first last) s fun t =>
               t.port.reply = some { code := .ok, data := data } ∧ t.tray.table = s.tray.table ∧ RangeBegun z d r none s t) ∧
           ((s.zone z).state ≠ .stopped → 0 < (s.zone z).ramp → s.zone2.source ≠ .mirror → (s.deck d).ring.phase = .current →
             (s.deck d).ring.cueRecords = [] →
             exec (.play (zoneByte z) first last) s = .next (replied .ok data
               (onPlan d (fun p => { p with flushAwaited := true }) (onRing d (fun q => { q with cueCopy := none })
                 (onZone z (fun n => { n with causes := { n.causes with switch := true, stop := false }, pendingRange := some r,
                                              pendingCue := none, cue := none }) s))))) ∧
           ((s.zone z).state = .stopped → s.zone2.source ≠ .mirror → (s.deck d).link.state.runnable = false →
             Answers (.play (zoneByte z) first last) s fun t =>
               t.port.reply = some { code := .ok, data := data } ∧ t.zone z = { (s.zone z).ended .startRefused with tag := false } ∧
               t.zone (otherZone z) = s.zone (otherZone z) ∧ (t.deck d).emptied ∧ t.deck (otherDeck d) = s.deck (otherDeck d) ∧
               t.tray = (setNote z none s).tray ∧ SamePart s t ∧
               t.port.queue = (raiseNotice (.zone z) (.zoneState .stopped (some .startRefused))
                 (raiseNotice (.zone z) (.zoneState .priming none) s)).port.queue))) ∧
  (∀ (z : ZoneId) (s : State), Awake s →
     ((s.zone z).deck? = none ∨ (s.zone z).state ≠ .stopped →
       exec (.resume (zoneByte z)) s = .next (replied .badState [] s)) ∧
     ∀ d, (s.zone z).source = .deck d → (s.zone z).state = .stopped →
       (deckBusy d s = true → exec (.resume (zoneByte z)) s = .next (replied .busy [] s)) ∧
       (deckBusy d s = false →
         ((s.deck d).link.usable = none → exec (.resume (zoneByte z)) s = .next (replied .noDisc [] s)) ∧
         ∀ c, (s.deck d).link.disc = .usable c →
           ((∀ r ∈ s.tray.table, r.fingerprint ≠ c.fingerprint) →
             exec (.resume (zoneByte z)) s = .next (replied .badArg [] s)) ∧
           ∀ before q after, s.tray.table = before ++ q :: after → (∀ p ∈ before, p.fingerprint ≠ c.fingerprint) →
             q.fingerprint = c.fingerprint →
             let answer := rangeCheck (some c) (max q.range.first (q.position - s.tray.rewind)) q.range.last
             (∀ code, answer = .refused code → exec (.resume (zoneByte z)) s = .next (replied code [] s)) ∧
             ∀ r adjusted, answer = .accepted r adjusted →
               (∀ p code, q.cue = some p → rangeCheck (some c) p.first p.last = .refused code →
                 exec (.resume (zoneByte z)) s = .next (replied code [] s)) ∧
               ∀ cue, (q.cue = none ∧ cue = none ∨
                   ∃ p m b, q.cue = some p ∧ rangeCheck (some c) p.first p.last = .accepted m b ∧ cue = some m) →
                 (s.zone (otherZone z)).source ≠ .deck d → (s.deck d).link.startable → (s.deck d).ring.cap ≠ 0 →
                 Answers (.resume (zoneByte z)) s fun t =>
                   t.port.reply = some { code := .ok, data := be3 r.first ++ be3 r.last ++ [byte adjusted.toNat] } ∧
                   t.tray.table = s.tray.table.filter (fun p => p.fingerprint != c.fingerprint) ∧ RangeBegun z d r cue s t))

/-- CUE (R123): BAD_STATE for a mirror or STOPPED zone, the range check's code; while a switch is pending only the pending cue changes;
otherwise, while the ring fetches the current range and holds no cue record, the zone's cue and the ring's copy take the range, or none
for a cancellation. -/
def Obligations.CueSetsTheNextRange : Prop :=
  ∀ (z : ZoneId) (given : Option (BitVec 24 × BitVec 24)) (s : State), Awake s →
    ((s.zone z).source = .mirror ∨ (s.zone z).state = .stopped →
      exec (.cue (zoneByte z) given) s = .next (replied .badState [] s)) ∧
    ∀ d, (s.zone z).source = .deck d → (s.zone z).state ≠ .stopped →
      (∀ a b code, given = some (a, b) → rangeCheck (s.deck d).link.usable a.toNat b.toNat = .refused code →
        exec (.cue (zoneByte z) given) s = .next (replied code [] s)) ∧
      ∀ (cue : Option PlayRange) (data : List Byte),
        (given = none ∧ cue = none ∧ data = [] ∨
          ∃ a b r adjusted, given = some (a, b) ∧ rangeCheck (s.deck d).link.usable a.toNat b.toNat = .accepted r adjusted ∧
            cue = some r ∧ data = be3 r.last ++ [byte adjusted.toNat]) →
        ((s.zone z).causes.switch = true →
          exec (.cue (zoneByte z) given) s = .next (replied .ok data (onZone z (fun n => { n with pendingCue := cue }) s))) ∧
        ((s.zone z).causes.switch = false → (s.deck d).ring.phase = .current → (s.deck d).ring.cueRecords = [] →
          exec (.cue (zoneByte z) given) s = .next
            (replied .ok data (onRing d (fun r => { r with cueCopy := cue }) (onZone z (fun n => { n with cue := cue }) s))))

/-- PAUSE, UNPAUSE and STOP on one zone (R124 to R126), no zone mirroring: on a STOPPED zone nothing changes; on a PLAYING zone with its
ramp above 0 PAUSE is raised or cleared, or STOP is raised with reason HOST and the planner awaits the flush; on a PAUSED zone UNPAUSE
gives PLAYING or STARVED by the ring's good depth. PAUSE of a STARVED mirror zone gives PAUSED (R132), and PAUSE of both zones, PLAYING
with their ramps at 0 and zone 2 a mirror, gives both PAUSED with their own PAUSE raised (R194; zone 2 first, log entry 42). -/
def Obligations.PauseUnpauseAndStopOneZone : Prop :=
  (∀ s : State, Awake s → s.zone2.source = .mirror → s.zone2.ramp = 0 → s.zone2.causes.stop = false →
     s.zone2.inherited.stop = false → s.zone2.causes.pause = false →
     (s.zone2.state = .starved →
       exec (.pause 2#8) s = .next (replied .ok [] (raiseNotice (.zone .two) (.zoneState .paused none)
         { s with zone2 := { s.zone2 with state := .paused, causes := { s.zone2.causes with pause := true } } }))) ∧
     (s.zone2.state = .playing → s.zone1.state = .playing → s.zone1.ramp = 0 → s.zone1.source ≠ .mirror →
       s.zone1.causes = Causes.empty →
       Answers (.pause 3#8) s fun t =>
         t.zone1 = { s.zone1 with state := .paused, causes := { Causes.empty with pause := true } } ∧ t.zone2.state = .paused ∧
           t.zone2.causes = { s.zone2.causes with pause := true } ∧ t.zone2.inherited.starve = true ∧ t.deckA = s.deckA ∧
           t.deckB = s.deckB ∧ t.tray = s.tray ∧ SamePart s t)) ∧
  ∀ (z : ZoneId) (s : State), Awake s → s.zone2.source ≠ .mirror →
    ((s.zone z).state = .stopped → ∀ i ∈ [Instr.pause (zoneByte z), .unpause (zoneByte z), .stop (zoneByte z)],
      exec i s = .next (replied .ok [] s)) ∧
    ∀ d, (s.zone z).source = .deck d →
      ((s.zone z).state = .playing → 0 < (s.zone z).ramp →
        exec (.pause (zoneByte z)) s =
          .next (replied .ok [] (onZone z (fun n => { n with causes := { n.causes with pause := true } }) s)) ∧
        exec (.unpause (zoneByte z)) s =
          .next (replied .ok [] (onZone z (fun n => { n with causes := { n.causes with pause := false } }) s)) ∧
        exec (.stop (zoneByte z)) s =
          .next (replied .ok [] (onPlan d (fun p => { p with flushAwaited := true }) (onZone z (fun n =>
            { n with causes := { n.causes with stop := true, switch := false }, stopReason := .host, pendingRange := none,
                     pendingCue := none }) s)))) ∧
      ((s.zone z).state = .paused →
        let r := (s.deck d).ring
        let ready : Prop := (s.zone z).set.restart ≤ r.goodDepth ∨ (r.phase = .done ∧ r.goodDepth = r.depth ∧ 1 ≤ r.depth)
        (ready → exec (.unpause (zoneByte z)) s = .next (replied .ok [] (raiseNotice (.zone z) (.zoneState .playing none)
          (onZone z (fun n => { n with state := .playing, causes := { n.causes with pause := false, starve := false } }) s)))) ∧
        (¬ ready → exec (.unpause (zoneByte z)) s = .next (replied .ok [] (raiseNotice (.zone z) (.zoneState .starved none)
          (onZone z (fun n => { n with state := .starved, causes := { n.causes with pause := false, starve := true } }) s)))))

/-- SET_LEVEL stages the level for the zone named, or for both with 3, and returns it; it is current at the next take (R127). SET_MARK,
in every zone state, replaces the zone's mark by an address of at most 449,999, or by none, and returns the mark used (R128; the bytes
returned for none are log entry 29). -/
def Obligations.LevelAndMarkAreSet : Prop :=
  (∀ (level : BitVec 16) (s : State), Awake s →
     let staged (n : Zone) : Zone := { n with staged := some level.toNat }
     exec (.setLevel 1#8 level) s = .next (replied .ok (be2 level.toNat) { s with zone1 := staged s.zone1 }) ∧
     exec (.setLevel 2#8 level) s = .next (replied .ok (be2 level.toNat) { s with zone2 := staged s.zone2 }) ∧
     exec (.setLevel 3#8 level) s =
       .next (replied .ok (be2 level.toNat) { s with zone1 := staged s.zone1, zone2 := staged s.zone2 })) ∧
  (∀ (z : ZoneId) (addr : Option (BitVec 24)) (s : State), Awake s →
     let mark := addr.map fun a => min 449999 a.toNat
     exec (.setMark (zoneByte z) addr) s = .next
       (replied .ok (match mark with
           | some a => be3 a
           | none => [0xFF#8, 0xFF#8, 0xFF#8])
         (onZone z (fun n => { n with mark := mark }) s)))

/-! ## Reports, timers and frames of a deck link (R15 to R34, R214 to R216) -/

/-- TAKEN acknowledges the outstanding command (R15, R21, R23, R34): a command with a completion timer starts it; STALL, PROCEED and
LINK_RESET, with nothing waiting, are complete, and a LINK_RESET brings a deck out of FAULT to NO_DISC with reason RESET. A TAKEN for a
command already acknowledged changes nothing. LANDED of the outstanding SEEK: the deck is STREAMING with the gap timer running and the
landed address recorded (R22). A delivery with the tag of the SEEK of a SEEKING deck lands it first, with no address. LANDED on the run
tag alone is recorded while the deck is STREAMING in a run that a delivery landed, a further one too (log entry 43), and is stale
otherwise (R17). -/
def Obligations.TakenAndLandedAdvanceTheCommand : Prop :=
  (∀ (d : Deck) (o : Outstanding) (s : State), Settled s → (s.deck d).link.outstanding = some o →
     (o.timer = .completion → exec (.taken d o.tag) s = .next s) ∧
     (o.timer = .acknowledge →
       (o.command.completeAtAck = false →
         exec (.taken d o.tag) s = .next (onLink d (fun l => { l with outstanding := some { o with timer := .completion } }) s)) ∧
       (o.command = .stall → (s.deck d).link.state = .streaming →
         exec (.taken d o.tag) s = .next (onLink d (fun l => { l with outstanding := none, gapTimer := false, state := .stalled }) s)) ∧
       (o.command = .proceed →
         exec (.taken d o.tag) s = .next (onLink d (fun l => { l with outstanding := none, state := .streaming, gapTimer := true }) s)) ∧
       (o.command = .linkReset → (s.deck d).link.waiting = none →
         ((s.deck d).link.state ≠ .fault →
           exec (.taken d o.tag) s = .next (onLink d (fun l => { l with outstanding := none }) s)) ∧
         ((s.deck d).link.state = .fault →
           exec (.taken d o.tag) s = .next (raiseNotice (.deck d) (.deckState .noDisc (some .reset) none none)
             (onLink d (fun l => { l with outstanding := none, state := .noDisc, cause := .noDisc .reset }) (discardDisc d s))))))) ∧
  (∀ (d : Deck) (o : Outstanding) (target : Nat) (addr : BitVec 24) (s : State), Settled s →
     (s.deck d).link.outstanding = some o → o.command = .seek target →
     exec (.landed d o.tag addr) s = .next
       (onLink d (fun l => { l with outstanding := none, state := .streaming, gapTimer := true, lastLanded := some addr.toNat,
                                    byDelivery := false }) s)) ∧
  (∀ (d : Deck) (o : Outstanding) (target : Nat) (v : DeliveryArgs) (s : State), Settled s → v.wellFormed = true → v.good = true →
     (s.deck d).link.state = .seeking → (s.deck d).link.outstanding = some o → o.command = .seek target →
     exec (.delivery d o.tag v) s = exec (.delivery d o.tag v)
       (onLink d (fun l => { l with outstanding := none, state := .streaming, gapTimer := true, lastLanded := none,
                                    byDelivery := true }) s)) ∧
  (∀ (d : Deck) (tag : Tag) (addr : BitVec 24) (s : State), Settled s → (∀ o, (s.deck d).link.outstanding = some o → o.tag ≠ tag) →
     (s.deck d).link.runTag = some tag →
     ((s.deck d).link.state = .streaming → (s.deck d).link.byDelivery = true →
       exec (.landed d tag addr) s = .next (onLink d (fun l => { l with lastLanded := some addr.toNat }) s)) ∧
     ((s.deck d).link.state ≠ .streaming ∨ (s.deck d).link.byDelivery = false →
       exec (.landed d tag addr) s = .next (onLink d (fun l => { l with stales := min 65535 (l.stales + 1) }) s)))

/-- DECLINED of the outstanding command (R18): its reason and the statistic are recorded, and what follows depends on the command. SEEK:
a seek miss. STALL: the deck is as it was, and a held run that still streams is in RUN phase again (R98). PROCEED: SEEK is sent to the
fetch address less the anchor overlap (R92, R98). FETCH_DISC with nothing waiting: NO_DISC with reason DECLINED. STOW_DISC: what STOWED
does. READ_INDEX and PARK: FAULT with cause DECLINED. LINK_RESET: what the acknowledge timer's expiry does. -/
def Obligations.DeclinedIsRecorded : Prop :=
  ∀ (d : Deck) (o : Outstanding) (reason : Byte) (s : State), Settled s → (s.deck d).link.outstanding = some o →
    let declined (l : Link) : Link := { l with decline := some reason.toNat, declines := min 65535 (l.declines + 1) }
    let noted (l : Link) : Link := { declined l with outstanding := none }
    (∀ target, o.command = .seek target →
      exec (.declined d o.tag reason) s = exec (.seekMiss d o.tag) (onLink d declined s)) ∧
    (o.command = .stall →
      ((s.deck d).plan.phase ≠ .held ∨ (s.deck d).link.state ≠ .streaming →
        exec (.declined d o.tag reason) s = .next (onLink d noted s)) ∧
      ((s.deck d).plan.phase = .held → (s.deck d).link.state = .streaming →
        exec (.declined d o.tag reason) s = .next (onPlan d (fun p => { p with phase := .run }) (onLink d noted s)))) ∧
    (∀ p, o.command = .proceed → (s.deck d).link.state = .stalled → (s.deck d).plan.flushAwaited = false →
      (s.deck d).ring.fetchSpot = some p → (s.deck d).plan.backoff = false → (s.deck d).plan.job ≠ .playStart →
      Answers (.declined d o.tag reason) s fun t =>
        let k := anchorsBefore (s.deck d).ring p (s.deck d).plan.overlap
        (t.deck d).link = { Link.hasSent (.seek (p.addr - k)) (noted (s.deck d).link) with
          state := .seeking, runTag := some (s.deck d).link.nextTag, gapTimer := false, lastLanded := none, byDelivery := false } ∧
        (t.deck d).plan.phase = .run ∧ (t.deck d).plan.target = some p ∧ (t.deck d).intake.ctx.status = .opened ∧
        (t.deck d).intake.ctx.runTag = (s.deck d).link.nextTag ∧ (t.deck d).intake.ctx.target = p.addr ∧
        (t.deck d).intake.ctx.k = k ∧ (t.deck d).ring = { (s.deck d).ring with overflow := false } ∧
        t.deck (otherDeck d) = s.deck (otherDeck d) ∧ t.zone1 = s.zone1 ∧ t.zone2 = s.zone2 ∧ t.port = s.port ∧ t.tray = s.tray ∧
        SamePart s t) ∧
    (∀ slot, o.command = .fetchDisc slot → (s.deck d).link.waiting = none →
      exec (.declined d o.tag reason) s = .next (raiseNotice (.deck d) (.deckState .noDisc (some .declined) none none)
        (onLink d (fun l => { noted l with state := .noDisc, cause := .noDisc .declined }) (discardDisc d s)))) ∧
    (∀ byUnload, o.command = .stowDisc byUnload →
      exec (.declined d o.tag reason) s = exec (.stowed d o.tag) (onLink d declined s)) ∧
    (o.command = .readIndex ∨ (∃ p, o.command = .park p) →
      Answers (.declined d o.tag reason) s fun t =>
        (t.deck d).link.faulted .declined ∧ (t.deck d).link.decline = some reason.toNat ∧ (t.deck d).emptied ∧
        t.deck (otherDeck d) = s.deck (otherDeck d) ∧ SamePart s t) ∧
    (o.command = .linkReset →
      exec (.declined d o.tag reason) s = exec (.ackTimerExpiry d) (onLink d declined s))

/-- A seek miss of a FETCH run, by SEEK_MISS or the completion timer (R24, R102, R105), its streak not at its limit and no flush awaited,
no entry in the repair list and the fetch address the run's target: the deck is READY, the streak and the statistic count one, the
recovery flag is set, and the job waits for the backoff timer. The ring and the zones are as they were. -/
def Obligations.SeekMissBacksOff : Prop :=
  ∀ (d : Deck) (o : Outstanding) (target : Nat) (p : Spot) (i : Instr) (s : State), Settled s →
    (s.deck d).link.outstanding = some o → o.command = .seek target →
    i = .seekMiss d o.tag ∨ (i = .completionTimerExpiry d ∧ o.timer = .completion) →
    (s.deck d).plan.job = .fetch → (s.deck d).plan.target = some p → (s.deck d).plan.seekMisses < 2 →
    (s.deck d).plan.flushAwaited = false → (s.deck d).plan.entries = [] → (s.deck d).plan.phase = .run →
    (s.deck d).ring.fetchSpot = some p → (s.deck d).ring.depth < (s.deck d).ring.high → (s.deck d).ring.high ≤ (s.deck d).ring.cap →
    Answers i s fun t =>
      (t.deck d).link = { (s.deck d).link with outstanding := none, state := .ready, runTag := none, gapTimer := false } ∧
      (t.deck d).plan = { (s.deck d).plan with
        job := .skipRecovery, phase := .backoff, target := some p, recovery := true, seekMisses := (s.deck d).plan.seekMisses + 1,
        backoff := true, backoffTarget := some p,
        stats := { (s.deck d).plan.stats with seekMisses := min 65535 ((s.deck d).plan.stats.seekMisses + 1) } } ∧
      (t.deck d).ring = (s.deck d).ring ∧ t.zone1 = s.zone1 ∧ t.zone2 = s.zone2 ∧ t.port = s.port ∧ t.tray = s.tray ∧
      SamePart s t ∧ t.deck (otherDeck d) = s.deck (otherDeck d)

/-- A slip of a fetch-type run but PLAY_START's, with no entry in the repair list and the seek-miss streak not about to reach its limit:
by TRACK_SLIP on the run tag while the deck is STREAMING, or STALLED with a PROCEED outstanding, or by the delivery gap timer while it is
STREAMING (R25). Any motion command is cleared and the slip address recorded; the streak counts one where the run has placed nothing
(R102). Where the run's target is the fetch address still, the deck is READY and the job waits for the backoff timer (R105). Where the
run has placed a block, so that the fetch address has moved on, with no flush awaited and room below the high mark, SEEK is sent at
once to the fetch address less the anchor overlap (R92), as SKIP_RECOVERY. No zone and no slot record changes. -/
def Obligations.SlipEndsTheRun : Prop :=
  ∀ (d : Deck) (tag : Tag) (addr : BitVec 24) (target : Spot) (i : Instr) (slip : Option Nat) (s : State), Settled s →
    let u := s.deck d
    (i = .trackSlip d tag addr ∧ slip = some addr.toNat ∧ u.link.runTag = some tag ∧
        (u.link.state = .streaming ∨ (u.link.state = .stalled ∧ u.link.outstanding.map (·.command) = some .proceed))) ∨
      (i = .deliveryGapTimerExpiry d ∧ slip = u.intake.ctx.lastPlaced ∧ u.link.gapTimer = true ∧ u.link.state = .streaming) →
    u.plan.job ∈ [.fetch, .cueFetch, .skipRecovery, .voidOver] → (u.plan.seekMisses < 2 ∨ u.intake.ctx.lastPlaced ≠ none) →
    u.plan.entries = [] → u.plan.target = some target →
    let ended : Link := { u.link with outstanding := none, state := .ready, runTag := none, gapTimer := false }
    let misses := if u.intake.ctx.lastPlaced = none then min 3 (u.plan.seekMisses + 1) else u.plan.seekMisses
    let same (t : State) : Prop :=
      (t.deck d).plan.lastSlip = (if slip = none then u.plan.lastSlip else slip) ∧ (t.deck d).plan.backoff = true ∧
        (t.deck d).plan.backoffTarget = some target ∧ (t.deck d).plan.recovery = true ∧ (t.deck d).plan.seekMisses = misses ∧
        t.zone1 = s.zone1 ∧ t.zone2 = s.zone2 ∧ t.port = s.port ∧ t.tray = s.tray ∧ SamePart s t ∧
        t.deck (otherDeck d) = s.deck (otherDeck d)
    (u.ring.fetchSpot = some target →
      Answers i s fun t =>
        same t ∧ (t.deck d).link = ended ∧ (t.deck d).intake.ctx.status = .closed ∧ (t.deck d).ring = u.ring) ∧
    ∀ p, u.ring.fetchSpot = some p → p ≠ target → u.plan.flushAwaited = false → u.plan.phase ≠ .held →
      u.ring.depth < u.ring.high → u.ring.high ≤ u.ring.cap →
      Answers i s fun t =>
        let k := anchorsBefore u.ring p u.plan.overlap
        same t ∧
        (t.deck d).link = { Link.hasSent (.seek (p.addr - k)) ended with
          state := .seeking, runTag := some u.link.nextTag, gapTimer := false, lastLanded := none, byDelivery := false } ∧
        (t.deck d).plan.job = .skipRecovery ∧ (t.deck d).plan.phase = .run ∧ (t.deck d).plan.target = some p ∧
        (t.deck d).intake.ctx.status = .opened ∧ (t.deck d).intake.ctx.runTag = u.link.nextTag ∧
        (t.deck d).intake.ctx.target = p.addr ∧ (t.deck d).intake.ctx.k = k ∧ (t.deck d).ring = { u.ring with overflow := false }

/-- The end of a FETCH_DISC or STOW_DISC with nothing waiting (R28, R30): DISC_IN sends READ_INDEX with the next tag and the deck is
IDENTIFYING; SLOT_EMPTY gives NO_DISC with reason EMPTY_SLOT and no last slot; STOWED gives NO_DISC with reason UNLOADED, and no last slot
when UNLOAD sent it. STOWED of a LOAD taken in READY (R21): the deck passes through NO_DISC, whose reason is recorded without a notice,
and the waiting FETCH_DISC is sent. PARKED with nothing waiting (R31, R32): purpose TRAY with no reload due gives NO_DISC with reason
TRAY; purpose STANDBY in the phase STANDBY gives PARKED, the catalogue kept. -/
def Obligations.DiscReportsMoveTheDeck : Prop :=
  (∀ (d : Deck) (o : Outstanding) (s : State), Settled s →
     (s.deck d).link.outstanding = some o → (s.deck d).link.waiting = none →
     let noDisc (why : DeckReason) (keepSlot : Bool) : State :=
       raiseNotice (.deck d) (.deckState .noDisc (some why) none none)
         (onLink d (fun l => { l with state := .noDisc, cause := .noDisc why, outstanding := none,
                                      lastSlot := if keepSlot then l.lastSlot else none }) (discardDisc d s))
     (∀ slot, o.command = .fetchDisc slot →
       exec (.discIn d o.tag) s = .next (raiseNotice (.deck d) (.deckState .identifying none none none)
         (onLink d (fun l => { Link.hasSent .readIndex l with state := .identifying, runTag := none, gapTimer := false }) s)) ∧
       exec (.slotEmpty d o.tag) s = .next (noDisc .emptySlot false)) ∧
     ∀ byUnload, o.command = .stowDisc byUnload → exec (.stowed d o.tag) s = .next (noDisc .unloaded (!byUnload))) ∧
  (∀ (d : Deck) (o : Outstanding) (slot : Nat) (s : State), Settled s →
     (s.deck d).link.outstanding = some o → o.command = .stowDisc false →
     (s.deck d).link.waiting = some { command := .fetchDisc slot, from_ := .host, plan := none } →
     exec (.stowed d o.tag) s = .next (raiseNotice (.deck d) (.deckState .loading none none none)
       (onLink d (fun l => { Link.hasSent (.fetchDisc slot) l with
           state := .loading, cause := .noDisc .unloaded, waiting := none, runTag := none, gapTimer := false }) (discardDisc d s)))) ∧
  (∀ (d : Deck) (o : Outstanding) (s : State), Settled s →
     (s.deck d).link.outstanding = some o → (s.deck d).link.waiting = none →
     (o.command = .park .tray → (s.side d).reload = false →
       exec (.parked d o.tag) s = .next (raiseNotice (.deck d) (.deckState .noDisc (some .tray) none none)
         (onLink d (fun l => { l with state := .noDisc, cause := .noDisc .tray, outstanding := none }) (discardDisc d s)))) ∧
     (o.command = .park .standby → s.standby.phase = .standby →
       exec (.parked d o.tag) s = .next (raiseNotice (.deck d) (.deckState .parked none none none)
         (onLink d (fun l => { l with state := .parked, outstanding := none }) s))))

/-- INDEX for the outstanding READ_INDEX with nothing waiting (R6, R7, R29): a valid report gives READY with the catalogue usable and
DISC_IDENTIFIED with the fingerprint; an invalid one gives NO_DISC with reason UNREADABLE. A report is valid exactly when it passes the
eight checks of R6 (a length that carries no whole entry fails the second, R214). The search (R178): with the debounced level OPEN or no
record of the disc nothing follows; else the record's deck last seen becomes the deck, and in standby, or when the record's zone has
another source or is not STOPPED, or with auto-resume OFF, RESUME_MATCH is raised. Otherwise the zone resumes (R179): a range that the
check refuses gives RESUME_MATCH; an accepted one begins on the zone, with the record's cue if it is accepted, and the record leaves the
table (`RangeBegun`; that a mirror zone which primes with it counts a starve event is log entry 40). -/
def Obligations.IndexBuildsTheCatalogue : Prop :=
  (∀ (count : Byte) (leadOut : BitVec 24) (entries : List TrackField) (ragged : Bool),
     validIndex count leadOut entries ragged = true ↔
       (count.toNat ≠ 0 ∧ count.toNat ≤ 99) ∧ (entries.length = count.toNat ∧ ragged = false) ∧
         ((∀ e ∈ entries, e.number.toNat ≠ 0 ∧ e.number.toNat ≤ 99) ∧
           entries.Pairwise (fun e f => e.number.toNat < f.number.toNat)) ∧
         (∀ e ∈ entries, e.kind = 0#8 ∨ e.kind = 1#8) ∧ entries.Pairwise (fun e f => e.start.toNat < f.start.toNat) ∧
         (∀ e ∈ entries, e.start.toNat < leadOut.toNat) ∧ leadOut.toNat ≤ 450000 ∧
         ∀ e, entries = [e] → e.kind ≠ 1#8) ∧
  ∀ (d : Deck) (o : Outstanding) (count : Byte) (leadOut : BitVec 24) (entries : List TrackField) (ragged : Bool) (s : State),
    Settled s → (s.deck d).link.outstanding = some o → o.command = .readIndex → (s.deck d).link.waiting = none →
    let f := fingerprint leadOut.toNat (entries.map fun e => e.start.toNat)
    let c : Catalogue :=
      { entries := entries.map fun e => { number := e.number.toNat, start := e.start.toNat, data := e.kind == 1#8 }
        leadOut := leadOut.toNat, fingerprint := f }
    (validIndex count leadOut entries ragged = true → (∀ r ∈ s.tray.table, r.fingerprint ≠ f) →
      exec (.index d o.tag count leadOut entries ragged) s = .next (raiseNotice (.deck d) (.discIdentified f)
        (onLink d (fun l => { l with outstanding := none, state := .ready, disc := .usable c }) s))) ∧
    (validIndex count leadOut entries ragged = true →
      ∀ before r after, s.tray.table = before ++ r :: after → (∀ q ∈ before, q.fingerprint ≠ f) → r.fingerprint = f →
      let known : State := raiseNotice (.deck d) (.discIdentified f)
        (onLink d (fun l => { l with outstanding := none, state := .ready, disc := .usable c }) s)
      let seen (q : ResumeRecord) : ResumeRecord := if q.fingerprint = f then { q with deck := d } else q
      let found : State := raiseNotice (.deck d) (.resumeMatch r.zone r.position f)
        { known with tray := { known.tray with table := s.tray.table.map seen } }
      ((s.side d).level = .opened → exec (.index d o.tag count leadOut entries ragged) s = .next known) ∧
      ((s.side d).level = .closed →
        (s.standby.phase ≠ .awake ∨ (s.zone r.zone).source ≠ .deck d ∨ s.tray.autoResume = false ∨ (s.zone r.zone).state ≠ .stopped →
          exec (.index d o.tag count leadOut entries ragged) s = .next found) ∧
        (s.standby.phase = .awake → (s.zone r.zone).source = .deck d → s.tray.autoResume = true → (s.zone r.zone).state = .stopped →
          let answer := rangeCheck (some c) (max r.range.first (r.position - s.tray.rewind)) r.range.last
          (∀ code, answer = .refused code → exec (.index d o.tag count leadOut entries ragged) s = .next found) ∧
          ∀ range adjusted cue, answer = .accepted range adjusted →
            (r.cue = none ∧ cue = none ∨
              ∃ p, r.cue = some p ∧ ((∃ m b, rangeCheck (some c) p.first p.last = .accepted m b ∧ cue = some m) ∨
                ∃ code, rangeCheck (some c) p.first p.last = .refused code ∧ cue = none)) →
            (s.zone (otherZone r.zone)).source ≠ .deck d → (s.deck d).ring.cap ≠ 0 →
            Answers (.index d o.tag count leadOut entries ragged) s fun t =>
              t.tray.table = s.tray.table.filter (fun q => q.fingerprint != f) ∧ RangeBegun r.zone d range cue known t))) ∧
    (validIndex count leadOut entries ragged = false →
      exec (.index d o.tag count leadOut entries ragged) s = .next
        (raiseNotice (.deck d) (.deckState .noDisc (some .unreadable) none none)
          (onLink d (fun l => { l with outstanding := none, state := .noDisc, cause := .noDisc .unreadable }) (discardDisc d s))))

/-- FAULT (R33), by DECK_TROUBLE, by the acknowledge timer after the second resend, by the completion timer of a mechanical command, or
by a READ_INDEX or PARK declined: the link is in FAULT with no command and no run left, and a usable catalogue is unusable (`Link.inFault`);
the ring is flushed, the job cancelled and the pending-reload flag cleared. When the deck's zone is not STOPPED and the catalogue is
usable, the zone's record, or with a switch pending its pending range's, is written with reason FAULT (R174, R176); otherwise the resume
table is as it was. A zone that is not STOPPED is told to stop with reason DECK_FAULT and the fast fall (R119): at ramp 0 it is STOPPED at
once. With no mirror the other zone is as it was, and DECK_STATE follows with the cause, and no other notice: that a waiting host command
is dropped without one is the model's reading (log entry 23). DECK_TROUBLE in FAULT is ignored. The acknowledge timer's expiry resends
the command with its tag, at most twice, and counts it (R15); with its timer stopped neither expiry does anything (log entry 2). -/
def Obligations.FaultsAndResends : Prop :=
  (∀ (d : Deck) (code : Byte) (cause : FaultCause) (i : Instr) (s : State), Settled s →
     (i = .deckTrouble d code ∧ cause = .trouble ∧ (s.deck d).link.state ≠ .fault) ∨
       (∃ o, (s.deck d).link.outstanding = some o ∧
         ((i = .ackTimerExpiry d ∧ cause = .ackTimeout ∧ o.timer = .acknowledge ∧ 2 ≤ o.resends) ∨
           (i = .completionTimerExpiry d ∧ cause = .mechTimeout ∧ o.timer = .completion ∧ o.command.isMechanical = true) ∨
           (i = .declined d o.tag code ∧ cause = .declined ∧ (o.command = .readIndex ∨ ∃ p, o.command = .park p)))) →
     Answers i s fun t =>
       (t.deck d).link = Link.inFault cause { (s.deck d).link with
         trouble := if cause = .trouble then some code.toNat else (s.deck d).link.trouble
         decline := if cause = .declined then some code.toNat else (s.deck d).link.decline
         declines := if cause = .declined then min 65535 ((s.deck d).link.declines + 1) else (s.deck d).link.declines } ∧
       (t.deck d).emptied ∧ (t.side d).reload = false ∧ t.side (otherDeck d) = s.side (otherDeck d) ∧ SamePart s t ∧
       t.deck (otherDeck d) = s.deck (otherDeck d) ∧
       (zoneIdle d s = true ∨ (s.deck d).link.usable = none → t.tray.table = s.tray.table) ∧
       (zoneOf d s = none → t.zone1 = s.zone1 ∧ t.zone2 = s.zone2) ∧
       ∀ z, zoneOf d s = some z →
         let n := s.zone z
         let told (s : State) : State :=
           raiseNotice (.deck d) (.deckState .fault none (some cause) (if cause = .trouble then some code.toNat else none)) s
         (n.state = .stopped → t.zone z = n.unheld) ∧
         (n.state ≠ .stopped → n.ramp = 0 → t.zone z = n.ended .deckFault) ∧
         (n.state ≠ .stopped → 0 < n.ramp →
           t.zone z = { n.unheld with
             causes := { n.causes with stop := true, switch := false, protect := true }, stopReason := .deckFault
             pendingRange := none, pendingCue := none }) ∧
         (s.zone2.source ≠ .mirror →
           t.zone (otherZone z) = s.zone (otherZone z) ∧
           (n.state = .stopped ∨ 0 < n.ramp → t.port = (told s).port) ∧
           (n.state ≠ .stopped → n.ramp = 0 →
             t.port = (told (raiseNotice (.zone z) (.zoneState .stopped (some .deckFault)) s)).port)) ∧
         ∀ c, n.state ≠ .stopped → (s.deck d).link.disc = .usable c →
           let record (r : PlayRange) (p : Nat) (cue : Option PlayRange) : ResumeRecord :=
             { fingerprint := c.fingerprint, deck := d, zone := z, range := r, position := p, cue := cue, reason := .fault }
           (∀ r p, n.causes.switch = false → n.range = some r → n.position = some p →
             t.tray.table = placeRecord (record r p n.cue) s.tray.table) ∧
           ∀ r, n.causes.switch = true → n.pendingRange = some r →
             t.tray.table = placeRecord (record r r.first n.pendingCue) s.tray.table) ∧
  (∀ (d : Deck) (code : Byte) (s : State), Settled s → (s.deck d).link.state = .fault →
     exec (.deckTrouble d code) s = .next s) ∧
  (∀ (d : Deck) (s : State), Settled s →
     (∀ o, (s.deck d).link.outstanding = some o → o.timer = .acknowledge → o.resends < 2 →
       exec (.ackTimerExpiry d) s = .next (onLink d (fun l =>
         { l with outstanding := some { o with resends := o.resends + 1 }, resends := min 65535 (l.resends + 1),
                  sent := l.sent ++ [{ command := o.command, tag := o.tag }] }) s)) ∧
     ((∀ o, (s.deck d).link.outstanding = some o → o.timer ≠ .acknowledge) → exec (.ackTimerExpiry d) s = .next s) ∧
     ((∀ o, (s.deck d).link.outstanding = some o → o.timer ≠ .completion) → exec (.completionTimerExpiry d) s = .next s))

/-- A report whose tag is neither the outstanding command's nor the run tag is ignored but for the stale-reports statistic (R17). A
delivery that fails its check, or whose tag is neither, changes nothing (R40, R216). A partial control frame is discarded and counted by
CONTROL_FRAME_DISCARD; a partial frame of either channel is discarded, and not counted, after 10 ms without a byte (R216). Between
frames a byte other than the sync byte is passed over (log entry 32); a block frame's byte before its last is kept,
and the last of its 2,506 bytes does what the delivery's own row does (R215). -/
def Obligations.StaleTrafficIsIgnored : Prop :=
  (∀ (i : Instr) (d : Deck) (tag : Tag) (s : State), Settled s → reportTag i = some (d, tag) →
     (∀ o, (s.deck d).link.outstanding = some o → o.tag ≠ tag) → (s.deck d).link.runTag ≠ some tag →
     exec i s = .next (onLink d (fun l => { l with stales := min 65535 (l.stales + 1) }) s)) ∧
  (∀ (d : Deck) (tag : Tag) (v : DeliveryArgs) (s : State), Settled s → v.wellFormed = true →
     v.good = false ∨
         ((s.deck d).link.runTag ≠ some tag ∧ ∀ o, (s.deck d).link.outstanding = some o → o.tag ≠ tag) →
     exec (.delivery d tag v) s = .next s) ∧
  (∀ (d : Deck) (s : State), Up s →
     exec (.controlFrameDiscard d) s =
       .next (onLink d (fun l => { l with controlIn := none, stales := min 65535 (l.stales + 1) }) s) ∧
     exec (.deckLinkByteTimeout d .control) s = .next (onLink d (fun l => { l with controlIn := none }) s) ∧
     exec (.deckLinkByteTimeout d .block) s = .next (onLink d (fun l => { l with blockIn := none }) s) ∧
     (Settled s → ∀ b : Byte,
       ((s.deck d).link.controlIn = none → exec (.deckLinkByteReceived d .control b) s = .next
         (if b = 0xC3#8 then onLink d (fun l => { l with controlIn := some [] }) s else s)) ∧
       ((s.deck d).link.blockIn = none → exec (.deckLinkByteReceived d .block b) s = .next
         (if b = 0x96#8 then onLink d (fun l => { l with blockIn := some [] }) s else s)) ∧
       ∀ got, (s.deck d).link.blockIn = some got → got.length + 1 < 2506 →
         exec (.deckLinkByteReceived d .block b) s = .next (onLink d (fun l => { l with blockIn := some (got ++ [b]) }) s)) ∧
     ∀ (got : List Byte) (b : Byte), (s.deck d).link.blockIn = some got → got.length = 2505 →
       exec (.deckLinkByteReceived d .block b) s =
         exec (decodeDelivery d (got ++ [b])) (onLink d (fun l => { l with blockIn := none }) s))

/-! ## Deliveries (R41 to R57) and discs (R6 to R10) -/

/-- A delivery at the fetch address of a STREAMING run with room below the high mark, not the last of its range, the repair list empty and
every sample non-doubtful (R41, R43, R67, R72): a GOOD record joins the tail, the fetch address moves on by one, and the delivery is
positioned. -/
def Obligations.DeliveryJoinsTheRing : Prop :=
  ∀ (d : Deck) (tag : Tag) (v : DeliveryArgs) (seg : Seg) (last : Nat) (s : State), Settled s →
    v.wellFormed = true → v.good = true → v.valid = true → (∀ m ∈ v.marks, m = false) →
    (s.deck d).link.state = .streaming → (s.deck d).link.runTag = some tag → (s.deck d).link.outstanding = none →
    (s.deck d).intake.ctx.status = .opened → (s.deck d).intake.ctx.runTag = tag → (s.deck d).intake.ctx.span = none →
    (s.deck d).ring.fetchAddr = some v.addr.toNat → (s.deck d).ring.fetchEnd = some last → v.addr.toNat < last →
    (s.deck d).ring.fetchSeg = some seg → (s.deck d).ring.depth + 1 < (s.deck d).ring.high →
    (s.deck d).ring.high ≤ (s.deck d).ring.cap → (s.deck d).plan.entries = [] →
    Answers (.delivery d tag v) s fun t =>
      (t.deck d).ring = { (s.deck d).ring with
        records := (s.deck d).ring.records ++
          [{ addr := v.addr.toNat, seg := seg, state := .good, doubt := 0, data := { samples := v.samples, marks := v.marks } }]
        peak := max (s.deck d).ring.peak ((s.deck d).ring.depth + 1)
        fetchAddr := some (v.addr.toNat + 1) } ∧
      (t.deck d).intake.ctx.anchor = some v.addr.toNat ∧ (t.deck d).intake.ctx.lastPlaced = some v.addr.toNat ∧
      (t.deck d).intake.stats.placedNew = min 65535 ((s.deck d).intake.stats.placedNew + 1) ∧
      (t.deck d).link = (s.deck d).link ∧ t.deck (otherDeck d) = s.deck (otherDeck d) ∧ t.tray = s.tray ∧ SamePart s t

/-- The merge of a revisit, position by position, and the disagreements it counts (R56). -/
def Obligations.MergeTakesNonDoubtfulSamples : Prop :=
  ∀ (missing : Bool) (vs ws : List Sample) (ms ns : List Bool),
    vs.length = ms.length → vs.length = ws.length → vs.length = ns.length →
    let out := mergeSamples missing vs ms ws ns
    out.1.length = vs.length ∧ out.2.1.length = vs.length ∧
    (∀ (i : Nat) (v w : Sample) (m n : Bool), vs[i]? = some v → ms[i]? = some m → ws[i]? = some w → ns[i]? = some n →
      out.1[i]? = some (if m && (!n || missing) then w else v) ∧ out.2.1[i]? = some (m && n)) ∧
    out.2.2 = ((vs.zip ms).zip (ws.zip ns)).countP fun q => !q.1.2 && !q.2.2 && q.1.1 != q.2.1

/-- The fingerprint of a report that passes the checks of R6 is N + 100 L + the sum of i times the start of entry i: no reduction takes
place (R8). -/
def Obligations.FingerprintIsExact : Prop :=
  ∀ (count : Byte) (leadOut : BitVec 24) (entries : List TrackField) (ragged : Bool),
    validIndex count leadOut entries ragged = true →
      (fingerprint leadOut.toNat (entries.map fun e => e.start.toNat)).toNat =
        count.toNat + 100 * leadOut.toNat +
          ((List.range entries.length).map fun i => (i + 1) * ((entries[i]?).map (fun e => e.start.toNat)).getD 0).sum

/-- An accepted range of a valid catalogue begins where it was asked for, ends no later than asked and below the lead-out, never before
its start, and holds no DATA track (R9, R10); the adjusted flag says whether the end was changed. -/
def Obligations.AcceptedRangesLieInAudio : Prop :=
  ∀ (count : Byte) (leadOut : BitVec 24) (entries : List TrackField) (ragged : Bool) (first last : Nat) (r : PlayRange)
    (adjusted : Bool),
    validIndex count leadOut entries ragged = true →
      rangeCheck (some (catalogueOf leadOut entries)) first last = .accepted r adjusted →
        r.first = first ∧ first ≤ r.last ∧ r.last ≤ last ∧ r.last < leadOut.toNat ∧ (adjusted = true ↔ r.last ≠ last) ∧
          ∀ a, r.first ≤ a → a ≤ r.last → ∃ e, (catalogueOf leadOut entries).trackAt a = some e ∧ e.data = false

/-! ## Playout: the frame event and its arithmetic (R110 to R150) -/

/-- A frame event with both zones STOPPED emits 0 on both outputs and moves both block phases on by one of 588; the decks, the trays and
the notice queue are as they were (R110, R137). A frame event inside a block, for a zone that plays a block in hand at the unity ramp and
level with no mute cause, its two samples non-doubtful, the other zone STOPPED, emits those samples, which become the carry values. -/
def Obligations.FrameEventEmitsOneFrame : Prop :=
  (∀ s : State, Settled s → s.stage = .edge → s.zone1.state = .stopped → s.zone2.state = .stopped →
     Answers .frameEvent s fun t =>
       (∀ z, (t.zone z).state = .stopped ∧ (t.zone z).emitted = ⟨0, 0⟩ ∧ (t.zone z).emittedPrev = (s.zone z).emitted ∧
         (t.zone z).blockPhase = ((s.zone z).blockPhase + 1) % 588 ∧ (t.zone z).ramp = (s.zone z).ramp ∧
         (t.zone z).set = (s.zone z).set ∧ (t.zone z).mark = (s.zone z).mark) ∧
       t.deckA = s.deckA ∧ t.deckB = s.deckB ∧ t.tray = s.tray ∧ t.port = s.port ∧ SamePart s t) ∧
  (∀ (z : ZoneId) (d : Deck) (h : InHand) (s : State), Settled s → s.stage = .edge → (s.zone z).source = .deck d →
     (s.zone (otherZone z)).state = .stopped → (s.zone z).state = .playing → (s.zone z).block = some h →
     (s.zone z).causes = Causes.empty → (s.zone z).inherited = Causes.empty → (s.zone z).ramp = 32768 → (s.zone z).level = 32768 →
     0 < (s.zone z).blockPhase → (s.zone z).stats.clamped ≤ 65535 → h.state ≠ .void →
     h.data.marks.getD (2 * (s.zone z).blockPhase) true = false → h.data.marks.getD (2 * (s.zone z).blockPhase + 1) true = false →
     Answers .frameEvent s fun t =>
       (t.zone z).emitted = ⟨h.data.sample (2 * (s.zone z).blockPhase), h.data.sample (2 * (s.zone z).blockPhase + 1)⟩ ∧
         (t.zone z).carry = (t.zone z).emitted ∧ (t.zone z).ramp = 32768 ∧ (t.zone z).causes = Causes.empty ∧
         (t.zone z).blockPhase = ((s.zone z).blockPhase + 1) % 588 ∧ (t.zone z).stats = (s.zone z).stats ∧
         t.deckA = s.deckA ∧ t.deckB = s.deckB ∧ t.tray = s.tray ∧ t.port = s.port ∧ SamePart s t)

/-- A block boundary of a zone whose source is a deck, the other STOPPED and none mirroring (R69, R114 to R118). A zone that is PLAYING or
STARVED with STARVE clear, and not past its range's last block without a cue, takes a play edge that is not MISSING, or under PASS one
that is, as VOID: it becomes the block in hand and the play position and leaves the ring; an edge of the other segment makes the cue the
current range, with CUE_TAKEN; the end-taken flag is set at the range's end; a mark there is reached, with MARK_REACHED; a staged level
becomes current; an entry that begins at the slot is overtaken (R88). A CONCEAL that waits for a take waits no longer (R146, log
entry 47). With the other zone at rest: nothing is taken in STOPPED, PRIMING and PAUSED, or with STARVE raised; past the last block
without a cue the range ends, with STOP and reason RANGE_END (R118), and at an empty edge, or a MISSING one under WAIT, the zone starves
(R116), each unless STOP or SWITCH is raised. Away from a boundary nothing happens (log entry 8). -/
def Obligations.BlockBoundaryTakesTheEdge : Prop :=
  ∀ (z : ZoneId) (d : Deck) (s : State), Settled s →
    (s.stage ≠ .edge ∨ s.zone1.blockPhase ≠ 0 → exec .blockBoundary s = .next s) ∧
    (s.stage = .edge → s.zone1.blockPhase = 0 → s.zone2.blockPhase = 0 → (s.zone z).source = .deck d →
      (s.zone (otherZone z)).state = .stopped → s.zone2.source ≠ .mirror →
      let n := s.zone z
      let r := (s.deck d).ring
      (n.state = .playing ∨ n.state = .starved → n.endTaken = false ∨ n.cue ≠ none → n.causes.starve = false →
        (s.deck d).link.waiting = none →
        ∀ q rest, r.records = q :: rest → q.state ≠ .missing ∨ n.set.policy = .pass →
          (∀ e ∈ (s.deck d).plan.entries, e.covers ⟨q.addr, q.seg⟩ = true → e.first = q.addr) →
          let range := if q.seg = n.tag then n.range else n.cue
          let crossed (s : State) : State :=
            match n.cue with
            | some c => if q.seg = n.tag then s else raiseNotice (.zone z) (.cueTaken c.first) s
            | none => s
          let marked (s : State) : State := if n.mark = some q.addr then raiseNotice (.zone z) (.markReached q.addr) s else s
          Answers .blockBoundary s fun t =>
            t.zone z = { n with
              block := some { addr := q.addr, seg := q.seg, state := if q.state = .missing then .void else q.state, data := q.data }
              runLeft := none, runRight := none, range := range, tag := q.seg, cue := if q.seg = n.tag then n.cue else none
              position := some q.addr
              endTaken := decide (range.map (·.last) = some q.addr) || (n.endTaken && decide (q.seg = n.tag))
              mark := if n.mark = some q.addr then none else n.mark
              level := n.staged.getD n.level, staged := none, concealWaits := false } ∧
            (t.deck d).ring.records = rest ∧ (t.deck d).ring.tag = q.seg ∧
            (t.deck d).plan.stats.overtaken = (if (s.deck d).plan.entries.any (·.covers ⟨q.addr, q.seg⟩) = true
              then min 65535 ((s.deck d).plan.stats.overtaken + 1) else (s.deck d).plan.stats.overtaken) ∧
            (∀ e ∈ (t.deck d).plan.entries, e.covers ⟨q.addr, q.seg⟩ = false) ∧
            t.deck (otherDeck d) = s.deck (otherDeck d) ∧ t.port = (marked (crossed s)).port ∧ t.tray = s.tray ∧
            SamePart s { t with stage := s.stage } ∧ t.stage = .settled) ∧
      ((s.zone (otherZone z)).atRest →
        let settled : State :=
          { onZone z (fun n => { n with block := none, runLeft := none, runRight := none }) s with stage := .settled }
        let ending : Prop := n.causes.stop = true ∨ n.causes.switch = true
        (n.state = .stopped ∨ n.state = .priming ∨ n.state = .paused → exec .blockBoundary s = .next settled) ∧
        (n.state = .playing ∨ n.state = .starved →
          (n.endTaken = true → n.cue = none →
            (ending → exec .blockBoundary s = .next settled) ∧
            (¬ ending → 0 < n.ramp → exec .blockBoundary s = .next
              (onPlan d (fun p => { p with flushAwaited := true }) (onZone z (fun n =>
                { n with causes := { n.causes with stop := true }, stopReason := .rangeEnd, pendingRange := none, pendingCue := none })
                settled)))) ∧
          (n.endTaken = false ∨ n.cue ≠ none →
            (n.causes.starve = true → exec .blockBoundary s = .next settled) ∧
            (n.causes.starve = false →
              r.records = [] ∨ (r.records.head?.map (·.state) = some .missing ∧ n.set.policy = .wait) →
              (ending → exec .blockBoundary s = .next settled) ∧
              (¬ ending → 0 < n.ramp → exec .blockBoundary s = .next (onZone z (fun n =>
                { n with causes := { n.causes with starve := true },
                         stats := { n.stats with starves := min 65535 (n.stats.starves + 1) } }) settled)))))))

/-- A ramp step of a zone, the other STOPPED and none mirroring (R112, R147, R113): with the set empty the ramp rises by S to at most
32,768; with PROTECT or CONCEAL it falls by 4,096. A step that reaches 0 acts by the first line of R113 that applies: with SWITCH the
pending range begins, with the pending cue (R122, `RangeBegun`); with STOP the zone is STOPPED with its stop reason, its values cleared,
its ring flushed, and for HOST or STANDBY with a usable catalogue its stop note is handed over (R177); with PAUSE a PLAYING zone is
PAUSED, and with STARVE it is STARVED. CONCEAL clears at the frame
that completes the M clean frames (R145), and the clean count returns to 0; one raised in a PAUSED zone's silent rest waits for a take
(R146, log entry 47). When nothing is due nothing happens (log entry 8). -/
def Obligations.RampStepsAndConcealClear : Prop :=
  (∀ (z : ZoneId) (s : State), Settled s → s.stage = .concealed → s.zone2.source ≠ .mirror →
     (s.zone (otherZone z)).state = .stopped →
     (s.zone z).inherited = Causes.empty →
     let n := s.zone z
     (n.state = .stopped → exec (.rampStep z) s = .next s) ∧
     (n.state = .playing →
       (n.causes = Causes.empty → n.ramp < 32768 → n.rampCount + 1 < n.set.period → exec (.rampStep z) s = .next s) ∧
       (n.causes = Causes.empty → n.ramp < 32768 → n.set.period ≤ n.rampCount + 1 →
         exec (.rampStep z) s = .next
           { onZone z (fun n => { n with ramp := min 32768 (n.ramp + n.set.step), rampCount := 0 }) s with stage := .ramped }) ∧
       (n.causes.protect = true ∨ n.causes.conceal = true → 4096 < n.ramp →
         exec (.rampStep z) s = .next
           { onZone z (fun n => { n with ramp := n.ramp - 4096, rampCount := 0 }) s with stage := .ramped }) ∧
       (n.causes = { Causes.empty with pause := true } → 0 < n.ramp → n.ramp ≤ n.set.step → n.set.period ≤ n.rampCount + 1 →
         exec (.rampStep z) s = .next
           { raiseNotice (.zone z) (.zoneState .paused none)
               (onZone z (fun n => { n with ramp := 0, rampCount := 0, state := .paused }) s) with stage := .ramped })) ∧
     (n.state ≠ .stopped → 0 < n.ramp →
       (if n.causes.protect = true ∨ n.causes.conceal = true then n.ramp ≤ 4096
         else n.ramp ≤ n.set.step ∧ n.set.period ≤ n.rampCount + 1) →
       let silent : State := onZone z (fun n => { n with ramp := 0, rampCount := 0 }) s
       (∀ d r, n.source = .deck d → (s.zone (otherZone z)).source ≠ .deck d → n.causes.switch = true → n.pendingRange = some r →
         (s.deck d).link.startable → (s.deck d).ring.cap ≠ 0 →
         Answers (.rampStep z) s fun t =>
           RangeBegun z d r n.pendingCue silent { t with stage := s.stage } ∧ t.stage = .ramped ∧ t.tray.table = s.tray.table) ∧
       (∀ d, n.source = .deck d → (s.zone (otherZone z)).source ≠ .deck d → n.causes.switch = false → n.causes.stop = true →
         Answers (.rampStep z) s fun t =>
           t.zone z = n.ended n.stopReason ∧ t.zone (otherZone z) = s.zone (otherZone z) ∧ (t.deck d).emptied ∧
           (t.deck d).ring.flushes = min 65535 ((s.deck d).ring.flushes + 1) ∧ (t.deck d).link.disc = (s.deck d).link.disc ∧
           t.deck (otherDeck d) = s.deck (otherDeck d) ∧
           t.port = (raiseNotice (.zone z) (.zoneState .stopped (some n.stopReason)) s).port ∧
           (∀ c r p, n.stopReason = .host ∨ n.stopReason = .standby → (s.deck d).link.disc = .usable c → n.range = some r →
             n.position = some p →
             t.tray = (setNote z (some { deck := d, fingerprint := c.fingerprint, range := r, cue := n.cue, position := p,
                                         reason := n.stopReason }) s).tray) ∧
           ((n.stopReason ≠ .host ∧ n.stopReason ≠ .standby) ∨ (s.deck d).link.usable = none → t.tray = s.tray) ∧
           SamePart s { t with stage := s.stage } ∧ t.stage = .ramped) ∧
       (n.state = .playing → n.causes.switch = false → n.causes.stop = false →
         (n.causes.pause = true → exec (.rampStep z) s = .next
           { raiseNotice (.zone z) (.zoneState .paused none) (onZone z (fun n => { n with state := .paused }) silent) with
             stage := .ramped }) ∧
         (n.causes.pause = false → n.causes.starve = true → exec (.rampStep z) s = .next
           { raiseNotice (.zone z) (.zoneState .starved none) (onZone z (fun n => { n with state := .starved }) silent) with
             stage := .ramped })))) ∧
  (∀ (z : ZoneId) (d : Deck) (h : InHand) (s : State), Settled s → s.stage = .settled → s.zone2.source ≠ .mirror →
     (s.zone (otherZone z)).state = .stopped → (s.zone z).inherited = Causes.empty →
     ((s.zone z).causes.conceal = false → exec (.concealClear z) s = .next s) ∧
     ((s.zone z).causes.conceal = true → (s.zone z).concealWaits = true → exec (.concealClear z) s = .next s) ∧
     ((s.zone z).causes.conceal = true → (s.zone z).concealWaits = false → (s.zone z).state = .playing →
       (s.zone z).source = .deck d → (s.zone z).block = some h → h.state ≠ .void →
       h.data.marks.getD (2 * (s.zone z).blockPhase) true = false →
       h.data.marks.getD (2 * (s.zone z).blockPhase + 1) true = false →
       (s.zone z).set.recover ≤ (s.zone z).clean + 1 →
       Answers (.concealClear z) s fun t =>
         (t.zone z).causes = { (s.zone z).causes with conceal := false } ∧ (t.zone z).clean = 0 ∧
           (t.zone z).ramp = (s.zone z).ramp ∧ (t.zone z).state = .playing ∧ t.stage = .concealed ∧
           (t.zone z).carry = ⟨h.data.sample (2 * (s.zone z).blockPhase), h.data.sample (2 * (s.zone z).blockPhase + 1)⟩ ∧
           t.deckA = s.deckA ∧ t.deckB = s.deckB ∧ t.tray = s.tray ∧ t.port = s.port ∧ SamePart s { t with stage := s.stage }))

/-- Value k of an interpolated run of n samples is a + round((b - a) k / (n + 1)), and lies between a and b (R143). The effective gain is
the floor of level times ramp over 32,768, and the output of a channel is its pre-gain value times the gain over 32,768, rounded and
clamped; a gain of at most unity never clamps (R149, R150). -/
def Obligations.InterpolationAndOutputRound : Prop :=
  (∀ (start n k : Nat) (a b : Sample), 1 ≤ k → k ≤ n →
     let v := (SettledRun.value { start := start, n := n, a := a, b := some b } (start + k - 1)).toInt
     Rounded ((b.toInt - a.toInt) * k) (n + 1) (v - a.toInt) ∧
       (a.toInt ≤ v ∧ v ≤ b.toInt ∨ b.toInt ≤ v ∧ v ≤ a.toInt)) ∧
  ((∀ n : Zone, n.gain = n.level * n.ramp / 32768) ∧
     ∀ (x : Sample) (g : Nat), ∃ q : Int,
       Rounded (x.toInt * g) 32768 q ∧ (output x g).toInt = max (-32768) (min 32767 q) ∧
         (clampsAt x g = true ↔ q < -32768 ∨ 32767 < q) ∧ (g ≤ 32768 → clampsAt x g = false))
end

