-- ==== Sys2Proof/Laws/State.lean ====
section
/-!
SUPPORT. The fields of State after each named update: one lemma per field, so that no proof unfolds a record update. The update's own
part is given by the lemmas ending in `_same`, and the deck or zone it does not touch by those ending in `_other`.
-/

namespace Sys2Proof.Machine

/-! ## Decks and zones as functions of the state -/

@[simp] theorem deck_a (s : State) : s.deck .a = s.deckA := rfl
@[simp] theorem deck_b (s : State) : s.deck .b = s.deckB := rfl
@[simp] theorem zone_one (s : State) : s.zone .one = s.zone1 := rfl
@[simp] theorem zone_two (s : State) : s.zone .two = s.zone2 := rfl
@[simp] theorem side_a (s : State) : s.side .a = s.tray.sideA := rfl
@[simp] theorem side_b (s : State) : s.side .b = s.tray.sideB := rfl
@[simp] theorem otherDeck_otherDeck (d : Deck) : otherDeck (otherDeck d) = d := by cases d <;> rfl
@[simp] theorem otherZone_otherZone (z : ZoneId) : otherZone (otherZone z) = z := by cases z <;> rfl
@[simp] theorem otherDeck_ne (d : Deck) : otherDeck d ≠ d := by cases d <;> decide
@[simp] theorem ne_otherDeck (d : Deck) : d ≠ otherDeck d := by cases d <;> decide
@[simp] theorem otherZone_ne (z : ZoneId) : otherZone z ≠ z := by cases z <;> decide
@[simp] theorem ne_otherZone (z : ZoneId) : z ≠ otherZone z := by cases z <;> decide
@[simp] theorem deckArg_deckByte (d : Deck) : deckArg (deckByte d) = some d := by cases d <;> decide
@[simp] theorem zoneArg_zoneByte (z : ZoneId) : zoneArg (zoneByte z) = some z := by cases z <;> decide
@[simp] theorem zonesArg_zoneByte (z : ZoneId) : zonesArg (zoneByte z) = some (.only z) := by cases z <;> decide

/-! ## `onDeck` -/

@[simp] theorem onDeck_zone1 (d : Deck) (f : DeckUnit → DeckUnit) (s : State) :
    (onDeck d f s).zone1 = s.zone1 := by cases d <;> rfl
@[simp] theorem onDeck_zone2 (d : Deck) (f : DeckUnit → DeckUnit) (s : State) :
    (onDeck d f s).zone2 = s.zone2 := by cases d <;> rfl
@[simp] theorem onDeck_shock (d : Deck) (f : DeckUnit → DeckUnit) (s : State) :
    (onDeck d f s).shock = s.shock := by cases d <;> rfl
@[simp] theorem onDeck_tray (d : Deck) (f : DeckUnit → DeckUnit) (s : State) :
    (onDeck d f s).tray = s.tray := by cases d <;> rfl
@[simp] theorem onDeck_standby (d : Deck) (f : DeckUnit → DeckUnit) (s : State) :
    (onDeck d f s).standby = s.standby := by cases d <;> rfl
@[simp] theorem onDeck_port (d : Deck) (f : DeckUnit → DeckUnit) (s : State) :
    (onDeck d f s).port = s.port := by cases d <;> rfl
@[simp] theorem onDeck_resetPin (d : Deck) (f : DeckUnit → DeckUnit) (s : State) :
    (onDeck d f s).resetPin = s.resetPin := by cases d <;> rfl
@[simp] theorem onDeck_stage (d : Deck) (f : DeckUnit → DeckUnit) (s : State) :
    (onDeck d f s).stage = s.stage := by cases d <;> rfl
@[simp] theorem onDeck_drawn (d : Deck) (f : DeckUnit → DeckUnit) (s : State) :
    (onDeck d f s).drawn = s.drawn := by cases d <;> rfl
@[simp] theorem onDeck_pending (d : Deck) (f : DeckUnit → DeckUnit) (s : State) :
    (onDeck d f s).pending = s.pending := by cases d <;> rfl
@[simp] theorem onDeck_same (d : Deck) (f : DeckUnit → DeckUnit) (s : State) :
    (onDeck d f s).deck d = f (s.deck d) := by cases d <;> rfl
@[simp] theorem onDeck_other (d : Deck) (f : DeckUnit → DeckUnit) (s : State) :
    (onDeck d f s).deck (otherDeck d) = s.deck (otherDeck d) := by cases d <;> rfl
@[simp] theorem onDeck_zone (d : Deck) (f : DeckUnit → DeckUnit) (s : State) (z : ZoneId) :
    (onDeck d f s).zone z = s.zone z := by cases d <;> cases z <;> rfl
@[simp] theorem onDeck_side (d : Deck) (f : DeckUnit → DeckUnit) (s : State) (e : Deck) :
    (onDeck d f s).side e = s.side e := by cases d <;> cases e <;> rfl

/-! ## `onLink` -/

@[simp] theorem onLink_zone1 (d : Deck) (f : Link → Link) (s : State) :
    (onLink d f s).zone1 = s.zone1 := by cases d <;> rfl
@[simp] theorem onLink_zone2 (d : Deck) (f : Link → Link) (s : State) :
    (onLink d f s).zone2 = s.zone2 := by cases d <;> rfl
@[simp] theorem onLink_shock (d : Deck) (f : Link → Link) (s : State) :
    (onLink d f s).shock = s.shock := by cases d <;> rfl
@[simp] theorem onLink_tray (d : Deck) (f : Link → Link) (s : State) :
    (onLink d f s).tray = s.tray := by cases d <;> rfl
@[simp] theorem onLink_standby (d : Deck) (f : Link → Link) (s : State) :
    (onLink d f s).standby = s.standby := by cases d <;> rfl
@[simp] theorem onLink_port (d : Deck) (f : Link → Link) (s : State) :
    (onLink d f s).port = s.port := by cases d <;> rfl
@[simp] theorem onLink_resetPin (d : Deck) (f : Link → Link) (s : State) :
    (onLink d f s).resetPin = s.resetPin := by cases d <;> rfl
@[simp] theorem onLink_stage (d : Deck) (f : Link → Link) (s : State) :
    (onLink d f s).stage = s.stage := by cases d <;> rfl
@[simp] theorem onLink_drawn (d : Deck) (f : Link → Link) (s : State) :
    (onLink d f s).drawn = s.drawn := by cases d <;> rfl
@[simp] theorem onLink_pending (d : Deck) (f : Link → Link) (s : State) :
    (onLink d f s).pending = s.pending := by cases d <;> rfl
@[simp] theorem onLink_same (d : Deck) (f : Link → Link) (s : State) :
    (onLink d f s).deck d = { s.deck d with link := f (s.deck d).link } := by cases d <;> rfl
@[simp] theorem onLink_other (d : Deck) (f : Link → Link) (s : State) :
    (onLink d f s).deck (otherDeck d) = s.deck (otherDeck d) := by cases d <;> rfl
@[simp] theorem onLink_zone (d : Deck) (f : Link → Link) (s : State) (z : ZoneId) :
    (onLink d f s).zone z = s.zone z := by cases d <;> cases z <;> rfl
@[simp] theorem onLink_side (d : Deck) (f : Link → Link) (s : State) (e : Deck) :
    (onLink d f s).side e = s.side e := by cases d <;> cases e <;> rfl

/-! ## `onIntake` -/

@[simp] theorem onIntake_zone1 (d : Deck) (f : Intake → Intake) (s : State) :
    (onIntake d f s).zone1 = s.zone1 := by cases d <;> rfl
@[simp] theorem onIntake_zone2 (d : Deck) (f : Intake → Intake) (s : State) :
    (onIntake d f s).zone2 = s.zone2 := by cases d <;> rfl
@[simp] theorem onIntake_shock (d : Deck) (f : Intake → Intake) (s : State) :
    (onIntake d f s).shock = s.shock := by cases d <;> rfl
@[simp] theorem onIntake_tray (d : Deck) (f : Intake → Intake) (s : State) :
    (onIntake d f s).tray = s.tray := by cases d <;> rfl
@[simp] theorem onIntake_standby (d : Deck) (f : Intake → Intake) (s : State) :
    (onIntake d f s).standby = s.standby := by cases d <;> rfl
@[simp] theorem onIntake_port (d : Deck) (f : Intake → Intake) (s : State) :
    (onIntake d f s).port = s.port := by cases d <;> rfl
@[simp] theorem onIntake_resetPin (d : Deck) (f : Intake → Intake) (s : State) :
    (onIntake d f s).resetPin = s.resetPin := by cases d <;> rfl
@[simp] theorem onIntake_stage (d : Deck) (f : Intake → Intake) (s : State) :
    (onIntake d f s).stage = s.stage := by cases d <;> rfl
@[simp] theorem onIntake_drawn (d : Deck) (f : Intake → Intake) (s : State) :
    (onIntake d f s).drawn = s.drawn := by cases d <;> rfl
@[simp] theorem onIntake_pending (d : Deck) (f : Intake → Intake) (s : State) :
    (onIntake d f s).pending = s.pending := by cases d <;> rfl
@[simp] theorem onIntake_same (d : Deck) (f : Intake → Intake) (s : State) :
    (onIntake d f s).deck d = { s.deck d with intake := f (s.deck d).intake } := by cases d <;> rfl
@[simp] theorem onIntake_other (d : Deck) (f : Intake → Intake) (s : State) :
    (onIntake d f s).deck (otherDeck d) = s.deck (otherDeck d) := by cases d <;> rfl
@[simp] theorem onIntake_zone (d : Deck) (f : Intake → Intake) (s : State) (z : ZoneId) :
    (onIntake d f s).zone z = s.zone z := by cases d <;> cases z <;> rfl
@[simp] theorem onIntake_side (d : Deck) (f : Intake → Intake) (s : State) (e : Deck) :
    (onIntake d f s).side e = s.side e := by cases d <;> cases e <;> rfl

/-! ## `onCtx` -/

@[simp] theorem onCtx_zone1 (d : Deck) (f : RunContext → RunContext) (s : State) :
    (onCtx d f s).zone1 = s.zone1 := by cases d <;> rfl
@[simp] theorem onCtx_zone2 (d : Deck) (f : RunContext → RunContext) (s : State) :
    (onCtx d f s).zone2 = s.zone2 := by cases d <;> rfl
@[simp] theorem onCtx_shock (d : Deck) (f : RunContext → RunContext) (s : State) :
    (onCtx d f s).shock = s.shock := by cases d <;> rfl
@[simp] theorem onCtx_tray (d : Deck) (f : RunContext → RunContext) (s : State) :
    (onCtx d f s).tray = s.tray := by cases d <;> rfl
@[simp] theorem onCtx_standby (d : Deck) (f : RunContext → RunContext) (s : State) :
    (onCtx d f s).standby = s.standby := by cases d <;> rfl
@[simp] theorem onCtx_port (d : Deck) (f : RunContext → RunContext) (s : State) :
    (onCtx d f s).port = s.port := by cases d <;> rfl
@[simp] theorem onCtx_resetPin (d : Deck) (f : RunContext → RunContext) (s : State) :
    (onCtx d f s).resetPin = s.resetPin := by cases d <;> rfl
@[simp] theorem onCtx_stage (d : Deck) (f : RunContext → RunContext) (s : State) :
    (onCtx d f s).stage = s.stage := by cases d <;> rfl
@[simp] theorem onCtx_drawn (d : Deck) (f : RunContext → RunContext) (s : State) :
    (onCtx d f s).drawn = s.drawn := by cases d <;> rfl
@[simp] theorem onCtx_pending (d : Deck) (f : RunContext → RunContext) (s : State) :
    (onCtx d f s).pending = s.pending := by cases d <;> rfl
@[simp] theorem onCtx_same (d : Deck) (f : RunContext → RunContext) (s : State) :
    (onCtx d f s).deck d = { s.deck d with intake := { (s.deck d).intake with ctx := f (s.deck d).intake.ctx } } := by cases d <;> rfl
@[simp] theorem onCtx_other (d : Deck) (f : RunContext → RunContext) (s : State) :
    (onCtx d f s).deck (otherDeck d) = s.deck (otherDeck d) := by cases d <;> rfl
@[simp] theorem onCtx_zone (d : Deck) (f : RunContext → RunContext) (s : State) (z : ZoneId) :
    (onCtx d f s).zone z = s.zone z := by cases d <;> cases z <;> rfl
@[simp] theorem onCtx_side (d : Deck) (f : RunContext → RunContext) (s : State) (e : Deck) :
    (onCtx d f s).side e = s.side e := by cases d <;> cases e <;> rfl

/-! ## `onIntakeStats` -/

@[simp] theorem onIntakeStats_zone1 (d : Deck) (f : IntakeStats → IntakeStats) (s : State) :
    (onIntakeStats d f s).zone1 = s.zone1 := by cases d <;> rfl
@[simp] theorem onIntakeStats_zone2 (d : Deck) (f : IntakeStats → IntakeStats) (s : State) :
    (onIntakeStats d f s).zone2 = s.zone2 := by cases d <;> rfl
@[simp] theorem onIntakeStats_shock (d : Deck) (f : IntakeStats → IntakeStats) (s : State) :
    (onIntakeStats d f s).shock = s.shock := by cases d <;> rfl
@[simp] theorem onIntakeStats_tray (d : Deck) (f : IntakeStats → IntakeStats) (s : State) :
    (onIntakeStats d f s).tray = s.tray := by cases d <;> rfl
@[simp] theorem onIntakeStats_standby (d : Deck) (f : IntakeStats → IntakeStats) (s : State) :
    (onIntakeStats d f s).standby = s.standby := by cases d <;> rfl
@[simp] theorem onIntakeStats_port (d : Deck) (f : IntakeStats → IntakeStats) (s : State) :
    (onIntakeStats d f s).port = s.port := by cases d <;> rfl
@[simp] theorem onIntakeStats_resetPin (d : Deck) (f : IntakeStats → IntakeStats) (s : State) :
    (onIntakeStats d f s).resetPin = s.resetPin := by cases d <;> rfl
@[simp] theorem onIntakeStats_stage (d : Deck) (f : IntakeStats → IntakeStats) (s : State) :
    (onIntakeStats d f s).stage = s.stage := by cases d <;> rfl
@[simp] theorem onIntakeStats_drawn (d : Deck) (f : IntakeStats → IntakeStats) (s : State) :
    (onIntakeStats d f s).drawn = s.drawn := by cases d <;> rfl
@[simp] theorem onIntakeStats_pending (d : Deck) (f : IntakeStats → IntakeStats) (s : State) :
    (onIntakeStats d f s).pending = s.pending := by cases d <;> rfl
@[simp] theorem onIntakeStats_same (d : Deck) (f : IntakeStats → IntakeStats) (s : State) :
    (onIntakeStats d f s).deck d = { s.deck d with intake := { (s.deck d).intake with stats := f (s.deck d).intake.stats } } := by cases d <;> rfl
@[simp] theorem onIntakeStats_other (d : Deck) (f : IntakeStats → IntakeStats) (s : State) :
    (onIntakeStats d f s).deck (otherDeck d) = s.deck (otherDeck d) := by cases d <;> rfl
@[simp] theorem onIntakeStats_zone (d : Deck) (f : IntakeStats → IntakeStats) (s : State) (z : ZoneId) :
    (onIntakeStats d f s).zone z = s.zone z := by cases d <;> cases z <;> rfl
@[simp] theorem onIntakeStats_side (d : Deck) (f : IntakeStats → IntakeStats) (s : State) (e : Deck) :
    (onIntakeStats d f s).side e = s.side e := by cases d <;> cases e <;> rfl

/-! ## `onRing` -/

@[simp] theorem onRing_zone1 (d : Deck) (f : Ring → Ring) (s : State) :
    (onRing d f s).zone1 = s.zone1 := by cases d <;> rfl
@[simp] theorem onRing_zone2 (d : Deck) (f : Ring → Ring) (s : State) :
    (onRing d f s).zone2 = s.zone2 := by cases d <;> rfl
@[simp] theorem onRing_shock (d : Deck) (f : Ring → Ring) (s : State) :
    (onRing d f s).shock = s.shock := by cases d <;> rfl
@[simp] theorem onRing_tray (d : Deck) (f : Ring → Ring) (s : State) :
    (onRing d f s).tray = s.tray := by cases d <;> rfl
@[simp] theorem onRing_standby (d : Deck) (f : Ring → Ring) (s : State) :
    (onRing d f s).standby = s.standby := by cases d <;> rfl
@[simp] theorem onRing_port (d : Deck) (f : Ring → Ring) (s : State) :
    (onRing d f s).port = s.port := by cases d <;> rfl
@[simp] theorem onRing_resetPin (d : Deck) (f : Ring → Ring) (s : State) :
    (onRing d f s).resetPin = s.resetPin := by cases d <;> rfl
@[simp] theorem onRing_stage (d : Deck) (f : Ring → Ring) (s : State) :
    (onRing d f s).stage = s.stage := by cases d <;> rfl
@[simp] theorem onRing_drawn (d : Deck) (f : Ring → Ring) (s : State) :
    (onRing d f s).drawn = s.drawn := by cases d <;> rfl
@[simp] theorem onRing_pending (d : Deck) (f : Ring → Ring) (s : State) :
    (onRing d f s).pending = s.pending := by cases d <;> rfl
@[simp] theorem onRing_same (d : Deck) (f : Ring → Ring) (s : State) :
    (onRing d f s).deck d = { s.deck d with ring := f (s.deck d).ring } := by cases d <;> rfl
@[simp] theorem onRing_other (d : Deck) (f : Ring → Ring) (s : State) :
    (onRing d f s).deck (otherDeck d) = s.deck (otherDeck d) := by cases d <;> rfl
@[simp] theorem onRing_zone (d : Deck) (f : Ring → Ring) (s : State) (z : ZoneId) :
    (onRing d f s).zone z = s.zone z := by cases d <;> cases z <;> rfl
@[simp] theorem onRing_side (d : Deck) (f : Ring → Ring) (s : State) (e : Deck) :
    (onRing d f s).side e = s.side e := by cases d <;> cases e <;> rfl

/-! ## `onPlan` -/

@[simp] theorem onPlan_zone1 (d : Deck) (f : Planner → Planner) (s : State) :
    (onPlan d f s).zone1 = s.zone1 := by cases d <;> rfl
@[simp] theorem onPlan_zone2 (d : Deck) (f : Planner → Planner) (s : State) :
    (onPlan d f s).zone2 = s.zone2 := by cases d <;> rfl
@[simp] theorem onPlan_shock (d : Deck) (f : Planner → Planner) (s : State) :
    (onPlan d f s).shock = s.shock := by cases d <;> rfl
@[simp] theorem onPlan_tray (d : Deck) (f : Planner → Planner) (s : State) :
    (onPlan d f s).tray = s.tray := by cases d <;> rfl
@[simp] theorem onPlan_standby (d : Deck) (f : Planner → Planner) (s : State) :
    (onPlan d f s).standby = s.standby := by cases d <;> rfl
@[simp] theorem onPlan_port (d : Deck) (f : Planner → Planner) (s : State) :
    (onPlan d f s).port = s.port := by cases d <;> rfl
@[simp] theorem onPlan_resetPin (d : Deck) (f : Planner → Planner) (s : State) :
    (onPlan d f s).resetPin = s.resetPin := by cases d <;> rfl
@[simp] theorem onPlan_stage (d : Deck) (f : Planner → Planner) (s : State) :
    (onPlan d f s).stage = s.stage := by cases d <;> rfl
@[simp] theorem onPlan_drawn (d : Deck) (f : Planner → Planner) (s : State) :
    (onPlan d f s).drawn = s.drawn := by cases d <;> rfl
@[simp] theorem onPlan_pending (d : Deck) (f : Planner → Planner) (s : State) :
    (onPlan d f s).pending = s.pending := by cases d <;> rfl
@[simp] theorem onPlan_same (d : Deck) (f : Planner → Planner) (s : State) :
    (onPlan d f s).deck d = { s.deck d with plan := f (s.deck d).plan } := by cases d <;> rfl
@[simp] theorem onPlan_other (d : Deck) (f : Planner → Planner) (s : State) :
    (onPlan d f s).deck (otherDeck d) = s.deck (otherDeck d) := by cases d <;> rfl
@[simp] theorem onPlan_zone (d : Deck) (f : Planner → Planner) (s : State) (z : ZoneId) :
    (onPlan d f s).zone z = s.zone z := by cases d <;> cases z <;> rfl
@[simp] theorem onPlan_side (d : Deck) (f : Planner → Planner) (s : State) (e : Deck) :
    (onPlan d f s).side e = s.side e := by cases d <;> cases e <;> rfl

/-! ## `onPlanStats` -/

@[simp] theorem onPlanStats_zone1 (d : Deck) (f : PlannerStats → PlannerStats) (s : State) :
    (onPlanStats d f s).zone1 = s.zone1 := by cases d <;> rfl
@[simp] theorem onPlanStats_zone2 (d : Deck) (f : PlannerStats → PlannerStats) (s : State) :
    (onPlanStats d f s).zone2 = s.zone2 := by cases d <;> rfl
@[simp] theorem onPlanStats_shock (d : Deck) (f : PlannerStats → PlannerStats) (s : State) :
    (onPlanStats d f s).shock = s.shock := by cases d <;> rfl
@[simp] theorem onPlanStats_tray (d : Deck) (f : PlannerStats → PlannerStats) (s : State) :
    (onPlanStats d f s).tray = s.tray := by cases d <;> rfl
@[simp] theorem onPlanStats_standby (d : Deck) (f : PlannerStats → PlannerStats) (s : State) :
    (onPlanStats d f s).standby = s.standby := by cases d <;> rfl
@[simp] theorem onPlanStats_port (d : Deck) (f : PlannerStats → PlannerStats) (s : State) :
    (onPlanStats d f s).port = s.port := by cases d <;> rfl
@[simp] theorem onPlanStats_resetPin (d : Deck) (f : PlannerStats → PlannerStats) (s : State) :
    (onPlanStats d f s).resetPin = s.resetPin := by cases d <;> rfl
@[simp] theorem onPlanStats_stage (d : Deck) (f : PlannerStats → PlannerStats) (s : State) :
    (onPlanStats d f s).stage = s.stage := by cases d <;> rfl
@[simp] theorem onPlanStats_drawn (d : Deck) (f : PlannerStats → PlannerStats) (s : State) :
    (onPlanStats d f s).drawn = s.drawn := by cases d <;> rfl
@[simp] theorem onPlanStats_pending (d : Deck) (f : PlannerStats → PlannerStats) (s : State) :
    (onPlanStats d f s).pending = s.pending := by cases d <;> rfl
@[simp] theorem onPlanStats_same (d : Deck) (f : PlannerStats → PlannerStats) (s : State) :
    (onPlanStats d f s).deck d = { s.deck d with plan := { (s.deck d).plan with stats := f (s.deck d).plan.stats } } := by cases d <;> rfl
@[simp] theorem onPlanStats_other (d : Deck) (f : PlannerStats → PlannerStats) (s : State) :
    (onPlanStats d f s).deck (otherDeck d) = s.deck (otherDeck d) := by cases d <;> rfl
@[simp] theorem onPlanStats_zone (d : Deck) (f : PlannerStats → PlannerStats) (s : State) (z : ZoneId) :
    (onPlanStats d f s).zone z = s.zone z := by cases d <;> cases z <;> rfl
@[simp] theorem onPlanStats_side (d : Deck) (f : PlannerStats → PlannerStats) (s : State) (e : Deck) :
    (onPlanStats d f s).side e = s.side e := by cases d <;> cases e <;> rfl

/-! ## `onZone` -/

@[simp] theorem onZone_deckA (z : ZoneId) (f : Zone → Zone) (s : State) :
    (onZone z f s).deckA = s.deckA := by cases z <;> rfl
@[simp] theorem onZone_deckB (z : ZoneId) (f : Zone → Zone) (s : State) :
    (onZone z f s).deckB = s.deckB := by cases z <;> rfl
@[simp] theorem onZone_shock (z : ZoneId) (f : Zone → Zone) (s : State) :
    (onZone z f s).shock = s.shock := by cases z <;> rfl
@[simp] theorem onZone_tray (z : ZoneId) (f : Zone → Zone) (s : State) :
    (onZone z f s).tray = s.tray := by cases z <;> rfl
@[simp] theorem onZone_standby (z : ZoneId) (f : Zone → Zone) (s : State) :
    (onZone z f s).standby = s.standby := by cases z <;> rfl
@[simp] theorem onZone_port (z : ZoneId) (f : Zone → Zone) (s : State) :
    (onZone z f s).port = s.port := by cases z <;> rfl
@[simp] theorem onZone_resetPin (z : ZoneId) (f : Zone → Zone) (s : State) :
    (onZone z f s).resetPin = s.resetPin := by cases z <;> rfl
@[simp] theorem onZone_stage (z : ZoneId) (f : Zone → Zone) (s : State) :
    (onZone z f s).stage = s.stage := by cases z <;> rfl
@[simp] theorem onZone_drawn (z : ZoneId) (f : Zone → Zone) (s : State) :
    (onZone z f s).drawn = s.drawn := by cases z <;> rfl
@[simp] theorem onZone_pending (z : ZoneId) (f : Zone → Zone) (s : State) :
    (onZone z f s).pending = s.pending := by cases z <;> rfl
@[simp] theorem onZone_same (z : ZoneId) (f : Zone → Zone) (s : State) :
    (onZone z f s).zone z = f (s.zone z) := by cases z <;> rfl
@[simp] theorem onZone_other (z : ZoneId) (f : Zone → Zone) (s : State) :
    (onZone z f s).zone (otherZone z) = s.zone (otherZone z) := by cases z <;> rfl
@[simp] theorem onZone_deck (z : ZoneId) (f : Zone → Zone) (s : State) (d : Deck) :
    (onZone z f s).deck d = s.deck d := by cases d <;> cases z <;> rfl
@[simp] theorem onZone_side (z : ZoneId) (f : Zone → Zone) (s : State) (e : Deck) :
    (onZone z f s).side e = s.side e := by cases z <;> cases e <;> rfl

/-! ## `onZoneStats` -/

@[simp] theorem onZoneStats_deckA (z : ZoneId) (f : ZoneStats → ZoneStats) (s : State) :
    (onZoneStats z f s).deckA = s.deckA := by cases z <;> rfl
@[simp] theorem onZoneStats_deckB (z : ZoneId) (f : ZoneStats → ZoneStats) (s : State) :
    (onZoneStats z f s).deckB = s.deckB := by cases z <;> rfl
@[simp] theorem onZoneStats_shock (z : ZoneId) (f : ZoneStats → ZoneStats) (s : State) :
    (onZoneStats z f s).shock = s.shock := by cases z <;> rfl
@[simp] theorem onZoneStats_tray (z : ZoneId) (f : ZoneStats → ZoneStats) (s : State) :
    (onZoneStats z f s).tray = s.tray := by cases z <;> rfl
@[simp] theorem onZoneStats_standby (z : ZoneId) (f : ZoneStats → ZoneStats) (s : State) :
    (onZoneStats z f s).standby = s.standby := by cases z <;> rfl
@[simp] theorem onZoneStats_port (z : ZoneId) (f : ZoneStats → ZoneStats) (s : State) :
    (onZoneStats z f s).port = s.port := by cases z <;> rfl
@[simp] theorem onZoneStats_resetPin (z : ZoneId) (f : ZoneStats → ZoneStats) (s : State) :
    (onZoneStats z f s).resetPin = s.resetPin := by cases z <;> rfl
@[simp] theorem onZoneStats_stage (z : ZoneId) (f : ZoneStats → ZoneStats) (s : State) :
    (onZoneStats z f s).stage = s.stage := by cases z <;> rfl
@[simp] theorem onZoneStats_drawn (z : ZoneId) (f : ZoneStats → ZoneStats) (s : State) :
    (onZoneStats z f s).drawn = s.drawn := by cases z <;> rfl
@[simp] theorem onZoneStats_pending (z : ZoneId) (f : ZoneStats → ZoneStats) (s : State) :
    (onZoneStats z f s).pending = s.pending := by cases z <;> rfl
@[simp] theorem onZoneStats_same (z : ZoneId) (f : ZoneStats → ZoneStats) (s : State) :
    (onZoneStats z f s).zone z = { s.zone z with stats := f (s.zone z).stats } := by cases z <;> rfl
@[simp] theorem onZoneStats_other (z : ZoneId) (f : ZoneStats → ZoneStats) (s : State) :
    (onZoneStats z f s).zone (otherZone z) = s.zone (otherZone z) := by cases z <;> rfl
@[simp] theorem onZoneStats_deck (z : ZoneId) (f : ZoneStats → ZoneStats) (s : State) (d : Deck) :
    (onZoneStats z f s).deck d = s.deck d := by cases d <;> cases z <;> rfl
@[simp] theorem onZoneStats_side (z : ZoneId) (f : ZoneStats → ZoneStats) (s : State) (e : Deck) :
    (onZoneStats z f s).side e = s.side e := by cases z <;> cases e <;> rfl

/-! ## `onSide` -/

@[simp] theorem onSide_deckA (d : Deck) (f : TraySide → TraySide) (s : State) :
    (onSide d f s).deckA = s.deckA := by cases d <;> rfl
@[simp] theorem onSide_deckB (d : Deck) (f : TraySide → TraySide) (s : State) :
    (onSide d f s).deckB = s.deckB := by cases d <;> rfl
@[simp] theorem onSide_zone1 (d : Deck) (f : TraySide → TraySide) (s : State) :
    (onSide d f s).zone1 = s.zone1 := by cases d <;> rfl
@[simp] theorem onSide_zone2 (d : Deck) (f : TraySide → TraySide) (s : State) :
    (onSide d f s).zone2 = s.zone2 := by cases d <;> rfl
@[simp] theorem onSide_shock (d : Deck) (f : TraySide → TraySide) (s : State) :
    (onSide d f s).shock = s.shock := by cases d <;> rfl
@[simp] theorem onSide_standby (d : Deck) (f : TraySide → TraySide) (s : State) :
    (onSide d f s).standby = s.standby := by cases d <;> rfl
@[simp] theorem onSide_port (d : Deck) (f : TraySide → TraySide) (s : State) :
    (onSide d f s).port = s.port := by cases d <;> rfl
@[simp] theorem onSide_resetPin (d : Deck) (f : TraySide → TraySide) (s : State) :
    (onSide d f s).resetPin = s.resetPin := by cases d <;> rfl
@[simp] theorem onSide_stage (d : Deck) (f : TraySide → TraySide) (s : State) :
    (onSide d f s).stage = s.stage := by cases d <;> rfl
@[simp] theorem onSide_drawn (d : Deck) (f : TraySide → TraySide) (s : State) :
    (onSide d f s).drawn = s.drawn := by cases d <;> rfl
@[simp] theorem onSide_pending (d : Deck) (f : TraySide → TraySide) (s : State) :
    (onSide d f s).pending = s.pending := by cases d <;> rfl
@[simp] theorem onSide_tray_debouncing (d : Deck) (f : TraySide → TraySide) (s : State) :
    (onSide d f s).tray.debouncing = s.tray.debouncing := by cases d <;> rfl
@[simp] theorem onSide_tray_noteOne (d : Deck) (f : TraySide → TraySide) (s : State) :
    (onSide d f s).tray.noteOne = s.tray.noteOne := by cases d <;> rfl
@[simp] theorem onSide_tray_noteTwo (d : Deck) (f : TraySide → TraySide) (s : State) :
    (onSide d f s).tray.noteTwo = s.tray.noteTwo := by cases d <;> rfl
@[simp] theorem onSide_tray_table (d : Deck) (f : TraySide → TraySide) (s : State) :
    (onSide d f s).tray.table = s.tray.table := by cases d <;> rfl
@[simp] theorem onSide_tray_autoResume (d : Deck) (f : TraySide → TraySide) (s : State) :
    (onSide d f s).tray.autoResume = s.tray.autoResume := by cases d <;> rfl
@[simp] theorem onSide_tray_autoReload (d : Deck) (f : TraySide → TraySide) (s : State) :
    (onSide d f s).tray.autoReload = s.tray.autoReload := by cases d <;> rfl
@[simp] theorem onSide_tray_rewind (d : Deck) (f : TraySide → TraySide) (s : State) :
    (onSide d f s).tray.rewind = s.tray.rewind := by cases d <;> rfl
@[simp] theorem onSide_tray_debounce (d : Deck) (f : TraySide → TraySide) (s : State) :
    (onSide d f s).tray.debounce = s.tray.debounce := by cases d <;> rfl
@[simp] theorem onSide_same (d : Deck) (f : TraySide → TraySide) (s : State) :
    (onSide d f s).side d = f (s.side d) := by cases d <;> rfl
@[simp] theorem onSide_other (d : Deck) (f : TraySide → TraySide) (s : State) :
    (onSide d f s).side (otherDeck d) = s.side (otherDeck d) := by cases d <;> rfl
@[simp] theorem onSide_deck (d : Deck) (f : TraySide → TraySide) (s : State) (e : Deck) :
    (onSide d f s).deck e = s.deck e := by cases d <;> cases e <;> rfl
@[simp] theorem onSide_zone (d : Deck) (f : TraySide → TraySide) (s : State) (z : ZoneId) :
    (onSide d f s).zone z = s.zone z := by cases d <;> cases z <;> rfl

/-! ## `onPort` -/

@[simp] theorem onPort_deckA (f : Port → Port) (s : State) :
    (onPort f s).deckA = s.deckA := rfl
@[simp] theorem onPort_deckB (f : Port → Port) (s : State) :
    (onPort f s).deckB = s.deckB := rfl
@[simp] theorem onPort_zone1 (f : Port → Port) (s : State) :
    (onPort f s).zone1 = s.zone1 := rfl
@[simp] theorem onPort_zone2 (f : Port → Port) (s : State) :
    (onPort f s).zone2 = s.zone2 := rfl
@[simp] theorem onPort_shock (f : Port → Port) (s : State) :
    (onPort f s).shock = s.shock := rfl
@[simp] theorem onPort_tray (f : Port → Port) (s : State) :
    (onPort f s).tray = s.tray := rfl
@[simp] theorem onPort_standby (f : Port → Port) (s : State) :
    (onPort f s).standby = s.standby := rfl
@[simp] theorem onPort_resetPin (f : Port → Port) (s : State) :
    (onPort f s).resetPin = s.resetPin := rfl
@[simp] theorem onPort_stage (f : Port → Port) (s : State) :
    (onPort f s).stage = s.stage := rfl
@[simp] theorem onPort_drawn (f : Port → Port) (s : State) :
    (onPort f s).drawn = s.drawn := rfl
@[simp] theorem onPort_pending (f : Port → Port) (s : State) :
    (onPort f s).pending = s.pending := rfl
@[simp] theorem onPort_deck (f : Port → Port) (s : State) (e : Deck) :
    (onPort f s).deck e = s.deck e := by cases e <;> simp [State.deck]
@[simp] theorem onPort_zone (f : Port → Port) (s : State) (x : ZoneId) :
    (onPort f s).zone x = s.zone x := by cases x <;> simp [State.zone]
@[simp] theorem onPort_port (f : Port → Port) (s : State) :
    (onPort f s).port = f s.port := rfl

/-! ## `replied` -/

@[simp] theorem replied_deckA (c : ReplyCode) (data : List Byte) (s : State) :
    (replied c data s).deckA = s.deckA := rfl
@[simp] theorem replied_deckB (c : ReplyCode) (data : List Byte) (s : State) :
    (replied c data s).deckB = s.deckB := rfl
@[simp] theorem replied_zone1 (c : ReplyCode) (data : List Byte) (s : State) :
    (replied c data s).zone1 = s.zone1 := rfl
@[simp] theorem replied_zone2 (c : ReplyCode) (data : List Byte) (s : State) :
    (replied c data s).zone2 = s.zone2 := rfl
@[simp] theorem replied_shock (c : ReplyCode) (data : List Byte) (s : State) :
    (replied c data s).shock = s.shock := rfl
@[simp] theorem replied_tray (c : ReplyCode) (data : List Byte) (s : State) :
    (replied c data s).tray = s.tray := rfl
@[simp] theorem replied_standby (c : ReplyCode) (data : List Byte) (s : State) :
    (replied c data s).standby = s.standby := rfl
@[simp] theorem replied_resetPin (c : ReplyCode) (data : List Byte) (s : State) :
    (replied c data s).resetPin = s.resetPin := rfl
@[simp] theorem replied_stage (c : ReplyCode) (data : List Byte) (s : State) :
    (replied c data s).stage = s.stage := rfl
@[simp] theorem replied_drawn (c : ReplyCode) (data : List Byte) (s : State) :
    (replied c data s).drawn = s.drawn := rfl
@[simp] theorem replied_pending (c : ReplyCode) (data : List Byte) (s : State) :
    (replied c data s).pending = s.pending := rfl
@[simp] theorem replied_deck (c : ReplyCode) (data : List Byte) (s : State) (e : Deck) :
    (replied c data s).deck e = s.deck e := by cases e <;> simp [State.deck]
@[simp] theorem replied_zone (c : ReplyCode) (data : List Byte) (s : State) (x : ZoneId) :
    (replied c data s).zone x = s.zone x := by cases x <;> simp [State.zone]

/-! ## `setNote` -/

@[simp] theorem setNote_deckA (z : ZoneId) (v : Option StopNote) (s : State) :
    (setNote z v s).deckA = s.deckA := by cases z <;> rfl
@[simp] theorem setNote_deckB (z : ZoneId) (v : Option StopNote) (s : State) :
    (setNote z v s).deckB = s.deckB := by cases z <;> rfl
@[simp] theorem setNote_zone1 (z : ZoneId) (v : Option StopNote) (s : State) :
    (setNote z v s).zone1 = s.zone1 := by cases z <;> rfl
@[simp] theorem setNote_zone2 (z : ZoneId) (v : Option StopNote) (s : State) :
    (setNote z v s).zone2 = s.zone2 := by cases z <;> rfl
@[simp] theorem setNote_shock (z : ZoneId) (v : Option StopNote) (s : State) :
    (setNote z v s).shock = s.shock := by cases z <;> rfl
@[simp] theorem setNote_standby (z : ZoneId) (v : Option StopNote) (s : State) :
    (setNote z v s).standby = s.standby := by cases z <;> rfl
@[simp] theorem setNote_port (z : ZoneId) (v : Option StopNote) (s : State) :
    (setNote z v s).port = s.port := by cases z <;> rfl
@[simp] theorem setNote_resetPin (z : ZoneId) (v : Option StopNote) (s : State) :
    (setNote z v s).resetPin = s.resetPin := by cases z <;> rfl
@[simp] theorem setNote_stage (z : ZoneId) (v : Option StopNote) (s : State) :
    (setNote z v s).stage = s.stage := by cases z <;> rfl
@[simp] theorem setNote_drawn (z : ZoneId) (v : Option StopNote) (s : State) :
    (setNote z v s).drawn = s.drawn := by cases z <;> rfl
@[simp] theorem setNote_pending (z : ZoneId) (v : Option StopNote) (s : State) :
    (setNote z v s).pending = s.pending := by cases z <;> rfl
@[simp] theorem setNote_deck (z : ZoneId) (v : Option StopNote) (s : State) (e : Deck) :
    (setNote z v s).deck e = s.deck e := by cases e <;> simp [State.deck]
@[simp] theorem setNote_zone (z : ZoneId) (v : Option StopNote) (s : State) (x : ZoneId) :
    (setNote z v s).zone x = s.zone x := by cases x <;> simp [State.zone]
@[simp] theorem setNote_table (z : ZoneId) (v : Option StopNote) (s : State) :
    (setNote z v s).tray.table = s.tray.table := by cases z <;> rfl
@[simp] theorem setNote_side (z : ZoneId) (v : Option StopNote) (s : State) (d : Deck) :
    (setNote z v s).side d = s.side d := by cases z <;> cases d <;> rfl

/-! ## `writeRecord` -/

@[simp] theorem writeRecord_deckA (r : ResumeRecord) (s : State) :
    (writeRecord r s).deckA = s.deckA := rfl
@[simp] theorem writeRecord_deckB (r : ResumeRecord) (s : State) :
    (writeRecord r s).deckB = s.deckB := rfl
@[simp] theorem writeRecord_zone1 (r : ResumeRecord) (s : State) :
    (writeRecord r s).zone1 = s.zone1 := rfl
@[simp] theorem writeRecord_zone2 (r : ResumeRecord) (s : State) :
    (writeRecord r s).zone2 = s.zone2 := rfl
@[simp] theorem writeRecord_shock (r : ResumeRecord) (s : State) :
    (writeRecord r s).shock = s.shock := rfl
@[simp] theorem writeRecord_standby (r : ResumeRecord) (s : State) :
    (writeRecord r s).standby = s.standby := rfl
@[simp] theorem writeRecord_port (r : ResumeRecord) (s : State) :
    (writeRecord r s).port = s.port := rfl
@[simp] theorem writeRecord_resetPin (r : ResumeRecord) (s : State) :
    (writeRecord r s).resetPin = s.resetPin := rfl
@[simp] theorem writeRecord_stage (r : ResumeRecord) (s : State) :
    (writeRecord r s).stage = s.stage := rfl
@[simp] theorem writeRecord_drawn (r : ResumeRecord) (s : State) :
    (writeRecord r s).drawn = s.drawn := rfl
@[simp] theorem writeRecord_pending (r : ResumeRecord) (s : State) :
    (writeRecord r s).pending = s.pending := rfl
@[simp] theorem writeRecord_deck (r : ResumeRecord) (s : State) (e : Deck) :
    (writeRecord r s).deck e = s.deck e := by cases e <;> simp [State.deck]
@[simp] theorem writeRecord_zone (r : ResumeRecord) (s : State) (x : ZoneId) :
    (writeRecord r s).zone x = s.zone x := by cases x <;> simp [State.zone]
@[simp] theorem writeRecord_table (r : ResumeRecord) (s : State) :
    (writeRecord r s).tray.table = placeRecord r s.tray.table := rfl

/-! ## `raiseNotice` -/

@[simp] theorem raiseNotice_deckA (u : NoticeUnit) (n : NoticeBody) (s : State) :
    (raiseNotice u n s).deckA = s.deckA := by unfold raiseNotice; split <;> rfl
@[simp] theorem raiseNotice_deckB (u : NoticeUnit) (n : NoticeBody) (s : State) :
    (raiseNotice u n s).deckB = s.deckB := by unfold raiseNotice; split <;> rfl
@[simp] theorem raiseNotice_zone1 (u : NoticeUnit) (n : NoticeBody) (s : State) :
    (raiseNotice u n s).zone1 = s.zone1 := by unfold raiseNotice; split <;> rfl
@[simp] theorem raiseNotice_zone2 (u : NoticeUnit) (n : NoticeBody) (s : State) :
    (raiseNotice u n s).zone2 = s.zone2 := by unfold raiseNotice; split <;> rfl
@[simp] theorem raiseNotice_shock (u : NoticeUnit) (n : NoticeBody) (s : State) :
    (raiseNotice u n s).shock = s.shock := by unfold raiseNotice; split <;> rfl
@[simp] theorem raiseNotice_tray (u : NoticeUnit) (n : NoticeBody) (s : State) :
    (raiseNotice u n s).tray = s.tray := by unfold raiseNotice; split <;> rfl
@[simp] theorem raiseNotice_standby (u : NoticeUnit) (n : NoticeBody) (s : State) :
    (raiseNotice u n s).standby = s.standby := by unfold raiseNotice; split <;> rfl
@[simp] theorem raiseNotice_resetPin (u : NoticeUnit) (n : NoticeBody) (s : State) :
    (raiseNotice u n s).resetPin = s.resetPin := by unfold raiseNotice; split <;> rfl
@[simp] theorem raiseNotice_stage (u : NoticeUnit) (n : NoticeBody) (s : State) :
    (raiseNotice u n s).stage = s.stage := by unfold raiseNotice; split <;> rfl
@[simp] theorem raiseNotice_drawn (u : NoticeUnit) (n : NoticeBody) (s : State) :
    (raiseNotice u n s).drawn = s.drawn := by unfold raiseNotice; split <;> rfl
@[simp] theorem raiseNotice_pending (u : NoticeUnit) (n : NoticeBody) (s : State) :
    (raiseNotice u n s).pending = s.pending := by unfold raiseNotice; split <;> rfl
@[simp] theorem raiseNotice_deck (u : NoticeUnit) (n : NoticeBody) (s : State) (e : Deck) :
    (raiseNotice u n s).deck e = s.deck e := by cases e <;> simp [State.deck]
@[simp] theorem raiseNotice_zone (u : NoticeUnit) (n : NoticeBody) (s : State) (x : ZoneId) :
    (raiseNotice u n s).zone x = s.zone x := by cases x <;> simp [State.zone]
@[simp] theorem raiseNotice_port_receiver (u : NoticeUnit) (n : NoticeBody) (s : State) :
    (raiseNotice u n s).port.receiver = s.port.receiver := by unfold raiseNotice; split <;> rfl
@[simp] theorem raiseNotice_port_buffer (u : NoticeUnit) (n : NoticeBody) (s : State) :
    (raiseNotice u n s).port.buffer = s.port.buffer := by unfold raiseNotice; split <;> rfl
@[simp] theorem raiseNotice_port_inHand (u : NoticeUnit) (n : NoticeBody) (s : State) :
    (raiseNotice u n s).port.inHand = s.port.inHand := by unfold raiseNotice; split <;> rfl
@[simp] theorem raiseNotice_port_transmitter (u : NoticeUnit) (n : NoticeBody) (s : State) :
    (raiseNotice u n s).port.transmitter = s.port.transmitter := by unfold raiseNotice; split <;> rfl
@[simp] theorem raiseNotice_port_mask (u : NoticeUnit) (n : NoticeBody) (s : State) :
    (raiseNotice u n s).port.mask = s.port.mask := by unfold raiseNotice; split <;> rfl
@[simp] theorem raiseNotice_port_reply (u : NoticeUnit) (n : NoticeBody) (s : State) :
    (raiseNotice u n s).port.reply = s.port.reply := by unfold raiseNotice; split <;> rfl
@[simp] theorem raiseNotice_port_resetDue (u : NoticeUnit) (n : NoticeBody) (s : State) :
    (raiseNotice u n s).port.resetDue = s.port.resetDue := by unfold raiseNotice; split <;> rfl
@[simp] theorem raiseNotice_queue (u : NoticeUnit) (n : NoticeBody) (s : State) :
    (raiseNotice u n s).port.queue = (if s.port.mask.getLsbD n.kind.position then queueNotice u n s.port.queue else s.port.queue) := by unfold raiseNotice; split <;> rfl

/-! ## `discardDisc` -/

@[simp] theorem discardDisc_zone1 (d : Deck) (s : State) :
    (discardDisc d s).zone1 = s.zone1 := by cases d <;> rfl
@[simp] theorem discardDisc_zone2 (d : Deck) (s : State) :
    (discardDisc d s).zone2 = s.zone2 := by cases d <;> rfl
@[simp] theorem discardDisc_shock (d : Deck) (s : State) :
    (discardDisc d s).shock = s.shock := by cases d <;> rfl
@[simp] theorem discardDisc_standby (d : Deck) (s : State) :
    (discardDisc d s).standby = s.standby := by cases d <;> rfl
@[simp] theorem discardDisc_port (d : Deck) (s : State) :
    (discardDisc d s).port = s.port := by cases d <;> rfl
@[simp] theorem discardDisc_resetPin (d : Deck) (s : State) :
    (discardDisc d s).resetPin = s.resetPin := by cases d <;> rfl
@[simp] theorem discardDisc_stage (d : Deck) (s : State) :
    (discardDisc d s).stage = s.stage := by cases d <;> rfl
@[simp] theorem discardDisc_drawn (d : Deck) (s : State) :
    (discardDisc d s).drawn = s.drawn := by cases d <;> rfl
@[simp] theorem discardDisc_pending (d : Deck) (s : State) :
    (discardDisc d s).pending = s.pending := by cases d <;> rfl
@[simp] theorem discardDisc_same (d : Deck) (s : State) :
    (discardDisc d s).deck d = { s.deck d with link := { (s.deck d).link with disc := .absent } } := by cases d <;> rfl
@[simp] theorem discardDisc_other (d : Deck) (s : State) :
    (discardDisc d s).deck (otherDeck d) = s.deck (otherDeck d) := by cases d <;> rfl
@[simp] theorem discardDisc_table (d : Deck) (s : State) :
    (discardDisc d s).tray.table = s.tray.table := by cases d <;> rfl
@[simp] theorem discardDisc_side (d : Deck) (s : State) (e : Deck) :
    (discardDisc d s).side e = s.side e := by cases d <;> cases e <;> rfl
@[simp] theorem discardDisc_zone (d : Deck) (s : State) (z : ZoneId) :
    (discardDisc d s).zone z = s.zone z := by cases d <;> cases z <;> rfl

/-! ## `enterZone` -/

@[simp] theorem enterZone_deckA (z : ZoneId) (st : ZoneState) (s : State) :
    (enterZone z st s).deckA = s.deckA := by simp [enterZone]
@[simp] theorem enterZone_deckB (z : ZoneId) (st : ZoneState) (s : State) :
    (enterZone z st s).deckB = s.deckB := by simp [enterZone]
@[simp] theorem enterZone_shock (z : ZoneId) (st : ZoneState) (s : State) :
    (enterZone z st s).shock = s.shock := by simp [enterZone]
@[simp] theorem enterZone_tray (z : ZoneId) (st : ZoneState) (s : State) :
    (enterZone z st s).tray = s.tray := by simp [enterZone]
@[simp] theorem enterZone_standby (z : ZoneId) (st : ZoneState) (s : State) :
    (enterZone z st s).standby = s.standby := by simp [enterZone]
@[simp] theorem enterZone_resetPin (z : ZoneId) (st : ZoneState) (s : State) :
    (enterZone z st s).resetPin = s.resetPin := by simp [enterZone]
@[simp] theorem enterZone_stage (z : ZoneId) (st : ZoneState) (s : State) :
    (enterZone z st s).stage = s.stage := by simp [enterZone]
@[simp] theorem enterZone_drawn (z : ZoneId) (st : ZoneState) (s : State) :
    (enterZone z st s).drawn = s.drawn := by simp [enterZone]
@[simp] theorem enterZone_pending (z : ZoneId) (st : ZoneState) (s : State) :
    (enterZone z st s).pending = s.pending := by simp [enterZone]
@[simp] theorem enterZone_same (z : ZoneId) (st : ZoneState) (s : State) :
    (enterZone z st s).zone z = { s.zone z with state := st } := by simp [enterZone]
@[simp] theorem enterZone_other (z : ZoneId) (st : ZoneState) (s : State) :
    (enterZone z st s).zone (otherZone z) = s.zone (otherZone z) := by simp [enterZone]
@[simp] theorem enterZone_deck (z : ZoneId) (st : ZoneState) (s : State) (d : Deck) :
    (enterZone z st s).deck d = s.deck d := by simp [enterZone]

end Sys2Proof.Machine
end

