-- ==== Sys2Proof/Laws/Ops.lean ====
section
/-!
SUPPORT. What the shared operations can do, said once for each: the gates of the reset pin and of standby, counters, the notice queue,
the resume table, sending, releasing, flushing, and the order of events. Proofs cite these lemmas in place of the definitions.
-/

namespace Sys2Proof.Machine

/-! ## The gates -/

/-- With the reset pin high the block acts (R208). -/
theorem whenUp_high (s : State) (f : State → State) (h : s.resetPin = .high) : whenUp s f = .next (f s) := by
  unfold whenUp; rw [h]

/-- With the reset pin low nothing acts (R208). -/
theorem whenUp_low (s : State) (f : State → State) (h : s.resetPin = .low) : whenUp s f = .next s := by
  unfold whenUp; rw [h]

/-- The gate answers a next state in every case. -/
theorem whenUp_next (s : State) (f : State → State) : whenUp s f = .next (if s.resetPin = .high then f s else s) := by
  cases h : s.resetPin <;> simp [whenUp, h]

/-- Standby entry does not complete outside ENTERING (R204). -/
theorem finishEntry_of_ne (s : State) (h : s.standby.phase ≠ .entering) : finishEntry s = s := by
  unfold finishEntry entryDue; cases hp : s.standby.phase <;> simp_all

/-- Standby entry does not complete while a zone is not STOPPED (R204). -/
theorem finishEntry_of_active (s : State) (h : s.zone1.state ≠ .stopped ∨ s.zone2.state ≠ .stopped) : finishEntry s = s := by
  unfold finishEntry entryDue; rcases h with h | h <;> simp [h]

/-- An event of a settled part that keeps the Standby Controller is the event's own effect. -/
theorem event_settled (s : State) (f : State → State) (h : Settled s) (hf : (f s).standby = s.standby) :
    event s f = .next (f s) := by
  obtain ⟨h1, h2⟩ := h
  unfold event; rw [whenUp_high _ _ h1, finishEntry_of_ne _ (by rw [hf]; exact h2)]

/-- An event answers a next state in every case. -/
theorem event_next (s : State) (f : State → State) :
    event s f = .next (if s.resetPin = .high then finishEntry (f s) else s) := whenUp_next s _

/-- A host command that is taken settles its owner's answer (R191). -/
theorem taken_up (s : State) (f : State → Answered) (h : s.resetPin = .high) : taken s f = .next (settle (f s)) := by
  unfold taken; rw [whenUp_high _ _ h]

/-- Outside standby a command's own answer stands (R205). -/
theorem unlessStandby_awake (f : State → Answered) (s : State) (h : s.standby.phase = .awake) : unlessStandby f s = f s := by
  simp [unlessStandby, inStandby, h]

/-- In standby the command is answered BAD_STATE (R205). -/
theorem unlessStandby_asleep (f : State → Answered) (s : State) (h : s.standby.phase ≠ .awake) :
    unlessStandby f s = (s, refusal .badState) := by
  simp [unlessStandby, inStandby, h]

/-- A settled OK (R191). -/
theorem settle_ok (s : State) (data : List Byte) : settle (s, ok data) = replied .ok data s := rfl

/-- A settled refusal carries no data (R191). -/
theorem settle_refusal (s : State) (c : ReplyCode) : settle (s, refusal c) = replied c [] s := rfl

/-! ## Counters (0.6) -/

/-- A statistic never exceeds 65,535. -/
theorem bump_le (n c : Nat) : bump n c ≤ 65535 := Nat.min_le_left _ _

/-- A statistic below its top counts. -/
theorem bump_eq (n c : Nat) (h : c + n ≤ 65535) : bump n c = c + n := Nat.min_eq_right h

/-- A clamped value lies in its range. -/
theorem clampTo_mem (lo hi v : Nat) (h : lo ≤ hi) : lo ≤ clampTo lo hi v ∧ clampTo lo hi v ≤ hi := by
  unfold clampTo; omega

/-- A value of the range is kept. -/
theorem clampTo_eq (lo hi v : Nat) (h1 : lo ≤ v) (h2 : v ≤ hi) : clampTo lo hi v = v := by
  unfold clampTo; omega

/-! ## Notices (R198) -/

/-- A notice taken into the queue replaces the first entry of its kind and unit, or joins the tail when there is none. -/
theorem queueNotice_cases (u : NoticeUnit) (b : NoticeBody) (q : List Notice) :
    (∃ before n after, q = before ++ n :: after ∧ n.unit = u ∧ n.body.kind = b.kind ∧
        (∀ m ∈ before, ¬ (m.unit = u ∧ m.body.kind = b.kind)) ∧
        queueNotice u b q = before ++ { unit := u, body := b, count := min 255 (n.count + 1) } :: after) ∨
      ((∀ m ∈ q, ¬ (m.unit = u ∧ m.body.kind = b.kind)) ∧
        queueNotice u b q = q ++ [{ unit := u, body := b, count := 1 }]) := by
  induction q with
  | nil => exact .inr ⟨by simp, rfl⟩
  | cons m ms ih =>
    by_cases hm : m.unit = u ∧ m.body.kind = b.kind
    · exact .inl ⟨[], m, ms, rfl, hm.1, hm.2, by simp, by simp [queueNotice, hm]⟩
    · rcases ih with ⟨p, n, a, rfl, hu, hk, hp, hq⟩ | ⟨ha, hq⟩
      · refine .inl ⟨m :: p, n, a, rfl, hu, hk, ?_, by rw [queueNotice, if_neg hm, hq]; rfl⟩
        intro x hx; rcases List.mem_cons.1 hx with rfl | hx
        · exact hm
        · exact hp x hx
      · refine .inr ⟨?_, by rw [queueNotice, if_neg hm, hq]; rfl⟩
        intro x hx; rcases List.mem_cons.1 hx with rfl | hx
        · exact hm
        · exact ha x hx

/-- The queue after a notice that its mask lets in (R198, R199). -/
theorem raiseNotice_on (u : NoticeUnit) (b : NoticeBody) (s : State) (h : s.port.mask.getLsbD b.kind.position = true) :
    (raiseNotice u b s).port.queue = queueNotice u b s.port.queue := by
  simp [raiseNotice, h, onPort]

/-- A notice that its mask holds back changes nothing (R199). -/
theorem raiseNotice_off (u : NoticeUnit) (b : NoticeBody) (s : State) (h : s.port.mask.getLsbD b.kind.position = false) :
    raiseNotice u b s = s := by
  simp [raiseNotice, h]

/-- The attention line of a running part is low exactly while a notice waits (R201). -/
theorem attention_low_iff (s : State) (h : s.resetPin = .high) : attention s = .low ↔ s.port.queue ≠ [] := by
  unfold attention; rw [h]; cases s.port.queue <;> simp

/-- Two parts of one event: one after the other, but for the order of the notices they add and the free choices drawn (log entry
10). -/
theorem together_eq (f g : State → State) (s : State) :
    ∃ (q : List Notice) (n : Nat),
      together f g s = { g (f s) with port := { (g (f s)).port with queue := q }, drawn := n } := by
  unfold together
  dsimp only
  split
  · exact ⟨_, _, rfl⟩
  · exact ⟨(g (f s)).port.queue, (g (f s)).drawn, rfl⟩

/-- When one of two parts adds no notice there is nothing to choose. -/
theorem together_of_quiet (f g : State → State) (s : State)
    (h : (f s).port.queue.length ≤ s.port.queue.length ∨ (g (f s)).port.queue.length ≤ (f s).port.queue.length) :
    together f g s = g (f s) := by
  unfold together
  dsimp only
  rw [if_neg (by omega)]

/-! ## Zones, discs, records -/

/-- The zone of a deck has the deck as its source (R129). -/
theorem zoneOf_source (d : Deck) (s : State) (z : ZoneId) (h : zoneOf d s = some z) : (s.zone z).source = .deck d := by
  unfold zoneOf at h
  split at h
  · cases h; assumption
  · split at h
    · cases h; assumption
    · cases h

/-- A deck that is no zone's source has no zone. -/
theorem zoneOf_none (d : Deck) (s : State) : zoneOf d s = none ↔ s.zone1.source ≠ .deck d ∧ s.zone2.source ≠ .deck d := by
  unfold zoneOf
  by_cases h1 : s.zone1.source = .deck d <;> by_cases h2 : s.zone2.source = .deck d <;> simp [h1, h2]

/-- The usable catalogue (R5). -/
theorem usable_eq_some (l : Link) (c : Catalogue) : l.usable = some c ↔ l.disc = .usable c := by
  unfold Link.usable; cases l.disc <;> simp

/-- A record stands at a place exactly when address and segment are the place's. -/
theorem at_iff (p : Spot) (q : SlotRecord) : q.at_ p = true ↔ q.addr = p.addr ∧ q.seg = p.seg := by
  simp [SlotRecord.at_]

/-- A record that the ring is found to hold at a place is one of its records, and stands there. -/
theorem find_mem (r : Ring) (p : Spot) (q : SlotRecord) (h : r.find p = some q) :
    q ∈ r.records ∧ q.addr = p.addr ∧ q.seg = p.seg := by
  have := List.find?_some h
  exact ⟨List.mem_of_find?_eq_some h, (at_iff p q).1 this⟩

/-- The good depth is at most the depth (R66). -/
theorem goodDepth_le (r : Ring) : r.goodDepth ≤ r.depth := by
  unfold Ring.goodDepth Ring.depth
  exact (List.takeWhile_sublist _).length_le

/-- The records after a write: the new one, or one of the others with another fingerprint (R175). -/
theorem mem_placeRecord (r q : ResumeRecord) (table : List ResumeRecord) (h : q ∈ placeRecord r table) :
    q = r ∨ (q ∈ table ∧ q.fingerprint ≠ r.fingerprint) := by
  have h := List.mem_of_mem_take h
  rcases List.mem_cons.1 h with h | h
  · exact .inl h
  · have := List.mem_filter.1 h
    exact .inr ⟨this.1, by simpa using this.2⟩

/-- The resume table never grows beyond eight records (R175). -/
theorem placeRecord_length (r : ResumeRecord) (table : List ResumeRecord) : (placeRecord r table).length ≤ 8 := by
  unfold placeRecord; rw [List.length_take]; exact Nat.min_le_left _ _

/-! ## Fields laid out as bytes (R209) -/

/-- Fields laid out one after the other. -/
@[simp] theorem laidOut_nil : laidOut [] = [] := rfl

/-- The first field's bytes come first. -/
theorem laidOut_cons (f : Nat × Nat) (rest : List (Nat × Nat)) : laidOut (f :: rest) = laidOut [f] ++ laidOut rest := by
  simp [laidOut]

/-- Two runs of fields lie one after the other. -/
theorem laidOut_append (xs ys : List (Nat × Nat)) : laidOut (xs ++ ys) = laidOut xs ++ laidOut ys := by simp [laidOut]

/-- A field of one byte. -/
@[simp] theorem laidOut_one (v : Nat) : laidOut [(1, v)] = [byte v] := by simp [laidOut, byte, List.range_succ]

/-- A field of two bytes, the most significant first. -/
@[simp] theorem laidOut_two (v : Nat) : laidOut [(2, v)] = be2 v := by simp [laidOut, byte, be2, List.range_succ]

/-- A field of three bytes, the most significant first. -/
@[simp] theorem laidOut_three (v : Nat) : laidOut [(3, v)] = be3 v := by simp [laidOut, byte, be2, be3, List.range_succ]

/-- A field of four bytes, the most significant first. -/
@[simp] theorem laidOut_four (v : Nat) : laidOut [(4, v)] = be4 v := by simp [laidOut, byte, be2, be3, be4, List.range_succ]

/-- A flag byte carries its flags from bit 0 upward. -/
theorem flags_eq (l : List Bool) : flags l = byte (flagValue l) := by
  have : ∀ l : List Bool, l.foldr (fun b n => b.toNat + 2 * n) 0 = flagValue l := by
    intro l; induction l <;> simp_all [flagValue]
  simp [flags, this]

/-- A named value or none. -/
theorem named_eq {α : Type} (f : α → Nat) (o : Option α) : named f o = byte (orFF (o.map f)) := by cases o <;> rfl

/-- An address or none. -/
theorem addr3_eq (o : Option Nat) : addr3 o = be3 (orFFFFFF o) := by cases o <;> rfl

/-- A range or none. -/
theorem range6_eq (o : Option PlayRange) : range6 o = laidOut (rangeFields o) := by
  cases o <;> simp [range6, rangeFields, laidOut_cons _ [_], orFFFFFF]

/-! ## A deck link -/

/-- The tag of the outstanding command is current (R17). -/
theorem current_of_outstanding (l : Link) (o : Outstanding) (h : l.outstanding = some o) : l.current o.tag = some o := by
  simp [Link.current, h]

/-- A current tag is the outstanding command's (R17). -/
theorem current_eq_some (l : Link) (tag : Tag) (o : Outstanding) (h : l.current tag = some o) :
    l.outstanding = some o ∧ o.tag = tag := by
  unfold Link.current at h
  have := Option.filter_eq_some_iff.1 h
  exact ⟨this.1, by simpa using this.2⟩

/-- A new command takes the next tag and its acknowledge timer (R13, R15). -/
theorem hasSent_outstanding (c : DeckCommand) (l : Link) :
    (l.hasSent c).outstanding =
      some { command := c, tag := l.nextTag, resends := 0, limit := completionTime l.seekTime c, timer := .acknowledge } := rfl

/-- Sending STALL changes the link alone (R14, R23). -/
theorem send_stall (d : Deck) (who : Requester) (s : State) :
    send d { command := .stall, from_ := who, plan := none } s = onLink d (Link.hasSent .stall) s := by
  cases d <;> simp [send, sentEffect, Link.hasSent, onLink, onDeck, State.deck]

/-- Sending a SEEK without a plan changes the link alone (R14, R22). -/
theorem send_seek (d : Deck) (a : Nat) (who : Requester) (s : State) :
    send d { command := .seek a, from_ := who, plan := none } s =
      onLink d (fun l => { l.hasSent (.seek a) with
        state := .seeking, runTag := some l.nextTag, gapTimer := false, lastLanded := none,
        byDelivery := false }) s := by
  cases d <;> simp [send, sentEffect, Link.hasSent, onLink, onDeck, State.deck]

/-- Sending a mechanical command moves the deck to the command's state and announces it (R14, R35). -/
theorem send_fetchDisc (d : Deck) (slot : Nat) (who : Requester) (s : State) :
    send d { command := .fetchDisc slot, from_ := who, plan := none } s =
      raiseNotice (.deck d) (.deckState .loading none none none)
        (onLink d (fun l => { l.hasSent (.fetchDisc slot) with state := .loading, runTag := none, gapTimer := false }) s) := by
  cases d <;> simp [send, sentEffect, announce, Link.hasSent, onLink, onDeck, State.deck]

/-- A deck that enters FAULT loses its usable catalogue, which stays in the unit as an unusable one (R33 step 4). -/
theorem faulted_usable (c : Catalogue) : Disc.faulted (.usable c) = .unusable c := rfl

/-- No catalogue is usable in FAULT (R33 step 4). -/
theorem faulted_ne_usable (x : Disc) (c : Catalogue) : x.faulted ≠ .usable c := by cases x <;> simp [Disc.faulted]

/-- A LANDED on the run tag alone (R17, R22): recorded while the deck is STREAMING in a run that a delivery landed, else stale. -/
theorem landedReport_onRun (d : Deck) (tag : Tag) (a : Nat) (s : State) (h : (s.deck d).link.current tag = none) :
    landedReport d tag a s =
      if (s.deck d).link.runTag = some tag ∧ (s.deck d).link.state = .streaming ∧ (s.deck d).link.byDelivery = true then
        onLink d (fun l => { l with lastLanded := some a }) s
      else staleReport d s := by
  simp [landedReport, h]

/-- A LANDED for the outstanding SEEK lands it (R22). -/
theorem landedReport_ofSeek (d : Deck) (tag : Tag) (a target : Nat) (o : Outstanding) (s : State)
    (h : (s.deck d).link.current tag = some o) (hc : o.command = .seek target) : landedReport d tag a s = land d (some a) s := by
  simp [landedReport, h, hc]

/-- What FAULT does to the disc is what the statements say of it (R33 step 4). -/
theorem inFault_disc (cause : FaultCause) (l : Link) : (l.inFault cause).disc = l.disc.faulted := by
  cases h : l.disc <;> simp [Link.inFault, Disc.faulted, h]

/-- A link in FAULT has no usable catalogue, no command and no run (R33). -/
theorem inFault_faulted (cause : FaultCause) (l : Link) : (l.inFault cause).faulted cause := by
  refine ⟨rfl, rfl, rfl, rfl, rfl, rfl, rfl, ?_⟩
  unfold Link.usable; rw [inFault_disc]; cases l.disc <;> rfl

/-- LINK_RESET is sent in every case and nothing waits (R20, R34). -/
theorem sendLinkReset_eq (d : Deck) (s : State) :
    sendLinkReset d s = onLink d (fun l => { l.hasSent .linkReset with waiting := none }) s := by
  cases d <;> simp [sendLinkReset, send, sentEffect, Link.hasSent, onLink, onDeck, State.deck]

/-- A release leaves every other block, the ring and the planner as they were (R23, R39). -/
theorem release_local (d : Deck) (s : State) :
    ∃ u : DeckUnit, release d s = onDeck d (fun _ => u) s ∧ u.ring = (s.deck d).ring ∧ u.plan = (s.deck d).plan ∧
      u.snapshot = (s.deck d).snapshot ∧ u.intake.ctx.status = .closed ∧ u.intake.stats = (s.deck d).intake.stats ∧
      u.intake.abandoned = (s.deck d).intake.abandoned ∧ u.intake.gapLimit = (s.deck d).intake.gapLimit ∧
      u.link.waiting = (s.deck d).link.waiting ∧ u.link.disc = (s.deck d).link.disc ∧
      u.link.seekTime = (s.deck d).link.seekTime ∧ u.link.lastSlot = (s.deck d).link.lastSlot := by
  cases d <;> simp only [release, closeRun, send_stall] <;> split <;> (try split) <;>
    exact ⟨_, rfl, by simp [State.deck, onLink, onDeck, Link.hasSent]⟩

/-- What a release does to the link (R23): a deck with a run becomes READY and loses the run tag, with STALL sent where it moves
(`Link.released`); any other deck's link is as it was. -/
theorem release_link (d : Deck) (s : State) :
    ((release d s).deck d).link =
      if (s.deck d).link.state ∈ [.seeking, .streaming, .stalled] then
        { (s.deck d).link.released with state := .ready, runTag := none, gapTimer := false }
      else (s.deck d).link := by
  unfold release Link.released closeRun
  simp only [send_stall]
  cases h : (s.deck d).link.state <;> cases hp : (s.deck d).link.proceeding <;> cases d <;>
    simp_all [State.deck, onLink, onDeck, onCtx, onIntake, Link.hasSent]

/-- A release of a deck that does not move sends nothing (R23). -/
theorem release_ready (d : Deck) (s : State) (h : (s.deck d).link.state = .ready) : release d s = closeRun d s := by
  simp [release, h]

/-- A flush is a change of its deck, which it leaves empty (R38, R79, R106), followed by the zone's part (R139). -/
theorem flush_local (d : Deck) (s : State) :
    ∃ u : DeckUnit, flush d s = zoneFlushed d (onDeck d (fun _ => u) s) ∧ u.emptied ∧ u.ring.cap = (s.deck d).ring.cap ∧
      u.ring.high = (s.deck d).ring.high ∧ u.ring.low = (s.deck d).ring.low ∧ u.link.waiting = (s.deck d).link.waiting ∧
      u.link.disc = (s.deck d).link.disc ∧ u.link.seekTime = (s.deck d).link.seekTime ∧
      u.link.lastSlot = (s.deck d).link.lastSlot := by
  obtain ⟨u, hu, hr, hp, -, hc, -, ha, -, hw, hd, hst, hls⟩ :=
    release_local d (onPlan d (fun p => { p with entries := [] }) (intakeFlushed d (onRing d Ring.flushed s)))
  unfold flush plannerFlushed cancelJob
  rw [hu]
  cases d <;>
    refine ⟨_, rfl, ?_, ?_, ?_, ?_, ?_, ?_, ?_, ?_⟩ <;>
      simp_all [DeckUnit.emptied, State.deck, onPlan, onDeck, onRing, intakeFlushed, closeRun, onCtx, onIntake, Ring.flushed]

/-- A flush empties its deck (R38, R79, R106). -/
theorem flush_emptied (d : Deck) (s : State) : ((flush d s).deck d).emptied := by
  obtain ⟨u, hu, he, -⟩ := flush_local d s
  have : (flush d s).deck d = u := by rw [hu]; unfold zoneFlushed; split <;> simp
  rw [this]; exact he

/-- A flush touches its deck, and of the zone that plays from it the block in hand and the carry alone (R79, R139). -/
theorem flush_elsewhere (d : Deck) (s : State) :
    (flush d s).deck (otherDeck d) = s.deck (otherDeck d) ∧ (flush d s).tray = s.tray ∧ (flush d s).port = s.port ∧
      SamePart s (flush d s) ∧
      ∀ z, (flush d s).zone z = s.zone z ∨
        (flush d s).zone z = { s.zone z with block := none, runLeft := none, runRight := none, carry := ⟨0, 0⟩ } := by
  obtain ⟨u, hu, -⟩ := flush_local d s
  rw [hu]
  unfold zoneFlushed
  split
  · rename_i y _
    refine ⟨by simp, by simp, by simp, ⟨by simp, by simp, by simp, by simp, by simp⟩, fun z => ?_⟩
    cases y <;> cases z <;> cases d <;> simp [State.zone, onZone, Stereo.zero, onDeck]
  · refine ⟨by simp, by simp, by simp, ⟨by simp, by simp, by simp, by simp, by simp⟩, fun z => .inl ?_⟩
    cases z <;> cases d <;> simp [State.zone, onDeck]

/-! ## What a step is -/

/-- A step on an empty queue idles (log entry 1). -/
theorem step_empty (s : State) (h : s.pending = []) : step s = .next s := by simp [step, h]

/-- No word spells a command of this part: the table gives its rows no bits. -/
theorem withFetchWord_eq (s : State) (nbits w : Nat) : s.withFetchWord nbits w = s := rfl

end Sys2Proof.Machine
end

