-- ==== Sys2Proof/Laws/PerInstr.lean ====
section
/-!
SUPPORT. Laws stated for each command by its constructor: its encoding fits the frame of its link.
-/

namespace Sys2Proof.Laws

open Sys2Proof.Machine

/-- A host command's payload fits a host frame (R186), and a report's content a control frame (R214). -/
def Fits.Statement (i : Instr) : Prop :=
  (∀ kind payload, encodeCommand i = some (kind, payload) → payload.length ≤ 64) ∧
    ∀ kind tag content, encodeReport i = some (kind, tag, content) → i.wellFormed = true → content.length ≤ 499

/-- A row that no frame spells fits every frame. -/
theorem fits_of_none (i : Instr) (h : encodeCommand i = none) (g : encodeReport i = none) : Fits.Statement i :=
  ⟨fun _ _ e => (by rw [h] at e; cases e), fun _ _ _ e => (by rw [g] at e; cases e)⟩

/-- A host command with a short payload fits. -/
theorem fits_of_command (i : Instr) (k : Byte) (p : List Byte) (h : encodeCommand i = some (k, p)) (hp : p.length ≤ 64)
    (g : encodeReport i = none) : Fits.Statement i :=
  ⟨fun _ _ e => (by rw [h] at e; cases e; exact hp), fun _ _ _ e => (by rw [g] at e; cases e)⟩

/-- A report with a short content fits. -/
theorem fits_of_report (i : Instr) (k t : Byte) (c : List Byte) (h : encodeCommand i = none) (g : encodeReport i = some (k, t, c))
    (hc : c.length ≤ 499) : Fits.Statement i :=
  ⟨fun _ _ e => (by rw [h] at e; cases e), fun _ _ _ e _ => (by rw [g] at e; cases e; exact hc)⟩

theorem Fits.powerOnReset (pin : Pin) : Fits.Statement (.powerOnReset pin) := fits_of_none _ rfl rfl
theorem Fits.softReset : Fits.Statement .softReset := fits_of_none _ rfl rfl
theorem Fits.hostFrameComplete (b : Byte) : Fits.Statement (.hostFrameComplete b) := fits_of_none _ rfl rfl
theorem Fits.interByteTimerExpiry : Fits.Statement .interByteTimerExpiry := fits_of_none _ rfl rfl
theorem Fits.replySent : Fits.Statement .replySent := fits_of_none _ rfl rfl
theorem Fits.ident : Fits.Statement .ident := fits_of_command _ _ _ rfl (Nat.le_of_ble_eq_true rfl) rfl
theorem Fits.resetPart : Fits.Statement .resetPart := fits_of_command _ _ _ rfl (Nat.le_of_ble_eq_true rfl) rfl
theorem Fits.takeNotices : Fits.Statement .takeNotices := fits_of_command _ _ _ rfl (Nat.le_of_ble_eq_true rfl) rfl
theorem Fits.setNoticeMask (mask : BitVec 16) : Fits.Statement (.setNoticeMask mask) :=
  fits_of_command _ _ _ rfl (Nat.le_of_ble_eq_true rfl) rfl
theorem Fits.setPool (capA capB : BitVec 16) : Fits.Statement (.setPool capA capB) :=
  fits_of_command _ _ _ rfl (Nat.le_of_ble_eq_true rfl) rfl
theorem Fits.standby (settings : Option (Byte × BitVec 16)) : Fits.Statement (.standby settings) := by
  cases settings <;> exact fits_of_command _ _ _ rfl (Nat.le_of_ble_eq_true rfl) rfl
theorem Fits.wake : Fits.Statement .wake := fits_of_command _ _ _ rfl (Nat.le_of_ble_eq_true rfl) rfl
theorem Fits.load (deck slot : Byte) : Fits.Statement (.load deck slot) := fits_of_command _ _ _ rfl (Nat.le_of_ble_eq_true rfl) rfl
theorem Fits.unload (deck : Byte) : Fits.Statement (.unload deck) := fits_of_command _ _ _ rfl (Nat.le_of_ble_eq_true rfl) rfl
theorem Fits.resetDeck (deck : Byte) : Fits.Statement (.resetDeck deck) := fits_of_command _ _ _ rfl (Nat.le_of_ble_eq_true rfl) rfl
theorem Fits.setDeck (deck : Byte) (v : DeckArgs) : Fits.Statement (.setDeck deck v) :=
  fits_of_command _ _ _ rfl (Nat.le_of_ble_eq_true rfl) rfl
theorem Fits.queryDeck (deck control : Byte) : Fits.Statement (.queryDeck deck control) :=
  fits_of_command _ _ _ rfl (Nat.le_of_ble_eq_true rfl) rfl
theorem Fits.queryDisc (deck first : Byte) : Fits.Statement (.queryDisc deck first) :=
  fits_of_command _ _ _ rfl (Nat.le_of_ble_eq_true rfl) rfl
theorem Fits.setZone (zone : Byte) (v : ZoneArgs) : Fits.Statement (.setZone zone v) :=
  fits_of_command _ _ _ rfl (Nat.le_of_ble_eq_true rfl) rfl
theorem Fits.play (zone : Byte) (first last : BitVec 24) : Fits.Statement (.play zone first last) :=
  fits_of_command _ _ _ rfl (Nat.le_of_ble_eq_true rfl) rfl
theorem Fits.cue (zone : Byte) (range : Option (BitVec 24 × BitVec 24)) : Fits.Statement (.cue zone range) := by
  cases range <;> exact fits_of_command _ _ _ rfl (Nat.le_of_ble_eq_true rfl) rfl
theorem Fits.pause (zone : Byte) : Fits.Statement (.pause zone) := fits_of_command _ _ _ rfl (Nat.le_of_ble_eq_true rfl) rfl
theorem Fits.unpause (zone : Byte) : Fits.Statement (.unpause zone) := fits_of_command _ _ _ rfl (Nat.le_of_ble_eq_true rfl) rfl
theorem Fits.stop (zone : Byte) : Fits.Statement (.stop zone) := fits_of_command _ _ _ rfl (Nat.le_of_ble_eq_true rfl) rfl
theorem Fits.setLevel (zone : Byte) (level : BitVec 16) : Fits.Statement (.setLevel zone level) :=
  fits_of_command _ _ _ rfl (Nat.le_of_ble_eq_true rfl) rfl
theorem Fits.setMark (zone : Byte) (addr : Option (BitVec 24)) : Fits.Statement (.setMark zone addr) := by
  cases addr <;> exact fits_of_command _ _ _ rfl (Nat.le_of_ble_eq_true rfl) rfl
theorem Fits.queryZone (zone control : Byte) : Fits.Statement (.queryZone zone control) :=
  fits_of_command _ _ _ rfl (Nat.le_of_ble_eq_true rfl) rfl
theorem Fits.setShock (v : ShockArgs) : Fits.Statement (.setShock v) := fits_of_command _ _ _ rfl (Nat.le_of_ble_eq_true rfl) rfl
theorem Fits.shockReport : Fits.Statement .shockReport := fits_of_command _ _ _ rfl (Nat.le_of_ble_eq_true rfl) rfl
theorem Fits.clearShock : Fits.Statement .clearShock := fits_of_command _ _ _ rfl (Nat.le_of_ble_eq_true rfl) rfl
theorem Fits.setResume (autoResume autoReload : Byte) (rewind : BitVec 16) (debounce : Byte) : Fits.Statement (.setResume autoResume autoReload rewind debounce) :=
  fits_of_command _ _ _ rfl (Nat.le_of_ble_eq_true rfl) rfl
theorem Fits.queryResume (position : Byte) : Fits.Statement (.queryResume position) :=
  fits_of_command _ _ _ rfl (Nat.le_of_ble_eq_true rfl) rfl
theorem Fits.resume (zone : Byte) : Fits.Statement (.resume zone) := fits_of_command _ _ _ rfl (Nat.le_of_ble_eq_true rfl) rfl
theorem Fits.forget (fingerprint : Option (BitVec 32)) : Fits.Statement (.forget fingerprint) := by
  cases fingerprint <;> exact fits_of_command _ _ _ rfl (Nat.le_of_ble_eq_true rfl) rfl
theorem Fits.taken (d : Deck) (tag : Tag) : Fits.Statement (.taken d tag) :=
  fits_of_report _ _ _ _ rfl rfl (Nat.le_of_ble_eq_true rfl)
theorem Fits.declined (d : Deck) (tag : Tag) (reason : Byte) : Fits.Statement (.declined d tag reason) :=
  fits_of_report _ _ _ _ rfl rfl (Nat.le_of_ble_eq_true rfl)
theorem Fits.landed (d : Deck) (tag : Tag) (addr : BitVec 24) : Fits.Statement (.landed d tag addr) :=
  fits_of_report _ _ _ _ rfl rfl (Nat.le_of_ble_eq_true rfl)
theorem Fits.seekMiss (d : Deck) (tag : Tag) : Fits.Statement (.seekMiss d tag) :=
  fits_of_report _ _ _ _ rfl rfl (Nat.le_of_ble_eq_true rfl)
theorem Fits.trackSlip (d : Deck) (tag : Tag) (addr : BitVec 24) : Fits.Statement (.trackSlip d tag addr) :=
  fits_of_report _ _ _ _ rfl rfl (Nat.le_of_ble_eq_true rfl)
theorem Fits.discIn (d : Deck) (tag : Tag) : Fits.Statement (.discIn d tag) :=
  fits_of_report _ _ _ _ rfl rfl (Nat.le_of_ble_eq_true rfl)
theorem Fits.slotEmpty (d : Deck) (tag : Tag) : Fits.Statement (.slotEmpty d tag) :=
  fits_of_report _ _ _ _ rfl rfl (Nat.le_of_ble_eq_true rfl)
theorem Fits.index (d : Deck) (tag : Tag) (count : Byte) (leadOut : BitVec 24) (entries : List TrackField) (ragged : Bool) : Fits.Statement (.index d tag count leadOut entries ragged) := by
  refine ⟨fun _ _ e => (by cases e), fun _ _ _ e w => ?_⟩
  have w : entries.length ≤ 99 := of_decide_eq_true w
  cases ragged with
  | true => cases e
  | false =>
    cases e
    have hl : ∀ es : List TrackField, (es.flatMap TrackField.bytes).length = 5 * es.length := by
      intro es
      induction es with
      | nil => rfl
      | cons x xs ih => simp only [List.flatMap_cons, List.length_append, ih, List.length_cons, TrackField.bytes, bytes3]; simp; omega
    simp only [List.length_cons, List.length_append, hl, bytes3, List.length_nil]
    omega
theorem Fits.stowed (d : Deck) (tag : Tag) : Fits.Statement (.stowed d tag) :=
  fits_of_report _ _ _ _ rfl rfl (Nat.le_of_ble_eq_true rfl)
theorem Fits.parked (d : Deck) (tag : Tag) : Fits.Statement (.parked d tag) :=
  fits_of_report _ _ _ _ rfl rfl (Nat.le_of_ble_eq_true rfl)
theorem Fits.deckTrouble (d : Deck) (code : Byte) : Fits.Statement (.deckTrouble d code) :=
  fits_of_report _ _ _ _ rfl rfl (Nat.le_of_ble_eq_true rfl)
theorem Fits.controlFrameDiscard (d : Deck) : Fits.Statement (.controlFrameDiscard d) := fits_of_none _ rfl rfl
theorem Fits.deckLinkByteTimeout (d : Deck) (ch : Channel) : Fits.Statement (.deckLinkByteTimeout d ch) := fits_of_none _ rfl rfl
theorem Fits.delivery (d : Deck) (tag : Tag) (v : DeliveryArgs) : Fits.Statement (.delivery d tag v) := fits_of_none _ rfl rfl
theorem Fits.ackTimerExpiry (d : Deck) : Fits.Statement (.ackTimerExpiry d) := fits_of_none _ rfl rfl
theorem Fits.completionTimerExpiry (d : Deck) : Fits.Statement (.completionTimerExpiry d) := fits_of_none _ rfl rfl
theorem Fits.deliveryGapTimerExpiry (d : Deck) : Fits.Statement (.deliveryGapTimerExpiry d) := fits_of_none _ rfl rfl
theorem Fits.backoffTimerExpiry (d : Deck) : Fits.Statement (.backoffTimerExpiry d) := fits_of_none _ rfl rfl
theorem Fits.frameEvent : Fits.Statement .frameEvent := fits_of_none _ rfl rfl
theorem Fits.blockBoundary : Fits.Statement .blockBoundary := fits_of_none _ rfl rfl
theorem Fits.rampStep (z : ZoneId) : Fits.Statement (.rampStep z) := fits_of_none _ rfl rfl
theorem Fits.concealClear (z : ZoneId) : Fits.Statement (.concealClear z) := fits_of_none _ rfl rfl
theorem Fits.shockConversionComplete (v : BitVec 10) : Fits.Statement (.shockConversionComplete v) := fits_of_none _ rfl rfl
theorem Fits.guardTimerExpiry : Fits.Statement .guardTimerExpiry := fits_of_none _ rfl rfl
theorem Fits.trayLineChange (d : Deck) (level : Level) : Fits.Statement (.trayLineChange d level) := fits_of_none _ rfl rfl
theorem Fits.trayDebounceExpiry (d : Deck) : Fits.Statement (.trayDebounceExpiry d) := fits_of_none _ rfl rfl
theorem Fits.wakeTimerExpiry : Fits.Statement .wakeTimerExpiry := fits_of_none _ rfl rfl
theorem Fits.standbyEntryComplete : Fits.Statement .standbyEntryComplete := fits_of_none _ rfl rfl
theorem Fits.hostByteReceived (b : Byte) : Fits.Statement (.hostByteReceived b) := fits_of_none _ rfl rfl
theorem Fits.deckLinkByteReceived (d : Deck) (ch : Channel) (b : Byte) : Fits.Statement (.deckLinkByteReceived d ch b) :=
  fits_of_none _ rfl rfl

end Sys2Proof.Laws
end

