-- ==== Sys2Proof/Tests/Slice0.lean ====
section
/-!
SUPPORT. Tests: the checks of WellFormed, frames read from the spec's layouts, the worked figures of the spec's chapters, and for each
statement with hypotheses a state and operands that meet them.
-/

namespace Sys2Proof.Tests

open Sys2Proof.Machine

/-! ## WellFormed and the table of bits -/

/-- A block of one value with no doubt mark. -/
def plain (v : Sample) : Block := { samples := List.replicate 1176 v, marks := List.replicate 1176 false }

/-- A good delivery of that block. -/
def goodAt (a : Nat) (v : Sample) : DeliveryArgs :=
  { good := true, valid := true, addr := BitVec.ofNat 24 a, samples := (plain v).samples, marks := (plain v).marks }

/-- A delivery without its block. -/
def noBlock : DeliveryArgs := { good := true, valid := true, addr := 0, samples := [], marks := [] }

theorem test_delivery_of_one_block : (Instr.delivery .a 1 (goodAt 15000 7)).wellFormed = true := by decide +kernel

theorem test_delivery_without_samples_refused :
    (Instr.delivery .a 1 { goodAt 15000 7 with samples := [7] }).wellFormed = false := by decide +kernel

theorem test_delivery_without_marks_refused :
    (Instr.delivery .a 1 { goodAt 15000 7 with marks := [] }).wellFormed = false := by decide +kernel

theorem test_index_of_100_entries_refused :
    (Instr.index .a 1 100 51900 (List.replicate 100 ⟨1, 0, 0⟩) false).wellFormed = false := by decide +kernel

theorem test_no_word_spells_a_command : decodeTableWord 8 0x01 = none := rfl

/-! ## Frames (chapter 12) -/

theorem test_decode_play : decodeCommand 0x0F#8 [1#8, 0#8, 0x3A#8, 0x98#8, 0#8, 0x75#8, 0x30#8] = .command (.play 1 15000 30000) := by
  decide

theorem test_decode_set_pool : decodeCommand 0x05#8 [0x03#8, 0xE8#8, 0x01#8, 0xF4#8] = .command (.setPool 1000 500) := by decide

theorem test_decode_cue_cancel : decodeCommand 0x10#8 [2#8] = .command (.cue 2 none) := by decide

theorem test_decode_landed :
    decodeReport .b 0x02#8 0x05#8 [0#8, 0x3A#8, 0x97#8] = some (.landed .b 5 14999) := by decide

theorem test_decode_index :
    decodeReport .a 0x06#8 0x02#8 [1#8, 0#8, 0xCA#8, 0xBC#8, 1#8, 0#8, 0#8, 0#8, 0#8] =
      some (.index .a 2 1 51900 [⟨1, 0, 0⟩] false) := by decide

theorem test_seek_frame_bytes :
    SentCommand.frame { command := .seek 14999, tag := 5 } =
      [0xC3#8, 0#8, 5#8, 0#8, 5#8, 0#8, 0x3A#8, 0x97#8, 0x25#8] := by decide

theorem test_ident_frame_bytes : hostFrameBytes 0x01#8 0x10#8 [] = [0xA5#8, 0x02#8, 0x01#8, 0x10#8, 0xED#8] := by decide

/-! ## Discs (chapter 1) -/

/-- The three-track disc of section 1.5. -/
def disc3 : List TrackField := [⟨1, 0, 0⟩, ⟨2, 15000, 0⟩, ⟨3, 32250, 0⟩]

/-- The disc with a lead-in and a data track of section 1.5. -/
def disc4 : List TrackField := [⟨1, 150, 0⟩, ⟨2, 15000, 0⟩, ⟨3, 32250, 1⟩, ⟨4, 40000, 0⟩]

theorem test_fingerprint_disc3 : (catalogueOf 51900 disc3).fingerprint = 5316753#32 := by decide

theorem test_fingerprint_disc4 : (catalogueOf 51900 disc4).fingerprint = 5476904#32 := by decide

theorem test_valid_discs : validIndex 3 51900 disc3 false = true ∧ validIndex 4 51900 disc4 false = true := by decide

theorem test_rejected_indexes :
    validIndex 3 51900 [⟨1, 0, 0⟩, ⟨2, 15000, 0⟩] false = false ∧
      validIndex 2 51900 [⟨1, 15000, 0⟩, ⟨2, 15000, 0⟩] false = false ∧
      validIndex 1 51900 [⟨1, 0, 1⟩] false = false ∧ validIndex 3 450001 disc3 false = false := by decide

theorem test_ranges_refused :
    let c := some (catalogueOf 51900 disc4)
    rangeCheck c 51900 51950 = .refused .badArg ∧ rangeCheck c 100 5000 = .refused .badArg ∧
      rangeCheck c 33000 34000 = .refused .badArg ∧ rangeCheck c 41000 40500 = .refused .badArg := by decide

theorem test_ranges_accepted :
    let c := some (catalogueOf 51900 disc4)
    rangeCheck c 1000 20000 = .accepted ⟨1000, 20000⟩ false ∧ rangeCheck c 45000 45000 = .accepted ⟨45000, 45000⟩ false ∧
      rangeCheck c 20000 35000 = .accepted ⟨20000, 32249⟩ true ∧ rangeCheck c 41000 60000 = .accepted ⟨41000, 51899⟩ true ∧
      rangeCheck c 20000 16777215 = .accepted ⟨20000, 32249⟩ true ∧ rangeCheck c 150 14999 = .accepted ⟨150, 14999⟩ false := by
  decide

/-! ## Slot Pool (R61, R74) -/

theorem test_adjusted_capacities :
    [1000, 500, 50, 1440, 0, 1536, 800, 1530, 10].map adjustCapacity = [992, 480, 96, 1440, 0, 1536, 800, 1504, 96] := by decide

theorem test_default_marks :
    [96, 160, 1440].map (fun c => (defaultHigh c, defaultLow c)) = [(80, 1), (144, 32), (1424, 1312)] := by decide

/-! ## Concealment, ramp and gain (chapter 7) -/

theorem test_interpolation_figures :
    [1, 2, 3].map (interpolate 1000 (-200) 3) = [700, 400, 100] ∧ [1, 2].map (interpolate 10 21 2) = [14, 17] ∧
      interpolate 0 3 1 1 = 2 ∧ interpolate 0 (-3) 1 1 = -2 ∧ interpolate 10 21 3 2 = 16 ∧
      interpolate (-32768) 32767 1 1 = 0 := by decide

theorem test_gain_figures :
    (output 20000 49152).toInt = 30000 ∧ (output 25000 49152).toInt = 32767 ∧ clampsAt 25000 49152 = true ∧
      (output (-30000) 49152).toInt = -32768 ∧ (output 1001 30000).toInt = 916 ∧ (output (-12345) 16384).toInt = -6173 ∧
      (output 10000 (40000 * 1000 / 32768)).toInt = 372 ∧ (output 32767 65535).toInt = 32767 := by decide

theorem test_fast_fall_figures :
    [32768, 28672, 24576, 20480, 16384, 12288, 8192, 4096].map (fun r => moveToward r 0 4096) =
      [28672, 24576, 20480, 16384, 12288, 8192, 4096, 0] := by decide

theorem test_last_fast_step : moveToward 896 0 4096 = 0 ∧ moveToward 32000 32768 1000 = 32768 := by decide

/-! ## States -/

/-- The catalogue of the three-track disc. -/
def cat3 : Catalogue := catalogueOf 51900 disc3

/-- Deck A is READY with the three-track disc. -/
def ready : State := onLink .a (fun l => { l with state := .ready, outstanding := none, disc := .usable cat3 }) State.reset

/-- Zone 1 plays 15,000 to 30,000 from deck A, which streams with run tag 1; the next block expected is 15,001. -/
def streaming : State :=
  onZone .one (fun n =>
      { n with state := .playing, range := some ⟨15000, 30000⟩, position := some 15000, ramp := 32768, blockPhase := 5,
               block := some ⟨15000, false, .good, plain 7⟩ })
    (onPlan .a (fun p => { p with job := .fetch, phase := .run, target := some ⟨15001, false⟩ })
      (onCtx .a (fun c => { c with status := .opened, runTag := 1, job := .fetch, target := 15001, lastPlaced := some 15000 })
        (onRing .a (fun r => { r with phase := .current, fetchAddr := some 15001, fetchEnd := some 30000 })
          (onLink .a (fun l => { l with state := .streaming, runTag := some 1, gapTimer := true }) ready))))

/-- A mirror of zone 1, and zone 1 itself, PLAYING with their ramps at 0. -/
def mirrored (one two : ZoneState) : State :=
  { streaming with
    zone1 := { streaming.zone1 with state := one, ramp := 0 }, zone2 := { streaming.zone2 with source := .mirror, state := two } }

/-- Deck A with a command outstanding and nothing waiting. -/
def sent (c : DeckCommand) (t : CommandTimer) (n : Nat) (s : State) : State :=
  onLink .a (fun l => { l with outstanding := some { command := c, tag := 3, resends := n, limit := 0, timer := t } }) s

/-- The two-block edge of a ring at a block boundary of a playing zone. -/
def atBoundary : State :=
  onZone .two (fun n => { n with blockPhase := 0 })
    (onZone .one (fun n => { n with blockPhase := 0 })
      (onRing .a (fun r => { r with records := [⟨15001, false, .good, 0, plain 9⟩], fetchAddr := some 15002 }) streaming))

/-- Zone 1 in the middle of a frame event, with a cause set and a ramp. -/
def fading (c : Causes) (r : Nat) : State :=
  onZone .one (fun n => { n with causes := c, ramp := r, rampCount := 3, stopReason := .host }) { streaming with stage := .concealed }

/-- A resume record of the three-track disc. -/
def saved : ResumeRecord :=
  { fingerprint := cat3.fingerprint, deck := .a, zone := .one, range := ⟨15000, 30000⟩, position := 16000, cue := none, reason := .tray }

/-- The part in standby with both lines recorded closed and deck A PARKED. -/
def asleep : State :=
  { onLink .a (fun l => { l with state := .parked }) ready with
    standby := { phase := .standby, wakeTimer := some 500, recordedA := some .closed, recordedB := some .closed, wakeOnTray := false,
                 wakePeriod := 500 } }

/-! ## One step of some commands -/

theorem test_step_ident :
    (match step { State.reset with pending := [.ident] } with
      | .next t => t.port.reply == some { code := .ok, data := [0x7A, 0x0A, 0x50, 1, 6, 0] } && t.pending.isEmpty
      | _ => false) = true := by decide +kernel

theorem test_play_sends_seek :
    (match exec (.play 1 15000 60000) ready with
      | .next t => (t.deckA.link.outstanding.map fun o => (o.command, o.tag)) == some (.seek 15000, 1) &&
          t.zone1.state == .priming && t.zone1.range == some ⟨15000, 51899⟩ && t.deckA.link.state == .seeking
      | _ => false) = true := by decide +kernel

theorem test_delivery_joins :
    (match exec (.delivery .a 1 (goodAt 15001 9)) streaming with
      | .next t => (t.deckA.ring.records.map (·.addr)) == [15001] && t.deckA.ring.fetchAddr == some 15002
      | _ => false) = true := by decide +kernel

theorem test_delivery_without_block_faults : exec (.delivery .a 1 noBlock) streaming = .fault .illFormedCommand := rfl

theorem test_boundary_takes :
    (match exec .blockBoundary atBoundary with
      | .next t => t.zone1.position == some 15001 && t.deckA.ring.records.isEmpty
      | _ => false) = true := by decide +kernel

theorem test_frame_emits :
    (match exec .frameEvent streaming with
      | .next t => t.zone1.emitted == ⟨7, 7⟩ && t.zone1.blockPhase == 6 && t.zone2.emitted == ⟨0, 0⟩
      | _ => false) = true := by decide +kernel

/-- R33 step 4: the usable catalogue becomes unusable. -/
theorem test_fault_makes_the_catalogue_unusable :
    (match exec (.deckTrouble .a 9) ready with
      | .next t => t.deckA.link.state == .fault && t.deckA.link.disc == .unusable cat3 && t.deckA.link.trouble == some 9
      | _ => false) = true := by decide +kernel

/-- R194: PAUSE of both zones with zone 2 a mirror, both ramps at 0. -/
theorem test_pause_both_with_mirror :
    (match exec (.pause 3) (mirrored .playing .playing) with
      | .next t => t.zone1.state == .paused && t.zone2.state == .paused && t.zone2.causes.pause
      | _ => false) = true := by decide +kernel

/-- R17, R22: LANDED after a delivery landed the run is recorded; after a LANDED did, it is counted stale. -/
theorem test_landed_on_the_run_tag :
    (match exec (.landed .a 1 15000) (onLink .a (fun l => { l with byDelivery := true }) streaming) with
      | .next t => t.deckA.link.lastLanded == some 15000 && t.deckA.link.stales == 0
      | _ => false) = true ∧
    (match exec (.landed .a 1 15000) streaming with
      | .next t => t.deckA.link.lastLanded == none && t.deckA.link.stales == 1
      | _ => false) = true := by decide +kernel

/-- R113, R177: a ramp that reaches 0 with STOP ends the zone, flushes its ring and hands its stop note over. -/
theorem test_ramp_reaches_0_with_stop :
    (match exec (.rampStep .one) (fading { Causes.empty with stop := true } 100) with
      | .next t => t.zone1.state == .stopped && t.deckA.ring.flushes == 1 && (t.tray.noteOne.map (·.position)) == some 15000
      | _ => false) = true := by decide +kernel

theorem test_conversion_sets_flag :
    (match exec (.shockConversionComplete 352) { State.reset with shock := { State.reset.shock with enable := true, converting := true } } with
      | .next t => t.shock.flag && t.shock.last == 160 && t.shock.guard == some 1500
      | _ => false) = true := by decide +kernel

/-! ## Witnesses: a state and operands that meet a statement's hypotheses -/

theorem witness_StepRunsFrontCommand :
    ({ State.reset with pending := [.ident] } : State).pending = .ident :: [] ∧ State.reset.pending = [] := ⟨rfl, rfl⟩

theorem witness_EveryCommandAnswersNext :
    Instr.ident.wellFormed = true ∧ noBlock.wellFormed = false ∧
      ({ State.reset with resetPin := .low } : State).resetPin = .low ∧ ∀ p, Instr.ident ≠ .powerOnReset p :=
  ⟨rfl, rfl, rfl, by simp⟩

theorem witness_CommandsKeepTheQueue :
    exec .clearShock asleep = .next (replied .badState [] asleep) := rfl

theorem witness_ResetsStartAfresh : Up ready := by decide

theorem witness_HostCommandsRoundTrip :
    encodeCommand (.load 1 6) = some (0x08#8, [1#8, 6#8]) ∧ decodeCommand 0x08#8 [1#8, 6#8] = .command (.load 1 6) := by decide

theorem witness_TransportReportsRoundTrip :
    encodeReport (.declined .b 15 7) = some (0x01#8, 0x0F#8, [7#8]) ∧ linkDeck (.declined .b 15 7) = some .b := by decide

theorem witness_ReportFrameBytesActAsTheReport :
    encodeReport (.taken .a 0) = some (0x00#8, 0x00#8, []) ∧ linkDeck (.taken .a 0) = some .a ∧
      (Instr.taken .a 0).wellFormed = true ∧ Settled State.reset ∧ State.reset.deckA.link.controlIn = none := by decide

theorem witness_HostFrameBytesAreAnswered :
    encodeCommand .ident = some (0x01#8, []) ∧ Up State.reset ∧ State.reset.port.receiver = .hunting ∧
      State.reset.port.buffer = [] ∧ State.reset.port.inHand = false ∧ State.reset.port.transmitter = none ∧
      State.reset.port.resetDue = false := by decide

theorem witness_StepKeepsNoticeQueue : QueueForm State.reset.port.queue ∧ step State.reset = .next State.reset := by
  refine ⟨by decide, rfl⟩

theorem witness_StepKeepsResumeTable :
    TableForm [saved] ∧ [saved] = [] ++ saved :: [] ∧ saved.fingerprint = { saved with position := 9 }.fingerprint ∧
      ∀ q ∈ [saved], q.fingerprint ≠ { saved with fingerprint := 1 }.fingerprint := by decide

theorem witness_StepKeepsSlotPool : PoolForm atBoundary ∧ step atBoundary = .next atBoundary := ⟨by decide, rfl⟩

theorem portForm_of_hunting (p : Port) (h : p.receiver = .hunting) (hb : p.buffer = []) (hi : p.inHand = false)
    (ht : p.transmitter = none) : PortForm p := by
  refine ⟨by simp [hb], by simp [hi, ht], by simp [hi], by simp [hb], ?_⟩
  intro len got hg; rw [h] at hg; cases hg

theorem witness_StepKeepsMessagePort : PortForm State.reset.port ∧ step State.reset = .next State.reset :=
  ⟨portForm_of_hunting _ rfl rfl rfl rfl, rfl⟩

theorem witness_StepKeepsZonesAndShock :
    (ZoneForm streaming.zone1 ∧ ZoneForm streaming.zone2) ∧ RestForm streaming ∧
      (SourcesForm streaming ∧ ThresholdForm streaming ∧ ShockForm streaming.shock ∧ EntryForm streaming) ∧
      step streaming = .next streaming := by
  refine ⟨⟨⟨by decide, by decide, by decide, ?_, by decide⟩, ⟨by decide, by decide, by decide, ?_, by decide⟩⟩, ?_,
    ⟨⟨by decide, ?_⟩, ?_, by decide, ?_⟩, rfl⟩
  · intro l h; cases h
  · intro l h; cases h
  · intro z; cases z
    · intro h; cases h
    · intro _; decide
  · intro d h; cases d <;> revert h <;> decide
  · intro z; cases z <;> decide
  · intro h; cases h

/-- Deck A's ring with a GOOD and a DOUBTFUL record, and an entry for the second. -/
def doubted : State :=
  onPlan .a (fun p => { p with entries := [⟨15002, false, 1, false, 0, false, false⟩] })
    (onRing .a (fun r =>
      { r with records := [⟨15001, false, .good, 0, plain 9⟩, ⟨15002, false, .doubtful, 3, plain 9⟩], fetchAddr := some 15003 })
      streaming)

theorem witness_StepKeepsRingsAndRepairLists :
    RingForm doubted.deckA.ring ∧ RepairForm doubted.deckA ∧ step doubted = .next doubted := by
  refine ⟨⟨rfl, ⟨rfl, trivial⟩, trivial, fun h => absurd rfl h, rfl, ⟨30000, rfl⟩, 15003, rfl, ?_⟩,
    ⟨by decide, ?_, by decide, by decide, ?_, by decide⟩, rfl⟩
  · intro q h; cases h; rfl
  · intro e h
    rcases List.mem_singleton.1 h with rfl
    refine ⟨by decide, by decide, by decide, ?_, ?_⟩
    · intro k hk
      have : k = 0 := Nat.lt_one_iff.1 hk
      subst this
      exact ⟨⟨15002, false, .doubtful, 3, plain 9⟩, .tail _ (.head _), rfl, rfl, .inl rfl⟩
    · constructor
      · intro h; cases h
      · rintro ⟨q, hq, hs, -⟩
        rcases hq with _ | ⟨_, _ | ⟨_, hq⟩⟩
        · cases hs
        · cases hs
        · cases hq
  · intro q hq hs
    rcases hq with _ | ⟨_, _ | ⟨_, hq⟩⟩
    · cases hs
    · cases hs
    · cases hq

theorem witness_RecordsAndFramesAreLaidOut :
    let n : Notice := { unit := .zone .two, body := .resumeMatch .two 16000 cat3.fingerprint, count := 3 }
    (n.unit = .zone .two ∧ n.body = .resumeMatch .two 16000 cat3.fingerprint) ∧ ready.deckA.link.nextTag = 1 ∧
      ready.deckA.link.lastSlot = none ∧ (sent .stall .acknowledge 0 ready).deckA.link.decline = none := by decide

theorem witness_DeckLinksLeaveTheOtherDeckAlone :
    linkDeck (.seekMiss .a 0) = some .a ∧ Settled ready ∧ ∃ t, exec (.seekMiss .a 0) ready = .next t := ⟨rfl, by decide, _, rfl⟩

theorem witness_SettingsChangeOnlyByTheirCommands :
    carriesAnother .shockReport = false ∧ ∃ t, exec .shockReport ready = .next t := ⟨rfl, _, rfl⟩

theorem witness_NoticesJoinTheQueue :
    ({ State.reset.port with mask := 0 } : Port).mask.getLsbD (NoticeBody.wake).kind.position = false ∧
      State.reset.port.mask.getLsbD (NoticeBody.wake).kind.position = true ∧
      State.reset.port.queue = [] ++ { unit := .part, body := .resetDone .powerOn, count := 1 } :: [] ∧
      ∀ m ∈ State.reset.port.queue, ¬ (m.unit = .deck .a ∧ m.body.kind = (NoticeBody.wake).kind) := by decide

/-- Meets the hypotheses of NoticeCommands, IdentNamesThePart, ShockReportAndClear, TrayLineStartsOrStopsDebounce and
LevelAndMarkAreSet, and the mode hypotheses of the others. -/
theorem witness_awake : Up ready ∧ Awake ready ∧ Settled ready := by decide

theorem witness_RepliesEnd :
    Up ready ∧ ready.port.transmitter = none ∧ ready.port.resetDue = false ∧
      (let s := onPort (fun p => { p with transmitter := some [], buffer := [.good 1 0 [], .bad 9], inHand := true }) ready
      s.port.transmitter ≠ none ∧ s.port.resetDue = false ∧ s.port.buffer.tail = [.bad 9]) ∧
      (let s := onPort (fun p => { p with transmitter := some [], buffer := [.good 2 0 []], inHand := true }) ready
      s.port.transmitter ≠ none ∧ s.port.resetDue = false ∧ s.port.buffer.tail = []) ∧
      (onPort (fun p => { p with resetDue := true }) ready).port.resetDue = true := by decide

theorem witness_HostLinkReceivesFrames :
    ready.port.receiver = .hunting ∧
      (let s := onPort (fun p => { p with receiver := .length, inHand := true }) ready
      s.port.receiver = .length ∧ s.port.inHand = true ∧ (2 ≤ (2#8).toNat ∧ (66#8).toNat ≤ 66) ∧ (1#8).toNat < 2 ∧ 66 < (67#8).toNat) ∧
      (let s := onPort (fun p => { p with receiver := .body 2 [1#8, 0#8], inHand := true }) ready
      s.port.receiver = .body (([] : List Byte).length + 2) (1#8 :: 0#8 :: [])) ∧
      (onPort (fun p => { p with receiver := .length, resetDue := true }) ready).port.resetDue = true ∧
      (let s := onPort (fun p => { p with receiver := .body 66 [1#8] }) ready
      s.port.receiver = .body 66 [1#8] ∧ [1#8].length < 66) := by decide

theorem witness_RefusedCommandsChangeNothing :
    (Up asleep ∧ asleep.standby.phase ≠ .awake ∧ refusedInStandby (.forget none) = true) ∧
      Awake ready ∧ misnamesUnit (.load 2 1) = true ∧ misnamesUnit (.setMark 3 none) = true ∧ misnamesUnit (.stop 4) = true := by
  decide

/-- A part whose zones are both as they stand at reset has every STOPPED zone at rest. -/
theorem restForm_of_reset (s : State) (h1 : s.zone1 = State.reset.zone1) (h2 : s.zone2 = State.reset.zone2) : RestForm s := by
  intro z _; cases z
  · rw [show s.zone .one = State.reset.zone1 from h1]; decide
  · rw [show s.zone .two = State.reset.zone2 from h2]; decide

theorem witness_StandbyIsEnteredAndLeft :
    (Awake ready ∧ ready.zone1.state = .stopped ∧ ready.zone2.state = .stopped ∧ RestForm ready ∧ ready.deckA.link.state = .ready ∧
        ready.deckA.link.outstanding = none ∧ ready.deckA.link.usable ≠ none) ∧ 1 < (2#8).toNat ∧ (1#8).toNat ≤ 1 ∧
      (let s : State := { ready with standby := { ready.standby with phase := .entering } }
      Up s ∧ s.standby.phase = .entering ∧ s.zone1.state = .stopped ∧ s.zone2.state = .stopped ∧ RestForm s) ∧
      streaming.zone1.state ≠ .stopped ∧
      (Up asleep ∧ asleep.standby.phase = .standby ∧ asleep.standby.wakeTimer = some 500 ∧ asleep.deckA.link.state = .parked ∧
        (∀ d ∈ [Deck.a, .b], asleep.recorded d = some (asleep.side d).line)) ∧
      (let s := onSide .a (fun t => { t with line := .opened }) asleep
      s.recorded (otherDeck .a) = some (s.side (otherDeck .a)).line ∧ s.recorded .a ≠ some (s.side .a).line ∧
        s.standby.wakeOnTray = false ∧ s.deckA.link.state = .parked) := by
  refine ⟨⟨by decide, rfl, rfl, restForm_of_reset _ rfl rfl, rfl, rfl, by decide⟩, by decide, by decide,
    ⟨by decide, rfl, rfl, rfl, restForm_of_reset _ rfl rfl⟩, by decide, by decide, by decide⟩

theorem witness_SetShockClampsAndEnables :
    Awake ready ∧ 1 < (2#8).toNat ∧ (1#8).toNat ≤ 1 ∧ ready.shock.enable = ((0#8 : Byte) == 1#8) ∧
      ready.shock.enable ≠ ((1#8 : Byte) == 1#8) := by decide

theorem witness_ConversionsSetFlagAndGuard :
    ready.shock.converting = false ∧
      (let s : State := { ready with shock := { ready.shock with converting := true } }
      s.shock.converting = true ∧ s.shock.guard = none ∧ s.shock.ton ≤ 672 - s.shock.centre ∧ 671 - s.shock.centre < s.shock.ton) ∧
      ({ ready.shock with guard := some 3 } : Shock).guard ≠ none := by decide

theorem witness_GuardAndBackoffTimersExpire :
    (Up ready ∧ ready.shock.guard = none ∧ ready.deckA.plan.backoff = false ∧ ∀ d ∈ [Deck.a, .b], (ready.deck d).link.waiting = none) ∧
      ({ ready.shock with guard := some 3 } : Shock).guard ≠ none ∧
      (let s := onPlan .a (fun p => { p with backoff := true }) ready
      Settled s ∧ s.deckA.plan.backoff = true) := by decide

theorem witness_ResumeTableCommands :
    let s : State := { ready with tray := { ready.tray with table := [saved] } }
    Awake s ∧ s.tray.table.length ≤ (1#8).toNat ∧ s.tray.table[(0#8).toNat]? = some saved ∧
      (∀ r ∈ s.tray.table, r.fingerprint ≠ 1) ∧ s.tray.table = [] ++ saved :: [] ∧
      ∀ q ∈ ([] : List ResumeRecord) ++ [], q.fingerprint ≠ saved.fingerprint := by decide

theorem witness_DrawerOpensAndCloses_rest :
    RestForm (onSide .a (fun t => { t with line := .opened, timer := some 20 }) ready) := restForm_of_reset _ rfl rfl

theorem witness_DrawerOpensAndCloses :
    (Settled ready ∧ ready.tray.sideA.timer = none) ∧
      (let s := onSide .a (fun t => { t with line := .opened, timer := some 20 }) ready
      s.tray.sideA.timer ≠ none ∧ s.tray.sideA.line = .opened ∧ s.deckA.link.state = .ready ∧ s.deckA.link.outstanding = none ∧
        zoneIdle .a s = true ∧ s.zone2.source ≠ .mirror) ∧
      (let s := onSide .a (fun t => { t with level := .opened, timer := some 20 })
        (onLink .a (fun l => { l with outstanding := none, lastSlot := some 4 }) State.reset)
      Settled s ∧ s.tray.sideA.timer ≠ none ∧ s.tray.sideA.line = .closed ∧ s.tray.autoReload = true ∧
        s.deckA.link.lastSlot = some 4 ∧ s.deckA.link.state = .noDisc ∧ s.deckA.link.outstanding = none ∧
        s.deckA.link.waiting = none) ∧ State.reset.deckB.link.lastSlot = none := by decide

theorem witness_OpenedDrawerSavesThePosition :
    let s := onSide .a (fun t => { t with line := .opened, timer := some 20 }) streaming
    Settled s ∧ s.tray.sideA.timer ≠ none ∧ s.tray.sideA.line = .opened ∧ s.zone1.source = .deck .a ∧ s.zone2.source = .deck .b ∧
      s.zone1.state = .playing ∧ 0 < s.zone1.ramp ∧ s.deckA.link.disc = .usable cat3 ∧ s.zone1.range = some ⟨15000, 30000⟩ ∧
      s.zone1.position = some 15000 ∧ s.zone1.causes.switch = false := by decide +kernel

theorem witness_SetPoolPartitionsThePool :
    Awake ready ∧ 1536 < 1504 + 96 ∧ 992 + 480 ≤ 1536 ∧ (ready.zone1.source = .deck .a ∨ ready.zone2.source = .deck .a) ∧
      ready.deckA.ring.records = [] ∧ ready.deckB.link.state = .noDisc ∧ streaming.deckA.link.state = .streaming ∧
      zoneOf .a ready = some .one ∧ ({ ready.zone2 with source := .none } : Zone).deck? = none := by decide +kernel

theorem witness_LoadFetchesADisc :
    (Awake ready ∧ 6 < (7#8).toNat ∧ (6#8).toNat ≤ 6 ∧ ready.deckA.link.state = .ready ∧ zoneIdle .a ready = true ∧
        ready.deckA.link.outstanding = none ∧ ready.deckA.link.waiting = none) ∧
      streaming.deckA.link.state ∈ [.seeking, .streaming, .stalled, .parked, .fault] ∧
      (let s := onLink .b (fun l => { l with outstanding := none }) State.reset
      s.deckB.link.state = .noDisc ∧ s.deckB.link.outstanding = none ∧ zoneIdle .b s = true) ∧
      (let s := onZone .one (fun n => { n with state := .paused }) ready
      s.deckA.link.state ∈ [.noDisc, .ready] ∧ zoneIdle .a s = false) := by decide +kernel

theorem witness_UnloadStowsTheDisc_rest : RestForm ready := restForm_of_reset _ rfl rfl

theorem witness_UnloadStowsTheDisc :
    let note : StopNote :=
      { deck := .a, fingerprint := cat3.fingerprint, range := ⟨15000, 30000⟩, cue := none, position := 16000, reason := .host }
    let s : State := { ready with tray := { ready.tray with noteOne := some note } }
    (Awake s ∧ s.deckA.link.state = .ready ∧ zoneIdle .a s = true ∧ s.deckA.link.outstanding = none ∧ s.deckA.link.waiting = none ∧
        zoneOf .a s = some .one ∧ s.note .one = some note ∧ note.deck = .a ∧ note.reason = .host) ∧
      streaming.deckA.link.state ∈ [.seeking, .streaming, .parked, .fault] ∧
      (let s := onZone .one (fun n => { n with state := .paused }) ready
      s.deckA.link.state ∈ [.noDisc, .ready, .stalled] ∧ zoneIdle .a s = false) := by decide +kernel

theorem witness_ResetDeckResetsTheLink :
    Awake streaming ∧ streaming.deckA.link.state ≠ .fault ∧
      (onLink .a (fun l => { l with state := .fault }) ready).deckA.link.state = .fault := by decide +kernel

theorem witness_SetDeckClampsItsSettings : Awake ready ∧ ready.deckA.plan.entries = [] ∧ ready.deckA.ring.cap ≠ 0 := by decide

theorem witness_QueriesReadPagesAndDiscs :
    (Up ready ∧ (1#8).toNat / 2 % 4 = 0 ∧ (1#8).toNat % 2 = 1 ∧ (0#8).toNat % 2 = 0 ∧ (6#8).toNat / 2 % 4 ≠ 0 ∧
        ready.deckA.snapshot = none ∧ ready.zone1.snapshot = none ∧ ready.deckA.link.disc = .usable cat3 ∧
        ready.deckB.link.usable = none) ∧
      (onDeck .a (fun u => { u with snapshot := some [[1], [2], [3], [4]] }) ready).deckA.snapshot = some [[1], [2], [3], [4]] ∧
      (onZone .one (fun n => { n with snapshot := some [[1], [2]] }) ready).zone1.snapshot = some [[1], [2]] := by decide

theorem witness_SetZoneChecksAndClamps :
    Awake ready ∧ 3 < (4#8).toNat ∧ (0#8 : Byte) = byte (Source.deck .a).code ∧ (1#8 : Byte) = byte Policy.pass.code ∧
      ready.deckA.ring.cap ≠ 0 ∧ ready.zone2.source ≠ .deck .a ∧ ready.zone1.source = .deck .a ∧
      ready.zone1.causes.starve = false ∧ Source.mirror ≠ streaming.zone2.source ∧ streaming.zone1.state ≠ .stopped := by
  decide +kernel

theorem witness_PlayAndResumeBeginARange :
    (Awake ready ∧ ready.zone1.source = .deck .a ∧ ready.zone2.source ≠ .deck .a ∧ deckBusy .a ready = false ∧
        rangeCheck ready.deckA.link.usable (51899#24).toNat (51899#24).toNat = .accepted ⟨51899, 51899⟩ false ∧
        rangeCheck ready.deckA.link.usable (51900#24).toNat (51950#24).toNat = .refused .badArg ∧ ready.zone1.state = .stopped ∧
        ready.deckA.link.state = .ready ∧ ready.deckA.link.outstanding = none ∧ ready.deckA.ring.cap ≠ 0) ∧
      deckBusy .a (onLink .a (fun l => { l with state := .stowing }) ready) = true ∧
      ({ ready.zone1 with source := .none } : Zone).deck? = none ∧
      (let s := onZone .two (fun n => { n with source := .mirror }) ready
      s.zone2.source = .mirror ∧ s.zone2.state = .stopped ∧ s.zone2.atRest ∧ s.zone2.source ≠ .deck .a) := by decide

/-- The part with one record, of deck A's disc. -/
def withRecord (r : ResumeRecord) : State := { ready with tray := { ready.tray with table := [r] } }

theorem witness_PlayAndResumeBeginARange_active :
    (Awake streaming ∧ streaming.zone1.state ≠ .stopped ∧ 0 < streaming.zone1.ramp ∧ streaming.zone2.source ≠ .mirror ∧
        streaming.zone1.source = .deck .a ∧ streaming.zone2.source ≠ .deck .a ∧ deckBusy .a streaming = false ∧
        streaming.deckA.ring.phase = .current ∧ streaming.deckA.ring.cueRecords = []) ∧
      rangeCheck streaming.deckA.link.usable (40000#24).toNat (60000#24).toNat = .accepted ⟨40000, 51899⟩ true ∧
      ((onZone .one (fun n => { n with ramp := 0 }) streaming).zone1.ramp = 0 ∧ streaming.deckA.link.startable ∧
        streaming.deckA.ring.cap ≠ 0) ∧
      (let s := onLink .a (fun l => { l with state := .parked }) ready
      Awake s ∧ s.zone1.state = .stopped ∧ s.zone2.source ≠ .mirror ∧ s.deckA.link.state.runnable = false ∧ deckBusy .a s = false ∧
        s.deckA.link.usable = some cat3) := by
  refine ⟨by decide +kernel, by decide, ⟨rfl, ⟨rfl, ?_⟩, by decide +kernel⟩, by decide⟩
  intro o h; cases h

theorem witness_PlayAndResumeBeginARange_record :
    (let s := withRecord saved
    Awake s ∧ s.zone1.state = .stopped ∧ deckBusy .a s = false ∧ s.deckA.link.disc = .usable cat3 ∧
        s.tray.table = [] ++ saved :: [] ∧ saved.fingerprint = cat3.fingerprint ∧ saved.cue = none ∧
        rangeCheck (some cat3) (max saved.range.first (saved.position - s.tray.rewind)) saved.range.last =
          .accepted ⟨15925, 30000⟩ false) ∧
      rangeCheck (some cat3) (max 60000 (60010 - 75)) 60100 = .refused .badArg ∧
      rangeCheck (some cat3) 40000 41000 = .accepted ⟨40000, 41000⟩ false ∧
      rangeCheck (some cat3) 51900 51950 = .refused .badArg ∧ streaming.zone1.state ≠ .stopped ∧
      State.reset.deckA.link.usable = none ∧ (∀ r ∈ ready.tray.table, r.fingerprint ≠ cat3.fingerprint) := by decide

theorem witness_CueSetsTheNextRange :
    (Awake streaming ∧ streaming.zone1.source = .deck .a ∧ streaming.zone1.state ≠ .stopped ∧
        rangeCheck streaming.deckA.link.usable 40000 41000 = .accepted ⟨40000, 41000⟩ false ∧
        streaming.zone1.causes.switch = false ∧ streaming.deckA.ring.phase = .current ∧ streaming.deckA.ring.cueRecords = []) ∧
      ready.zone1.state = .stopped ∧
      ({ streaming.zone1 with causes := { Causes.empty with switch := true } } : Zone).causes.switch = true := by decide +kernel

theorem witness_PauseUnpauseAndStopOneZone :
    (Awake streaming ∧ streaming.zone2.source ≠ .mirror ∧ streaming.zone1.source = .deck .a ∧ streaming.zone1.state = .playing ∧
        0 < streaming.zone1.ramp) ∧ ready.zone1.state = .stopped ∧
      (let s := onZone .one (fun n => { n with state := .paused, set := { n.set with restart := 1 } }) atBoundary
      s.zone1.state = .paused ∧ s.zone1.set.restart ≤ s.deckA.ring.goodDepth) ∧
      ¬ 38 ≤ atBoundary.deckA.ring.goodDepth ∧
      (let s := mirrored .playing .starved
      Awake s ∧ s.zone2.source = .mirror ∧ s.zone2.ramp = 0 ∧ s.zone2.causes = Causes.empty ∧ s.zone2.inherited.stop = false ∧
        s.zone2.state = .starved) ∧
      (let s := mirrored .playing .playing
      s.zone2.state = .playing ∧ s.zone1.state = .playing ∧ s.zone1.ramp = 0 ∧ s.zone1.source ≠ .mirror ∧
        s.zone1.causes = Causes.empty) := by decide +kernel

theorem witness_TakenAndLandedAdvanceTheCommand :
    let o (c : DeckCommand) (t : CommandTimer) : Outstanding := { command := c, tag := 3, resends := 0, limit := 0, timer := t }
    (Settled streaming ∧ (sent .stall .acknowledge 0 streaming).deckA.link.outstanding = some (o .stall .acknowledge) ∧
        (sent .stall .acknowledge 0 streaming).deckA.link.state = .streaming) ∧
      (sent (.seek 15000) .completion 0 ready).deckA.link.outstanding = some (o (.seek 15000) .completion) ∧
      (DeckCommand.seek 15000).completeAtAck = false ∧
      (sent .linkReset .acknowledge 0 ready).deckA.link.waiting = none ∧
      (onLink .a (fun l => { l with state := .fault }) (sent .linkReset .acknowledge 0 ready)).deckA.link.state = .fault := by
  decide +kernel

theorem witness_TakenAndLandedAdvanceTheCommand_run :
    (let s := onLink .a (fun l => { l with state := .seeking }) (sent (.seek 15001) .completion 0 streaming)
    Settled s ∧ (goodAt 15001 9).wellFormed = true ∧ (goodAt 15001 9).good = true ∧ s.deckA.link.state = .seeking ∧
        (s.deckA.link.outstanding.map (·.command)) = some (.seek 15001)) ∧
      (Settled streaming ∧ streaming.deckA.link.outstanding = none ∧ streaming.deckA.link.runTag = some 1 ∧
        streaming.deckA.link.state = .streaming ∧ streaming.deckA.link.byDelivery = false) ∧
      (onLink .a (fun l => { l with byDelivery := true }) streaming).deckA.link.byDelivery = true := by decide +kernel

theorem witness_DeclinedIsRecorded :
    Settled ready ∧ (sent .stall .acknowledge 0 ready).deckA.link.outstanding =
        some { command := .stall, tag := 3, resends := 0, limit := 0, timer := .acknowledge } ∧
      (sent .stall .acknowledge 0 ready).deckA.plan.phase ≠ .held ∧
      ((sent (.fetchDisc 6) .completion 0 ready).deckA.link.outstanding.map (·.command)) = some (.fetchDisc 6) ∧
      (sent (.fetchDisc 6) .completion 0 ready).deckA.link.waiting = none ∧
      ((sent (.park .tray) .completion 0 ready).deckA.link.outstanding.map (·.command)) = some (.park .tray) := by decide

theorem witness_DeclinedIsRecorded_runs :
    (let s := onPlan .a (fun p => { p with phase := .held }) (sent .stall .acknowledge 0 streaming)
    s.deckA.plan.phase = .held ∧ s.deckA.link.state = .streaming) ∧
      (let s := onLink .a (fun l => { l with state := .stalled }) (sent .proceed .acknowledge 0 streaming)
      Settled s ∧ s.deckA.link.state = .stalled ∧ s.deckA.plan.flushAwaited = false ∧
        s.deckA.ring.fetchSpot = some ⟨15001, false⟩ ∧ s.deckA.plan.backoff = false ∧ s.deckA.plan.job ≠ .playStart) ∧
      ((sent (.seek 15001) .completion 0 streaming).deckA.link.outstanding.map (·.command)) = some (.seek 15001) ∧
      ((sent (.stowDisc true) .completion 0 ready).deckA.link.outstanding.map (·.command)) = some (.stowDisc true) ∧
      ((sent .linkReset .acknowledge 0 ready).deckA.link.outstanding.map (·.command)) = some .linkReset := by decide +kernel

theorem witness_SeekMissBacksOff :
    let s := onLink .a (fun l => { l with state := .seeking }) (sent (.seek 15001) .completion 0 streaming)
    Settled s ∧ (s.deckA.link.outstanding.map fun o => (o.command, o.tag, o.timer)) = some (.seek 15001, 3, .completion) ∧
      s.deckA.plan.job = .fetch ∧ s.deckA.plan.target = some ⟨15001, false⟩ ∧ s.deckA.plan.seekMisses < 2 ∧
      s.deckA.plan.flushAwaited = false ∧ s.deckA.plan.entries = [] ∧ s.deckA.plan.phase = .run ∧
      s.deckA.ring.fetchSpot = some ⟨15001, false⟩ ∧ s.deckA.ring.depth < s.deckA.ring.high ∧
      s.deckA.ring.high ≤ s.deckA.ring.cap := by decide +kernel

theorem witness_SlipEndsTheRun :
    (Settled streaming ∧ streaming.deckA.link.runTag = some 1 ∧ streaming.deckA.link.state = .streaming ∧
        streaming.deckA.link.gapTimer = true ∧ streaming.deckA.plan.job ∈ [.fetch, .cueFetch, .skipRecovery, .voidOver] ∧
        streaming.deckA.intake.ctx.lastPlaced ≠ none ∧ streaming.deckA.plan.entries = [] ∧
        streaming.deckA.plan.target = some ⟨15001, false⟩ ∧ streaming.deckA.ring.fetchSpot = some ⟨15001, false⟩) ∧
      (let s := onPlan .a (fun p => { p with target := some ⟨15000, false⟩ }) streaming
      s.deckA.plan.target = some ⟨15000, false⟩ ∧ s.deckA.ring.fetchSpot = some ⟨15001, false⟩ ∧
        s.deckA.plan.flushAwaited = false ∧ s.deckA.plan.phase ≠ .held ∧ s.deckA.ring.depth < s.deckA.ring.high ∧
        s.deckA.ring.high ≤ s.deckA.ring.cap) ∧
      (let s := onLink .a (fun l => { l with state := .stalled }) (sent .proceed .acknowledge 0 streaming)
      s.deckA.link.state = .stalled ∧ (s.deckA.link.outstanding.map (·.command)) = some .proceed) := by decide +kernel

theorem witness_DiscReportsMoveTheDeck :
    (Settled ready ∧ (sent (.fetchDisc 1) .completion 0 ready).deckA.link.waiting = none ∧
        ((sent (.stowDisc true) .completion 0 ready).deckA.link.outstanding.map (·.command)) = some (.stowDisc true) ∧
        ready.tray.sideA.reload = false) ∧
      (let w : Request := { command := .fetchDisc 2, from_ := .host, plan := none }
      (onLink .a (fun l => { l with waiting := some w }) (sent (.stowDisc false) .completion 0 ready)).deckA.link.waiting = some w) ∧
      (Settled asleep ∧ asleep.standby.phase = .standby ∧
        (sent (.park .standby) .completion 0 asleep).deckA.link.waiting = none) := by decide

theorem witness_IndexBuildsTheCatalogue :
    let s := sent .readIndex .completion 0 ready
    Settled s ∧ (s.deckA.link.outstanding.map (·.command)) = some .readIndex ∧ s.deckA.link.waiting = none ∧
      validIndex 3 51900 disc3 false = true ∧ validIndex 3 51900 disc3 true = false ∧
      ∀ r ∈ s.tray.table, r.fingerprint ≠ cat3.fingerprint := by decide

theorem witness_IndexBuildsTheCatalogue_record :
    (let s := sent .readIndex .completion 0 (withRecord saved)
    s.tray.table = [] ++ saved :: [] ∧ saved.fingerprint = fingerprint (51900#24).toNat (disc3.map fun e => e.start.toNat) ∧
        s.tray.sideA.level = .closed ∧ s.standby.phase = .awake ∧ (s.zone saved.zone).source = .deck .a ∧
        s.tray.autoResume = true ∧ (s.zone saved.zone).state = .stopped ∧
        rangeCheck (some cat3) (max saved.range.first (saved.position - s.tray.rewind)) saved.range.last =
          .accepted ⟨15925, 30000⟩ false ∧ saved.cue = none ∧
        (s.zone (otherZone saved.zone)).source ≠ .deck .a ∧ s.deckA.ring.cap ≠ 0) ∧
      (onSide .a (fun t => { t with level := .opened }) (withRecord saved)).tray.sideA.level = .opened ∧
      rangeCheck (some cat3) (max 60000 (60010 - 75)) 60100 = .refused .badArg ∧
      rangeCheck (some cat3) 40000 41000 = .accepted ⟨40000, 41000⟩ false ∧ streaming.zone1.state ≠ .stopped := by
  decide +kernel

theorem witness_FaultsAndResends :
    (Settled streaming ∧ streaming.deckA.link.state ≠ .fault ∧
        (onLink .a (fun l => { l with state := .fault }) ready).deckA.link.state = .fault) ∧
      (let o := (sent .readIndex .acknowledge 2 ready).deckA.link.outstanding
      (o.map (·.resends)) = some 2 ∧ (o.map (·.timer)) = some .acknowledge ∧ (o.map (·.command)) = some .readIndex) ∧
      (let o := (sent (.park .tray) .completion 0 ready).deckA.link.outstanding
      (o.map (·.timer)) = some .completion ∧ (o.map (·.command)) = some (.park .tray)) ∧
      (DeckCommand.park .tray).isMechanical = true ∧ ready.deckA.link.outstanding = none := by decide +kernel

theorem witness_FaultsAndResends_zone :
    (zoneOf .a streaming = some .one ∧ streaming.zone1.state ≠ .stopped ∧ 0 < streaming.zone1.ramp ∧ streaming.zone2.source ≠ .mirror) ∧
      (onZone .one (fun n => { n with ramp := 0 }) streaming).zone1.ramp = 0 ∧ zoneOf .a ready = some .one ∧ ready.zone1.state = .stopped ∧
      zoneOf .a (onZone .one (fun n => { n with source := .none }) ready) = none := by decide +kernel

theorem witness_FaultsAndResends_record :
    (zoneOf .a streaming = some .one ∧ streaming.zone1.state ≠ .stopped ∧ streaming.deckA.link.disc = .usable cat3 ∧
        streaming.zone1.causes.switch = false ∧ streaming.zone1.range = some ⟨15000, 30000⟩ ∧ streaming.zone1.position = some 15000) ∧
      (let n := { streaming.zone1 with causes := { Causes.empty with switch := true }, pendingRange := some ⟨40000, 41000⟩ }
      n.causes.switch = true ∧ n.pendingRange = some ⟨40000, 41000⟩) ∧ zoneIdle .a ready = true ∧
      State.reset.deckA.link.usable = none := by decide +kernel

theorem witness_StaleTrafficIsIgnored :
    (Settled ready ∧ reportTag (.landed .a 7 15000) = some (.a, 7) ∧ ready.deckA.link.runTag ≠ some 7 ∧
        ready.deckA.link.outstanding = none ∧ ready.deckA.link.controlIn = none ∧ ready.deckA.link.blockIn = none) ∧
      (goodAt 0 0).wellFormed = true ∧ { goodAt 0 0 with good := false }.good = false ∧
      (let got := List.replicate 2504 (0#8 : Byte)
      (onLink .a (fun l => { l with blockIn := some got }) ready).deckA.link.blockIn = some got ∧ got.length + 1 < 2506) ∧
      (List.replicate 2505 (0#8 : Byte)).length = 2505 := by decide +kernel

theorem witness_DeliveryJoinsTheRing :
    (Settled streaming ∧ (goodAt 15001 9).wellFormed = true ∧ (goodAt 15001 9).good = true ∧ (goodAt 15001 9).valid = true ∧
        (∀ m ∈ (goodAt 15001 9).marks, m = false)) ∧
      streaming.deckA.link.state = .streaming ∧ streaming.deckA.link.runTag = some 1 ∧ streaming.deckA.link.outstanding = none ∧
      streaming.deckA.intake.ctx.status = .opened ∧ streaming.deckA.intake.ctx.runTag = 1 ∧
      streaming.deckA.intake.ctx.span = none ∧ streaming.deckA.ring.fetchAddr = some (goodAt 15001 9).addr.toNat ∧
      streaming.deckA.ring.fetchEnd = some 30000 ∧ (goodAt 15001 9).addr.toNat < 30000 ∧
      streaming.deckA.ring.fetchSeg = some false ∧ streaming.deckA.ring.depth + 1 < streaming.deckA.ring.high ∧
      streaming.deckA.ring.high ≤ streaming.deckA.ring.cap ∧ streaming.deckA.plan.entries = [] := by decide +kernel

theorem witness_MergeTakesNonDoubtfulSamples :
    [1#16, 2#16].length = [true, false].length ∧ [1#16, 2#16].length = [3#16, 4#16].length ∧
      mergeSamples false [1#16, 2#16] [true, false] [3#16, 4#16] [false, false] = ([3#16, 2#16], [false, false], 1) := by decide

theorem witness_FingerprintIsExact : validIndex 4 51900 disc4 false = true := by decide

theorem witness_AcceptedRangesLieInAudio :
    validIndex 4 51900 disc4 false = true ∧
      rangeCheck (some (catalogueOf 51900 disc4)) 20000 35000 = .accepted ⟨20000, 32249⟩ true := by decide

theorem witness_FrameEventEmitsOneFrame :
    (Settled ready ∧ ready.stage = .edge ∧ ready.zone1.state = .stopped ∧ ready.zone2.state = .stopped) ∧
      Settled streaming ∧ streaming.stage = .edge ∧ streaming.zone1.source = .deck .a ∧ streaming.zone2.state = .stopped ∧
      streaming.zone1.state = .playing ∧ streaming.zone1.block = some ⟨15000, false, .good, plain 7⟩ ∧
      streaming.zone1.causes = Causes.empty ∧ streaming.zone1.inherited = Causes.empty ∧ streaming.zone1.ramp = 32768 ∧
      streaming.zone1.level = 32768 ∧ 0 < streaming.zone1.blockPhase ∧ streaming.zone1.stats.clamped ≤ 65535 ∧
      (plain 7).marks.getD (2 * streaming.zone1.blockPhase) true = false ∧
      (plain 7).marks.getD (2 * streaming.zone1.blockPhase + 1) true = false := by decide +kernel

theorem witness_BlockBoundaryTakesTheEdge :
    (Settled atBoundary ∧ atBoundary.stage = .edge ∧ atBoundary.zone1.blockPhase = 0 ∧ atBoundary.zone2.blockPhase = 0 ∧
        atBoundary.zone1.source = .deck .a ∧ atBoundary.zone2.state = .stopped ∧ atBoundary.zone2.source ≠ .mirror) ∧
      (atBoundary.zone1.state = .playing ∧ atBoundary.zone1.endTaken = false ∧ atBoundary.zone1.causes.starve = false ∧
        atBoundary.deckA.link.waiting = none ∧ atBoundary.deckA.ring.records = ⟨15001, false, .good, 0, plain 9⟩ :: [] ∧
        atBoundary.deckA.plan.entries = []) ∧ streaming.zone1.blockPhase ≠ 0 := by decide +kernel

/-- The boundary with one record at the edge, in a state and segment of choice, under a policy. -/
def edgeOf (st : SlotState) (g : Seg) (p : Policy) : State :=
  onRing .a (fun r => { r with records := [⟨15001, g, st, 0, plain 9⟩], cueCopy := some ⟨15001, 15001⟩ })
    (onZone .one (fun n => { n with set := { n.set with policy := p }, mark := some 15001, staged := some 9 }) atBoundary)

theorem witness_BlockBoundaryTakesTheEdge_edges :
    ((edgeOf .missing false .pass).deckA.ring.records.map (·.state) = [.missing] ∧
        (edgeOf .missing false .pass).zone1.set.policy = .pass) ∧
      (let s := onPlan .a (fun p => { p with entries := [⟨15001, false, 2, true, 0, false, false⟩] }) (edgeOf .missing false .pass)
      ∀ e ∈ s.deckA.plan.entries, e.covers ⟨15001, false⟩ = true → e.first = 15001) ∧
      (let s := onZone .one (fun n => { n with endTaken := true, cue := some ⟨15001, 15001⟩ }) (edgeOf .good true .wait)
      s.zone1.cue ≠ none ∧ s.zone1.tag = false ∧ s.deckA.ring.records.map (·.seg) = [true]) := by decide +kernel

theorem witness_BlockBoundaryTakesTheEdge_none :
    atBoundary.zone2.atRest ∧ (atBoundary.zone1.causes.stop = false ∧ atBoundary.zone1.causes.switch = false ∧
        0 < atBoundary.zone1.ramp) ∧
      ((edgeOf .missing false .wait).deckA.ring.records.head?.map (·.state) = some .missing ∧
        (edgeOf .missing false .wait).zone1.set.policy = .wait) ∧
      (onRing .a (fun r => { r with records := [] }) atBoundary).deckA.ring.records = [] ∧
      (let n := { atBoundary.zone1 with endTaken := true }
      n.state = .playing ∧ n.endTaken = true ∧ n.cue = none) ∧
      (let n := { atBoundary.zone1 with state := .starved, causes := { Causes.empty with starve := true } }
      n.state = .starved ∧ n.causes.starve = true) ∧
      (let n := { atBoundary.zone1 with state := .paused, causes := { Causes.empty with stop := true, pause := true } }
      n.state = .paused ∧ n.causes.stop = true) := by decide +kernel

/-- R116: at a MISSING edge under WAIT the zone starves; under PASS it takes the edge, as VOID. -/
theorem test_missing_edge :
    (match exec .blockBoundary (edgeOf .missing false .wait) with
      | .next t => t.zone1.causes.starve && t.zone1.stats.starves == 1 && t.zone1.block == none
      | _ => false) = true ∧
    (match exec .blockBoundary (edgeOf .missing false .pass) with
      | .next t => (t.zone1.block.map (·.state)) == some .void && t.zone1.level == 9 && t.zone1.mark == none
      | _ => false) = true := by decide +kernel

/-- Zone 1 with CONCEAL, one clean frame short. -/
def concealing : State :=
  onZone .one (fun n => { n with causes := { Causes.empty with conceal := true }, clean := 63 }) { streaming with stage := .settled }

/-- R146: a CONCEAL raised in a PAUSED zone's silent rest waits for a take. -/
theorem test_conceal_waits_for_a_take :
    (match exec (.concealClear .one) (onZone .one (fun n => { n with concealWaits := true }) concealing) with
      | .next t => t.zone1.causes.conceal
      | _ => false) = true := by decide +kernel

theorem witness_RampStepsAndConcealClear :
    (Settled (fading Causes.empty 32767) ∧ (fading Causes.empty 32767).stage = .concealed ∧
        streaming.zone2.source ≠ .mirror ∧ streaming.zone2.state = .stopped ∧ (fading Causes.empty 32767).zone1.set.period ≤ 3 + 1 ∧
        4096 < (fading { Causes.empty with protect := true } 4097).zone1.ramp ∧
        (fading { Causes.empty with pause := true } 128).zone1.ramp ≤ streaming.zone1.set.step) ∧
      Settled concealing ∧ concealing.stage = .settled ∧ concealing.zone1.inherited = Causes.empty ∧
      concealing.zone1.causes.conceal = true ∧ concealing.zone1.concealWaits = false ∧
      (onZone .one (fun n => { n with concealWaits := true }) concealing).zone1.concealWaits = true ∧
      concealing.zone1.state = .playing ∧ concealing.zone1.source = .deck .a ∧
      concealing.zone1.block = some ⟨15000, false, .good, plain 7⟩ ∧ concealing.zone1.set.recover ≤ concealing.zone1.clean + 1 := by
  decide +kernel

theorem witness_RampStepsAndConcealClear_zero :
    let stop := fading { Causes.empty with stop := true } 100
    (Settled stop ∧ stop.stage = .concealed ∧ stop.zone2.source ≠ .mirror ∧ stop.zone2.state = .stopped ∧
        stop.zone1.inherited = Causes.empty ∧ stop.zone1.state ≠ .stopped ∧ 0 < stop.zone1.ramp ∧
        stop.zone1.ramp ≤ stop.zone1.set.step ∧ stop.zone1.set.period ≤ stop.zone1.rampCount + 1 ∧
        stop.zone1.source = .deck .a ∧ stop.zone2.source ≠ .deck .a ∧ stop.zone1.causes.switch = false ∧
        stop.zone1.causes.stop = true ∧ stop.zone1.stopReason = .host ∧ stop.deckA.link.disc = .usable cat3 ∧
        stop.zone1.range = some ⟨15000, 30000⟩ ∧ stop.zone1.position = some 15000) ∧
      StopReason.rangeEnd ≠ .host ∧
      (fading { Causes.empty with protect := true } 4096).zone1.ramp ≤ 4096 ∧
      (let s := onZone .one (fun n => { n with pendingRange := some ⟨40000, 41000⟩ }) (fading { Causes.empty with switch := true } 100)
      s.zone1.causes.switch = true ∧ s.zone1.pendingRange = some ⟨40000, 41000⟩ ∧ s.deckA.link.startable ∧ s.deckA.ring.cap ≠ 0) ∧
      (fading { Causes.empty with pause := true, starve := true } 100).zone1.causes.pause = true ∧
      (let s := fading { Causes.empty with starve := true } 100
      s.zone1.state = .playing ∧ s.zone1.causes.pause = false ∧ s.zone1.causes.starve = true) := by
  refine ⟨by decide +kernel, by decide, by decide +kernel, ⟨rfl, rfl, ⟨rfl, ?_⟩, by decide +kernel⟩, rfl, rfl, rfl, rfl⟩
  intro o h; cases h

theorem witness_InterpolationAndOutputRound : 1 ≤ 3 ∧ 3 ≤ 3 ∧ 32768 ≤ 32768 := by decide

end Sys2Proof.Tests
end

