-- ==== Sys2Proof/Proofs/ShockGuard.lean ====
section
/-!
PROOFS. The Shock Monitor's host commands SHOCK_REPORT and CLEAR_SHOCK (R164, R165).
-/

namespace Sys2Proof.Proofs

open Sys2Proof.Machine

/-! ## Commands that are refused in standby -/

/-- Awake, a command that standby refuses gives its owner's OK as the reply (R191, R205). -/
theorem taken_unlessStandby_of_ok {f : State → Answered} {s t : State} {data : List Byte} (h : Awake s)
    (hf : f s = (t, ok data)) : taken s (unlessStandby f) = .next (replied .ok data t) := by
  obtain ⟨hpin, hphase⟩ := h
  rw [taken_up _ _ hpin, unlessStandby_awake _ _ hphase, hf, settle_ok]

/-! ## The guard state of SHOCK_REPORT -/

/-- The byte of the guard state is 1 for a closed guard and 0 for an open one (R164). -/
theorem onOff_not_guardOpen (s : State) : onOff (!guardOpen s) = if s.shock.guard = none then 1#8 else 0#8 := by
  unfold guardOpen
  cases s.shock.guard with
  | none => rfl
  | some _ => rfl

/-! ## The owner's answers -/

/-- The Shock Monitor's answer to SHOCK_REPORT, the peak cleared behind it (R164). -/
theorem shockReportAnswer_eq (s : State) :
    shockReportAnswer s =
      ({ s with shock := { s.shock with peak := 0 } },
        ok ([byte s.shock.enable.toNat, byte s.shock.flag.toNat] ++ be2 s.shock.last ++ be2 s.shock.peak
          ++ [if s.shock.guard = none then 1#8 else 0#8])) := by
  rw [← onOff_not_guardOpen]; rfl

/-! ## The two commands -/

theorem exec_shockReport (s : State) : exec .shockReport s = taken s (unlessStandby shockReportAnswer) := rfl

theorem exec_clearShock (s : State) : exec .clearShock s = taken s (unlessStandby clearShockAnswer) := rfl

/-- Settles O27: both commands give their owner's answer, whose form the lemmas above state. -/
theorem shockReportAndClear : Obligations.ShockReportAndClear := by
  unfold Obligations.ShockReportAndClear
  constructor
  · intro s hs
    rw [exec_shockReport, taken_unlessStandby_of_ok hs (shockReportAnswer_eq s)]
  · intro s hs
    have hanswer : clearShockAnswer s = ({ s with shock := { s.shock with flag := false } }, ok []) := rfl
    rw [exec_clearShock, taken_unlessStandby_of_ok hs hanswer]

end Sys2Proof.Proofs
end

section
/-!
PROOFS. The Tray Supervisor's host commands SET_RESUME (R183), QUERY_RESUME (R182) and FORGET (R181).
-/

namespace Sys2Proof.Proofs

open Sys2Proof.Machine

/-! ## Taking a command -/

/-- Awake, a command that standby refuses settles its owner's own answer (R191, R205). -/
theorem taken_unlessStandby_awake (f : State → Answered) {s : State} (h : Awake s) :
    taken s (unlessStandby f) = .next (settle (f s)) := by
  obtain ⟨hpin, hphase⟩ := h
  rw [taken_up _ _ hpin, unlessStandby_awake _ _ hphase]

/-! ## Arguments and bytes (R209) -/

/-- A byte above 1 is no ON or OFF. -/
theorem boolArg_of_one_lt {b : Byte} (h : 1 < b.toNat) : boolArg b = none := by
  have h0 : b ≠ 0#8 := by rintro rfl; simp at h
  have h1 : b ≠ 1#8 := by rintro rfl; simp at h
  simp [boolArg, h0, h1]

/-- A byte of at most 1 is 0 or 1. -/
theorem eq_zero_or_one_of_toNat_le {b : Byte} (h : b.toNat ≤ 1) : b = 0#8 ∨ b = 1#8 := by bv_omega

/-- A byte of at most 1 is ON exactly where it is 1. -/
theorem boolArg_of_le_one {b : Byte} (h : b.toNat ≤ 1) : boolArg b = some (b == 1#8) := by
  obtain rfl | rfl := eq_zero_or_one_of_toNat_le h <;> rfl

/-- The setting used has the byte it was given as. -/
theorem onOff_beq_one {b : Byte} (h : b.toNat ≤ 1) : onOff (b == 1#8) = b := by
  obtain rfl | rfl := eq_zero_or_one_of_toNat_le h <;> rfl

theorem byte_deckCode (d : Deck) : byte (deckCode d) = deckByte d := by cases d <;> rfl

theorem byte_zoneCode (z : ZoneId) : byte (zoneCode z) = zoneByte z := by cases z <;> rfl

/-! ## SET_RESUME (R183) -/

theorem exec_setResume (resume reload : Byte) (rewind : BitVec 16) (debounce : Byte) (s : State) :
    exec (.setResume resume reload rewind debounce) s =
      taken s (unlessStandby (setResumeAnswer resume reload rewind.toNat debounce.toNat)) := rfl

/-- One value that is neither ON nor OFF refuses the whole command. -/
theorem setResumeAnswer_badArg {resume reload : Byte} (rewind debounce : Nat) (s : State)
    (h : 1 < resume.toNat ∨ 1 < reload.toNat) :
    setResumeAnswer resume reload rewind debounce s = (s, refusal .badArg) := by
  unfold setResumeAnswer
  obtain h | h := h
  · rw [boolArg_of_one_lt h]
  · rw [boolArg_of_one_lt h]; cases boolArg resume <;> rfl

/-- The settings used, with the rewind and the debounce time clamped. -/
theorem setResumeAnswer_ok {resume reload : Byte} (rewind debounce : Nat) (s : State)
    (hresume : resume.toNat ≤ 1) (hreload : reload.toNat ≤ 1) :
    setResumeAnswer resume reload rewind debounce s =
      ({ s with tray := { s.tray with
          autoResume := resume == 1#8, autoReload := reload == 1#8
          rewind := min 750 rewind, debounce := min 200 (max 5 debounce) } },
        ok ([resume, reload] ++ be2 (min 750 rewind) ++ [byte (min 200 (max 5 debounce))])) := by
  simp only [setResumeAnswer, boolArg_of_le_one hresume, boolArg_of_le_one hreload, onOff_beq_one hresume,
    onOff_beq_one hreload, clampTo]

/-! ## QUERY_RESUME (R182) -/

theorem exec_queryResume (position : Byte) (s : State) :
    exec (.queryResume position) s = taken s (queryResumeAnswer position) := rfl

theorem queryResumeAnswer_badArg {position : Byte} {s : State} (h : s.tray.table.length ≤ position.toNat) :
    queryResumeAnswer position s = (s, refusal .badArg) := by
  unfold queryResumeAnswer; rw [List.getElem?_eq_none h]

theorem queryResumeAnswer_ok {position : Byte} {s : State} {r : ResumeRecord}
    (h : s.tray.table[position.toNat]? = some r) :
    queryResumeAnswer position s = (s, ok (byte s.tray.table.length :: r.bytes)) := by
  unfold queryResumeAnswer; rw [h]

/-- A resume record's bytes, with its deck and its zone by name (R212). -/
theorem resumeRecord_bytes (r : ResumeRecord) :
    r.bytes = be4 r.fingerprint.toNat ++ [deckByte r.deck, zoneByte r.zone] ++ be3 r.range.first ++ be3 r.range.last
      ++ be3 r.position ++ range6 r.cue ++ [byte r.reason.code] := by
  rw [← byte_deckCode, ← byte_zoneCode]; rfl

/-! ## FORGET (R181) -/

/-- A table without the fingerprint stays as it is. -/
theorem dropRecord_of_absent {f : BitVec 32} {s : State} (h : ∀ r ∈ s.tray.table, r.fingerprint ≠ f) :
    dropRecord f s = s := by
  have hall : (s.tray.table.filter fun r => r.fingerprint != f) = s.tray.table :=
    List.filter_eq_self.mpr fun r hr => bne_iff_ne.mpr (h r hr)
  unfold dropRecord; rw [hall]

/-- The one record of the fingerprint goes, and those behind it move forward by one position. -/
theorem dropRecord_of_one {f : BitVec 32} {s : State} {before after : List ResumeRecord} {r : ResumeRecord}
    (htable : s.tray.table = before ++ r :: after) (hr : r.fingerprint = f)
    (h : ∀ q ∈ before ++ after, q.fingerprint ≠ f) :
    dropRecord f s = { s with tray := { s.tray with table := before ++ after } } := by
  have hothers : ((before ++ after).filter fun q => q.fingerprint != f) = before ++ after :=
    List.filter_eq_self.mpr fun q hq => bne_iff_ne.mpr (h q hq)
  have hrest : (s.tray.table.filter fun q => q.fingerprint != f) = before ++ after :=
    calc (s.tray.table.filter fun q => q.fingerprint != f)
        = (before ++ after).filter fun q => q.fingerprint != f := by simp [htable, hr]
      _ = before ++ after := hothers
  unfold dropRecord; rw [hrest]

theorem exec_forget (fingerprint : Option (BitVec 32)) (s : State) :
    exec (.forget fingerprint) s = taken s (unlessStandby (forgetAnswer fingerprint)) := rfl

theorem forgetAnswer_none (s : State) :
    forgetAnswer none s = ({ s with tray := { s.tray with table := [] } }, ok [byte s.tray.table.length]) := rfl

/-- FORGET of a fingerprint drops its record as a resume match does (R179), and counts what went. -/
theorem forgetAnswer_some (f : BitVec 32) (s : State) :
    forgetAnswer (some f) s =
      (dropRecord f s, ok [byte (s.tray.table.length - (dropRecord f s).tray.table.length)]) := rfl

/-- A fingerprint that no record has removes nothing. -/
theorem forgetAnswer_of_absent {f : BitVec 32} {s : State} (h : ∀ r ∈ s.tray.table, r.fingerprint ≠ f) :
    forgetAnswer (some f) s = (s, ok [0#8]) := by
  rw [forgetAnswer_some, dropRecord_of_absent h, Nat.sub_self]; rfl

/-- The one record of the fingerprint is removed and counted. -/
theorem forgetAnswer_of_one {f : BitVec 32} {s : State} {before after : List ResumeRecord} {r : ResumeRecord}
    (htable : s.tray.table = before ++ r :: after) (hr : r.fingerprint = f)
    (h : ∀ q ∈ before ++ after, q.fingerprint ≠ f) :
    forgetAnswer (some f) s = ({ s with tray := { s.tray with table := before ++ after } }, ok [1#8]) := by
  have hcount : s.tray.table.length - (before ++ after).length = 1 := by
    simp only [htable, List.length_append, List.length_cons]; omega
  rw [forgetAnswer_some, dropRecord_of_one htable hr h, hcount]; rfl

/-! ## The three commands -/

/-- Settles O30: each command gives its owner's answer, in the cases stated above; FORGET's rest on what `dropRecord` keeps. -/
theorem resumeTableCommands : Obligations.ResumeTableCommands := by
  unfold Obligations.ResumeTableCommands
  refine ⟨?setResume, ?queryResume, ?forget⟩
  case setResume =>
    intro resume reload rewind debounce s hs
    rw [exec_setResume, taken_unlessStandby_awake _ hs]
    split
    next hbad => rw [setResumeAnswer_badArg _ _ _ hbad, settle_refusal]
    next hgood =>
      obtain ⟨hresume, hreload⟩ := not_or.mp hgood
      rw [setResumeAnswer_ok _ _ _ (Nat.not_lt.mp hresume) (Nat.not_lt.mp hreload), settle_ok]
  case queryResume =>
    intro position s hs
    rw [exec_queryResume, taken_up _ _ hs]
    constructor
    · intro hpast
      rw [queryResumeAnswer_badArg hpast, settle_refusal]
    · intro r hr
      rw [queryResumeAnswer_ok hr, settle_ok, resumeRecord_bytes]; rfl
  case forget =>
    intro f s hs
    refine ⟨?_, fun habsent => ?_, fun before r after htable hr hothers => ?_⟩
    · rw [exec_forget, taken_unlessStandby_of_ok hs (forgetAnswer_none s)]
    · rw [exec_forget, taken_unlessStandby_of_ok hs (forgetAnswer_of_absent habsent)]
    · rw [exec_forget, taken_unlessStandby_of_ok hs (forgetAnswer_of_one htable hr hothers)]

end Sys2Proof.Proofs
end

section
/-!
PROOFS. The Message Port's host command IDENT (R195).
-/

namespace Sys2Proof.Proofs

open Sys2Proof.Machine

/-- IDENT is taken without the test for standby, so its answer stands in every phase (R195). -/
theorem exec_ident (s : State) : exec .ident s = taken s identAnswer := rfl

/-- The part's identity and pool size, byte by byte in the order of R195; the state is left as it was. -/
theorem identAnswer_eq (s : State) : identAnswer s = (s, ok [0x7A#8, 0x0A#8, 0x50#8, 1#8, 6#8, 0#8]) := rfl

/-- Settles O21: with the pin high the port settles IDENT's answer, whatever the phase. -/
theorem identNamesThePart : Obligations.IdentNamesThePart := by
  unfold Obligations.IdentNamesThePart
  intro s hs
  rw [exec_ident, taken_up _ _ hs, identAnswer_eq, settle_ok]

end Sys2Proof.Proofs
end

section
/-!
PROOFS. What a step is, what each command answers, and the resets (R208): the step of the queue, the gate of the reset pin, and the state
that a reset leaves.
-/

namespace Sys2Proof.Proofs

open Sys2Proof.Machine

/-! ## The step (log entry 1) -/

theorem step_cons (i : Instr) (rest : List Instr) (s : State) (h : s.pending = i :: rest) :
    step s = exec i { s with pending := rest } := by simp only [step, h]

/-- Settles O1: a step opens the queue at its front. -/
theorem stepRunsFrontCommand : Obligations.StepRunsFrontCommand :=
  ⟨fun i rest s h => step_cons i rest s h, fun s h => step_empty s h⟩

/-! ## What a command answers (log entry 33) -/

/-- Every row but the reset pin's, the tray lines' and a delivery is an action taken while the pin is high (R208). -/
theorem exec_gated (i : Instr) (hpin : ∀ p, i ≠ .powerOnReset p) (hline : ∀ d l, i ≠ .trayLineChange d l)
    (hdelivery : ∀ d g v, i ≠ .delivery d g v) : ∃ f : State → State, ∀ s, exec i s = whenUp s f := by
  cases i
  case powerOnReset p => exact absurd rfl (hpin p)
  case trayLineChange d l => exact absurd rfl (hline d l)
  case delivery d g v => exact absurd rfl (hdelivery d g v)
  all_goals exact ⟨_, fun _ => rfl⟩

theorem exec_delivery_wellFormed (d : Deck) (g : Tag) (v : DeliveryArgs) (s : State) (h : v.wellFormed = true) :
    exec (.delivery d g v) s = event s (deliver d g v) := by
  show execDelivery d g v s = _
  rw [execDelivery, if_pos h]

theorem exec_delivery_illFormed (d : Deck) (g : Tag) (v : DeliveryArgs) (s : State) (h : v.wellFormed = false) :
    exec (.delivery d g v) s = .fault .illFormedCommand := by
  show execDelivery d g v s = _
  rw [execDelivery, if_neg (by simp [h])]

/-- A well-formed command answers a next state. -/
theorem exec_next (i : Instr) (s : State) (h : i.wellFormed = true) : ∃ t, exec i s = .next t := by
  by_cases hpin : ∃ p, i = .powerOnReset p
  · obtain ⟨p, rfl⟩ := hpin
    cases p <;> exact ⟨_, rfl⟩
  by_cases hline : ∃ d l, i = .trayLineChange d l
  · obtain ⟨d, l, rfl⟩ := hline
    show ∃ t, execTrayLineChange d l s = .next t
    unfold execTrayLineChange
    cases s.resetPin <;> exact ⟨_, rfl⟩
  by_cases hdelivery : ∃ d g v, i = .delivery d g v
  · obtain ⟨d, g, v, rfl⟩ := hdelivery
    exact ⟨_, (exec_delivery_wellFormed d g v s h).trans (event_next s _)⟩
  obtain ⟨f, hf⟩ := exec_gated i (fun p h => hpin ⟨p, h⟩) (fun d l h => hline ⟨d, l, h⟩) fun d g v h => hdelivery ⟨d, g, v, h⟩
  exact ⟨_, (hf s).trans (whenUp_next s f)⟩

/-- With the pin low a well-formed command, but the pin's own, moves at most a tray line (R208, log entry 6). -/
theorem exec_low (i : Instr) (s : State) (hs : s.resetPin = .low) (h : i.wellFormed = true)
    (hpin : ∀ p, i ≠ .powerOnReset p) :
    exec i s = .next (match (generalizing := false) i with
      | .trayLineChange d l => onSide d (fun t => { t with line := l }) s
      | _ => s) := by
  by_cases hline : ∃ d l, i = .trayLineChange d l
  · obtain ⟨d, l, rfl⟩ := hline
    show execTrayLineChange d l s = _
    rw [execTrayLineChange, hs]
  by_cases hdelivery : ∃ d g v, i = .delivery d g v
  · obtain ⟨d, g, v, rfl⟩ := hdelivery
    rw [exec_delivery_wellFormed d g v s h, event, whenUp_low _ _ hs]
  obtain ⟨f, hf⟩ := exec_gated i hpin (fun d l h => hline ⟨d, l, h⟩) fun d g v h => hdelivery ⟨d, g, v, h⟩
  rw [hf, whenUp_low _ _ hs]
  split
  · exact absurd ⟨_, _, rfl⟩ hline
  · rfl

/-- Settles O2: every row is gated by the pin, and only a delivery that is not one block stops. -/
theorem everyCommandAnswersNext : Obligations.EveryCommandAnswersNext := by
  refine ⟨⟨exec_next, exec_delivery_illFormed⟩, fun i s hs h hpin => ⟨?_, exec_low i s hs h hpin⟩⟩
  simp only [attention, hs]

/-! ## Resets (R208) -/

/-- Settles O4: each reset is built from the reset state, with what R208 keeps. -/
theorem resetsStartAfresh : Obligations.ResetsStartAfresh := by
  refine ⟨fun s hs => whenUp_high s softReset hs, fun s => ⟨rfl, _, rfl, rfl, rfl, rfl, rfl, fun d => ?_, fun z => ?_, fun d => ?_⟩⟩
  · cases d <;> exact ⟨rfl, rfl, rfl, rfl, rfl, rfl, rfl, rfl, rfl, rfl, rfl, rfl, rfl, rfl, rfl, rfl, rfl⟩
  · cases z <;> exact ⟨rfl, rfl, rfl⟩
  · cases d <;> rfl

/-! ## The reset state (R37, R38, R82, R108, R136, R166, R185, R202, R203) -/

/-- An empty ring that fetches nothing has the form of every ring. -/
theorem ringForm_idle (r : Ring) (hrecords : r.records = []) (hphase : r.phase = .idle) (haddr : r.fetchAddr = none)
    (hend : r.fetchEnd = none) : RingForm r := by
  simp [RingForm, Ring.segment, hrecords, hphase, haddr, hend, ascendByOne]

/-- An empty repair list over an empty ring has the form of every list. -/
theorem repairForm_empty (u : DeckUnit) (hentries : u.plan.entries = []) (hrecords : u.ring.records = [])
    (hgap : u.intake.gapLimit ≤ 8) : RepairForm u := by
  simp [RepairForm, hentries, hrecords, hgap]

theorem reset_thresholdForm : ThresholdForm State.reset := by intro z; cases z <;> decide

/-- Settles O5: the fields are the chapters' values, and each form is checked on them. -/
theorem resetState : Obligations.ResetState := by
  refine ⟨rfl, rfl, ?_⟩
  refine ⟨by decide, by decide, by decide, ?_, by decide, by decide, ?_, ?_, reset_thresholdForm, by decide, ?_, ?_⟩
  · refine ⟨by decide, by decide, by decide, by decide, ?_⟩
    intro len got h; cases h
  · intro z _; cases z <;> decide
  · refine ⟨by decide, ?_⟩
    intro d; cases d <;> decide
  · intro h; cases h
  · intro d
    cases d <;> exact ⟨ringForm_idle _ rfl rfl rfl rfl, repairForm_empty _ rfl rfl (by decide)⟩

end Sys2Proof.Proofs
end

section
/-!
PROOFS. The Message Port: notices (R198 to R201), frames received from the host (R186 to R190), the end of a reply (R190, R196), and
host commands that are refused (R193, R194, R205).
-/

namespace Sys2Proof.Proofs

open Sys2Proof.Machine

/-! ## Notices (R198) -/

theorem raiseNotice_eq (u : NoticeUnit) (b : NoticeBody) (s : State) (h : s.port.mask.getLsbD b.kind.position = true) :
    raiseNotice u b s = { s with port := { s.port with queue := queueNotice u b s.port.queue } } := by
  rw [raiseNotice, if_pos h]; rfl

/-- The first entry of a notice's kind and unit is updated in place. -/
theorem queueNotice_found (u : NoticeUnit) (b : NoticeBody) (before after : List Notice) (n : Notice) (hu : n.unit = u)
    (hk : n.body.kind = b.kind) (h : ∀ m ∈ before, ¬ (m.unit = u ∧ m.body.kind = b.kind)) :
    queueNotice u b (before ++ n :: after) = before ++ { unit := u, body := b, count := min 255 (n.count + 1) } :: after := by
  induction before with
  | nil => rw [List.nil_append, queueNotice, if_pos ⟨hu, hk⟩]; rfl
  | cons m ms ih =>
    rw [List.cons_append, queueNotice, if_neg (h m List.mem_cons_self), ih fun x hx => h x (List.mem_cons_of_mem _ hx)]; rfl

/-- Without an entry of its kind and unit a notice joins the tail. -/
theorem queueNotice_absent (u : NoticeUnit) (b : NoticeBody) (q : List Notice)
    (h : ∀ m ∈ q, ¬ (m.unit = u ∧ m.body.kind = b.kind)) :
    queueNotice u b q = q ++ [{ unit := u, body := b, count := 1 }] := by
  induction q with
  | nil => rfl
  | cons m ms ih =>
    rw [queueNotice, if_neg (h m List.mem_cons_self), ih fun x hx => h x (List.mem_cons_of_mem _ hx)]; rfl

/-- Settles O19: what `queueNotice` does in each of the two cases. -/
theorem noticesJoinTheQueue : Obligations.NoticesJoinTheQueue := by
  refine fun u b s => ⟨raiseNotice_off u b s, fun hmask => ⟨fun before after n hq hu hk h => ?_, fun h => ?_⟩⟩
  · rw [raiseNotice_eq u b s hmask, hq, queueNotice_found u b before after n hu hk h]
  · rw [raiseNotice_eq u b s hmask, queueNotice_absent u b _ h]

/-! ## TAKE_NOTICES and SET_NOTICE_MASK (R199, R200, R201) -/

theorem exec_takeNotices (s : State) : exec .takeNotices s = taken s takeNoticesAnswer := rfl

theorem takeNoticesAnswer_eq (s : State) :
    takeNoticesAnswer s =
      ({ s with port := { s.port with queue := s.port.queue.drop 4 } },
        ok ((s.port.queue.take 4).flatMap Notice.bytes ++ [byte (s.port.queue.length - 4)])) := by
  rw [← List.length_drop]; rfl

theorem exec_setNoticeMask (mask : BitVec 16) (s : State) :
    exec (.setNoticeMask mask) s = taken s (unlessStandby (setNoticeMaskAnswer mask)) := rfl

/-- The two bytes of a mask are its twelve enables (R210). -/
theorem be2_mask (mask : BitVec 16) : be2 (mask.setWidth 12).toNat = [byte (mask.toNat / 256 % 16), byte mask.toNat] := by
  have hhigh : (mask.setWidth 12).toNat / 256 = mask.toNat / 256 % 16 := by rw [BitVec.toNat_setWidth]; omega
  have hlow : byte (mask.setWidth 12).toNat = byte mask.toNat := by
    apply BitVec.eq_of_toNat_eq
    simp only [byte, BitVec.toNat_ofNat, BitVec.toNat_setWidth]; omega
  rw [be2, hhigh, hlow]

theorem setNoticeMaskAnswer_eq (mask : BitVec 16) (s : State) :
    setNoticeMaskAnswer mask s =
      ({ s with port := { s.port with mask := mask.setWidth 12 } }, ok [byte (mask.toNat / 256 % 16), byte mask.toNat]) := by
  rw [← be2_mask]; rfl

/-- Settles O20: both owners' answers, and the attention line of the queue that is left. -/
theorem noticeCommands : Obligations.NoticeCommands := by
  refine ⟨fun s hs => ?_, fun mask s hs => ?_⟩
  · have htaken := exec_takeNotices s
    rw [taken_up _ _ hs, takeNoticesAnswer_eq, settle_ok] at htaken
    refine ⟨htaken, _, htaken, (attention_low_iff _ ?up).trans ?_⟩
    case up => exact hs
    show s.port.queue.drop 4 ≠ [] ↔ _
    rw [ne_eq, List.drop_eq_nil_iff]; omega
  · rw [exec_setNoticeMask, taken_unlessStandby_of_ok hs (setNoticeMaskAnswer_eq mask s)]

/-! ## The end of a reply (R190, R196) -/

theorem exec_replySent (s : State) (hs : Up s) : exec .replySent s = .next (replySent s) := whenUp_high s replySent hs

/-- With nothing held, no frame is taken. -/
theorem takeFrame_empty (s : State) (h : s.port.buffer = []) : takeFrame s = s := by
  unfold takeFrame; split
  next hb => rw [h] at hb; cases hb
  next => rfl

/-- While a reply is being sent or a soft reset is due, no frame is taken (R190, R196). -/
theorem takeFrame_waiting (s : State) (h : s.port.inHand = true ∨ s.port.resetDue = true) : takeFrame s = s := by
  have hor : (s.port.inHand || s.port.resetDue) = true := by simpa using h
  unfold takeFrame; split
  next hb _ => rw [hor] at hb; cases hb
  next => rfl

/-- The oldest frame is taken and its answer begins to be sent (R190). -/
theorem takeFrame_cons (s : State) (f : HostFrame) (rest : List HostFrame) (hi : s.port.inHand = false)
    (ht : s.port.transmitter = none) (hr : s.port.resetDue = false) (hb : s.port.buffer = f :: rest) :
    takeFrame s =
      onPort (fun p => { p with
        inHand := true
        transmitter := some (replyFrame (answerFrame f s).2.1 (answerFrame f s).2.2 (answerFrame f s).1.2) })
        (settle (answerFrame f s).1) := by
  simp only [takeFrame, hi, ht, hr, hb, Bool.or_self]

/-- The reply frame of BAD_FRAME (R192). -/
theorem replyFrame_badFrame (tag : Byte) :
    replyFrame 0xFF#8 tag (refusal .badFrame) = [0xA5#8, 3#8, 0xFF#8, tag, 6#8, byte (1016 - tag.toNat)] := by
  have hsum : byteSum [3#8, 0xFF#8, tag, 6#8] = 264 + tag.toNat := by simp [byteSum]; omega
  have hcheck : checkByte [3#8, 0xFF#8, tag, 6#8] = byte (1016 - tag.toNat) := by
    rw [checkByte, hsum]
    apply BitVec.eq_of_toNat_eq
    simp only [byte, BitVec.toNat_ofNat]
    have := tag.isLt
    omega
  show 0xA5#8 :: ([3#8, 0xFF#8, tag, 6#8] ++ [checkByte [3#8, 0xFF#8, tag, 6#8]]) = _
  rw [hcheck]; rfl

/-- The port once a reply has been sent, before the next frame is taken (R190). -/
theorem replySent_of_sending (s : State) (hdue : s.port.resetDue = false) (h : s.port.transmitter ≠ none) :
    replySent s =
      takeFrame { s with port := { s.port with buffer := s.port.buffer.tail, inHand := false, transmitter := none } } := by
  obtain ⟨bytes, hb⟩ := Option.ne_none_iff_exists'.1 h
  rw [replySent, if_neg (by simp [hdue]), hb]; rfl

/-- Settles O22: the ends of a reply, by what stands behind it in the buffer. -/
theorem repliesEnd : Obligations.RepliesEnd := by
  refine ⟨fun s hs => ⟨taken_up s commandResetPart hs, fun hdue => ?_⟩,
    fun s hs hdue => ⟨fun hidle => ?_, fun hsending => ⟨fun htail => ?_, fun tag rest htail => ?_⟩⟩⟩
  · rw [exec_replySent s hs]
    refine Eq.trans ?_ (whenUp_high s softReset hs).symm
    rw [replySent, if_pos hdue]
  · rw [exec_replySent s hs]
    simp only [replySent, hdue, hidle]; rfl
  · rw [exec_replySent s hs, replySent_of_sending s hdue hsending, takeFrame_empty _ htail, htail]
  · rw [exec_replySent s hs, replySent_of_sending s hdue hsending,
      takeFrame_cons { s with port := { s.port with buffer := s.port.buffer.tail, inHand := false, transmitter := none } }
        (.bad tag) rest rfl rfl hdue htail, ← replyFrame_badFrame, ← htail]
    rfl

/-! ## Bytes from the host (R186 to R189) -/

theorem exec_hostByteReceived (b : Byte) (s : State) (hs : Up s) : exec (.hostByteReceived b) s = .next (hostByte b s) :=
  whenUp_high s (hostByte b) hs

theorem exec_hostFrameComplete (b : Byte) (s : State) (hs : Up s) :
    exec (.hostFrameComplete b) s = .next (if completesFrame b s then hostByte b s else s) :=
  whenUp_high s (fun s => if completesFrame b s then hostByte b s else s) hs

theorem hostByte_hunting (b : Byte) (s : State) (h : s.port.receiver = .hunting) :
    hostByte b s = if b = 0xA5#8 then { s with port := { s.port with receiver := .length } } else s := by
  simp only [hostByte, h]; rfl

theorem hostByte_length (b : Byte) (s : State) (h : s.port.receiver = .length) :
    hostByte b s =
      if 2 ≤ b.toNat ∧ b.toNat ≤ 66 then { s with port := { s.port with receiver := .body b.toNat [] } }
      else completeFrame (.bad 0) s := by
  simp only [hostByte, h]; rfl

theorem hostByte_body (b : Byte) (s : State) (len : Nat) (got : List Byte) (h : s.port.receiver = .body len got) :
    hostByte b s =
      if got.length = len then completeFrame (frameOf len (got ++ [b])) s
      else { s with port := { s.port with receiver := .body len (got ++ [b]) } } := by
  simp only [hostByte, h, List.length_append, List.length_cons, List.length_nil, Nat.zero_add, Nat.add_right_cancel_iff]
  rfl

/-- While a reply is being sent or a soft reset is due, a frame that completes is held, or discarded when two are held (R189). -/
theorem completeFrame_waiting (f : HostFrame) (s : State) (h : s.port.inHand = true ∨ s.port.resetDue = true) :
    completeFrame f s =
      if s.port.buffer.length < 2 then
        { s with port := { s.port with receiver := .hunting, buffer := s.port.buffer ++ [f] } }
      else raiseNotice .part (.linkError .overrun) { s with port := { s.port with receiver := .hunting } } := by
  unfold completeFrame
  by_cases hroom : s.port.buffer.length < 2
  · rw [if_pos hroom]
    exact (if_pos hroom).trans (takeFrame_waiting _ h)
  · rw [if_neg hroom]
    exact if_neg hroom

/-- The sum of a frame's bytes with one more byte at the end. -/
theorem byteSum_append_one (bytes : List Byte) (b : Byte) : byteSum (bytes ++ [b]) = byteSum bytes + b.toNat := by
  simp [byteSum]

/-- The frame that a whole body and its check byte make (R189). -/
theorem frameOf_payload (kind tag b : Byte) (payload : List Byte) :
    frameOf (payload.length + 2) (kind :: tag :: payload ++ [b]) =
      if (payload.length + 2 + byteSum (kind :: tag :: payload) + b.toNat) % 256 = 0 then .good kind tag payload else .bad tag := by
  rw [Nat.add_assoc (payload.length + 2), ← byteSum_append_one]
  simp [frameOf]

/-- Settles O23: the receiver's table, and what a completed frame meets. -/
theorem hostLinkReceivesFrames : Obligations.HostLinkReceivesFrames := by
  refine ⟨fun b s hs => ⟨fun h => ?_, fun h hlo hhi => ?_, fun len got h hlt => ?_⟩, fun b s hs => ?_, fun s hs => ?_⟩
  · rw [exec_hostByteReceived b s hs, hostByte_hunting b s h]
  · rw [exec_hostByteReceived b s hs, hostByte_length b s h, if_pos ⟨hlo, hhi⟩]
  · rw [exec_hostByteReceived b s hs, hostByte_body b s len got h, if_neg (Nat.ne_of_lt hlt)]
  · intro held
    refine ⟨fun hbusy => ⟨fun kind tag payload h => ?_, fun h hbad => ?_⟩, fun h hlo hhi => ?_, fun h => ?_, fun len got h hne => ?_⟩
    · have hdone : completesFrame b s = true := by simp [completesFrame, h]
      rw [exec_hostFrameComplete b s hs, if_pos hdone, hostByte_body b s _ _ h, if_pos (by simp),
        completeFrame_waiting _ s hbusy, frameOf_payload]
    · have hdone : completesFrame b s = true := by simp [completesFrame, h]; omega
      rw [exec_hostFrameComplete b s hs, if_pos hdone, hostByte_length b s h, if_neg (by omega), completeFrame_waiting _ s hbusy]
    · rw [exec_hostFrameComplete b s hs, if_neg (by simp [completesFrame, h, hlo, hhi])]
    · rw [exec_hostFrameComplete b s hs, if_neg (by simp [completesFrame, h])]
    · rw [exec_hostFrameComplete b s hs, if_neg (by simp [completesFrame, h, hne])]
  · refine (whenUp_high s interByteExpired hs).trans ?_
    cases h : s.port.receiver <;> simp [interByteExpired, h, onPort]

/-! ## Commands that are refused (R193, R194, R205) -/

/-- Every command of R205's list passes the test for standby first. -/
theorem exec_refusedInStandby (i : Instr) (h : refusedInStandby i = true) :
    ∃ f : State → Answered, ∀ s, exec i s = taken s (unlessStandby f) := by
  cases i
  case setNoticeMask | setPool | load | unload | resetDeck | setDeck | setZone | play | cue | pause | unpause | stop | setLevel
    | setMark | setShock | shockReport | clearShock | setResume | resume | forget => exact ⟨_, fun _ => rfl⟩
  all_goals cases h

theorem deckArg_of_one_lt {b : Byte} (h : 1 < b.toNat) : deckArg b = none := by
  have h0 : b ≠ 0#8 := by rintro rfl; simp at h
  have h1 : b ≠ 1#8 := by rintro rfl; simp at h
  simp [deckArg, h0, h1]

theorem zoneArg_of_ne {b : Byte} (h : b.toNat ≠ 1 ∧ b.toNat ≠ 2) : zoneArg b = none := by
  have h1 : b ≠ 1#8 := by rintro rfl; simp at h
  have h2 : b ≠ 2#8 := by rintro rfl; simp at h
  simp [zoneArg, h1, h2]

theorem zonesArg_of_outside {b : Byte} (h : b.toNat < 1 ∨ 3 < b.toNat) : zonesArg b = none := by
  have h3 : b ≠ 3#8 := by rintro rfl; simp at h
  have hone : zoneArg b = none := zoneArg_of_ne ⟨by omega, by omega⟩
  simp [zonesArg, h3, hone]

/-- The owner of a command that names no deck or zone refuses it (R193, R194). -/
theorem exec_misnamed (i : Instr) (s : State) (h : misnamesUnit i = true) :
    ∃ f : State → Answered, f s = (s, refusal .badArg) ∧ (exec i s = taken s f ∨ exec i s = taken s (unlessStandby f)) := by
  cases i
  case load d n => exact ⟨loadAnswer d n, by simp [loadAnswer, deckArg_of_one_lt (of_decide_eq_true h)], .inr rfl⟩
  case unload d => exact ⟨unloadAnswer d, by simp [unloadAnswer, deckArg_of_one_lt (of_decide_eq_true h)], .inr rfl⟩
  case resetDeck d => exact ⟨resetDeckAnswer d, by simp [resetDeckAnswer, deckArg_of_one_lt (of_decide_eq_true h)], .inr rfl⟩
  case setDeck d v => exact ⟨setDeckAnswer d v, by simp [setDeckAnswer, deckArg_of_one_lt (of_decide_eq_true h)], .inr rfl⟩
  case queryDeck d c => exact ⟨queryDeckAnswer d c, by simp [queryDeckAnswer, deckArg_of_one_lt (of_decide_eq_true h)], .inl rfl⟩
  case queryDisc d q => exact ⟨queryDiscAnswer d q, by simp [queryDiscAnswer, deckArg_of_one_lt (of_decide_eq_true h)], .inl rfl⟩
  case setZone z v => exact ⟨setZoneAnswer z v, by simp [setZoneAnswer, zoneArg_of_ne (of_decide_eq_true h)], .inr rfl⟩
  case play z a b =>
    exact ⟨playAnswer z a.toNat b.toNat, by simp [playAnswer, zoneArg_of_ne (of_decide_eq_true h)], .inr rfl⟩
  case cue z r => exact ⟨cueAnswer z _, by simp [cueAnswer, zoneArg_of_ne (of_decide_eq_true h)], .inr rfl⟩
  case setMark z a => exact ⟨setMarkAnswer z _, by simp [setMarkAnswer, zoneArg_of_ne (of_decide_eq_true h)], .inr rfl⟩
  case queryZone z c => exact ⟨queryZoneAnswer z c, by simp [queryZoneAnswer, zoneArg_of_ne (of_decide_eq_true h)], .inl rfl⟩
  case resume z => exact ⟨resumeAnswer z, by simp [resumeAnswer, zoneArg_of_ne (of_decide_eq_true h)], .inr rfl⟩
  case pause z => exact ⟨zonesAnswer .two pauseZone z, by simp [zonesAnswer, zonesArg_of_outside (of_decide_eq_true h)], .inr rfl⟩
  case unpause z =>
    exact ⟨zonesAnswer .one unpauseZone z, by simp [zonesAnswer, zonesArg_of_outside (of_decide_eq_true h)], .inr rfl⟩
  case stop z => exact ⟨zonesAnswer .one _ z, by simp [zonesAnswer, zonesArg_of_outside (of_decide_eq_true h)], .inr rfl⟩
  case setLevel z l => exact ⟨setLevelAnswer z _, by simp [setLevelAnswer, zonesArg_of_outside (of_decide_eq_true h)], .inr rfl⟩
  all_goals cases h

/-- Settles O24: the test for standby comes first, and each owner tests its unit before it acts. -/
theorem refusedCommandsChangeNothing : Obligations.RefusedCommandsChangeNothing := by
  refine ⟨fun i s hs hphase h => ?_, fun i s hs h => ?_⟩
  · obtain ⟨f, hf⟩ := exec_refusedInStandby i h
    rw [hf, taken_up _ _ hs, unlessStandby_asleep _ _ hphase, settle_refusal]
  · obtain ⟨f, hrefused, hf | hf⟩ := exec_misnamed i s h
    · rw [hf, taken_up _ _ hs.1, hrefused, settle_refusal]
    · rw [hf, taken_unlessStandby_awake _ hs, hrefused, settle_refusal]

end Sys2Proof.Proofs
end

section
/-!
PROOFS. Host commands and transport reports from their bytes and back (R209 to R211, R214, R216).
-/

namespace Sys2Proof.Proofs

open Sys2Proof.Machine

/-! ## Fields (R209) -/

theorem extractLsb'_append_low {m n : Nat} (x : BitVec m) (y : BitVec n) : (x ++ y).extractLsb' 0 n = y := by
  apply BitVec.eq_of_getLsbD_eq
  intro i hi
  simp [BitVec.getLsbD_append, hi]

theorem extractLsb'_append_high {m n : Nat} (x : BitVec m) (y : BitVec n) : (x ++ y).extractLsb' n m = x := by
  apply BitVec.eq_of_getLsbD_eq
  intro i hi
  simp [BitVec.getLsbD_append, hi]

theorem extractLsb'_append_above {m n k : Nat} (x : BitVec m) (y : BitVec n) (j : Nat) :
    (x ++ y).extractLsb' (n + j) k = x.extractLsb' j k := by
  apply BitVec.eq_of_getLsbD_eq
  intro i hi
  simp [BitVec.getLsbD_append, hi, Nat.add_assoc]

theorem field2_bytes (v : BitVec 16) : field2 (v.extractLsb' 8 8) (v.extractLsb' 0 8) = v := by simp

theorem field3_bytes (v : BitVec 24) : field3 (v.extractLsb' 16 8) (v.extractLsb' 8 8) (v.extractLsb' 0 8) = v := by
  rw [field3, BitVec.extractLsb'_append_extractLsb'_eq_extractLsb' (by rfl),
    BitVec.extractLsb'_append_extractLsb'_eq_extractLsb' (by rfl)]
  simp

theorem field4_bytes (v : BitVec 32) :
    field4 (v.extractLsb' 24 8) (v.extractLsb' 16 8) (v.extractLsb' 8 8) (v.extractLsb' 0 8) = v := by
  rw [field4, BitVec.extractLsb'_append_extractLsb'_eq_extractLsb' (by rfl),
    BitVec.extractLsb'_append_extractLsb'_eq_extractLsb' (by rfl), BitVec.extractLsb'_append_extractLsb'_eq_extractLsb' (by rfl)]
  simp

@[simp] theorem bytes2_field (a b : Byte) : bytes2 (field2 a b) = [a, b] := by
  rw [bytes2, extractLsb'_append_high, extractLsb'_append_low]

@[simp] theorem bytes3_field (a b c : Byte) : bytes3 (field3 a b c) = [a, b, c] := by
  rw [bytes3, extractLsb'_append_low, extractLsb'_append_above (a ++ b) c 8, extractLsb'_append_above (a ++ b) c 0,
    extractLsb'_append_high, extractLsb'_append_low]

@[simp] theorem bytes4_field (a b c d : Byte) : bytes4 (field4 a b c d) = [a, b, c, d] := by
  rw [bytes4, extractLsb'_append_low, extractLsb'_append_above (a ++ b ++ c) d 16,
    extractLsb'_append_above (a ++ b ++ c) d 8, extractLsb'_append_above (a ++ b ++ c) d 0,
    extractLsb'_append_above (a ++ b) c 8, extractLsb'_append_above (a ++ b) c 0, extractLsb'_append_low,
    extractLsb'_append_high, extractLsb'_append_low]

/-! ## Host commands (R210, R211) -/

/-- Every host command is read back from its kind and payload. -/
theorem decodeCommand_encode (i : Instr) (kind : Byte) (payload : List Byte)
    (h : encodeCommand i = some (kind, payload)) : decodeCommand kind payload = .command i := by
  cases i
  case standby o =>
    rcases o with _ | ⟨t, p⟩ <;> cases h
    · rfl
    · show HostDecode.command (.standby (some (t, field2 _ _))) = _
      rw [field2_bytes]
  case cue z o =>
    rcases o with _ | ⟨a, b⟩ <;> cases h
    · rfl
    · show HostDecode.command (.cue z (some (field3 _ _ _, field3 _ _ _))) = _
      rw [field3_bytes, field3_bytes]
  case setMark z o =>
    rcases o with _ | a <;> cases h
    · rfl
    · show HostDecode.command (.setMark z (some (field3 _ _ _))) = _
      rw [field3_bytes]
  case forget o =>
    rcases o with _ | f <;> cases h
    · rfl
    · show HostDecode.command (.forget (some (field4 _ _ _ _))) = _
      rw [field4_bytes]
  all_goals cases h
  case setNoticeMask m => show HostDecode.command (.setNoticeMask (field2 _ _)) = _; rw [field2_bytes]
  case setPool a b => show HostDecode.command (.setPool (field2 _ _) (field2 _ _)) = _; rw [field2_bytes, field2_bytes]
  case setDeck d v =>
    show HostDecode.command (.setDeck d ⟨field2 _ _, field2 _ _, field2 _ _, field2 _ _, field2 _ _, field2 _ _, _, _, _, field2 _ _⟩) = _
    simp only [field2_bytes]
  case setZone z v =>
    show HostDecode.command (.setZone z ⟨_, _, field2 _ _, field2 _ _, field2 _ _, _, _, field2 _ _⟩) = _
    simp only [field2_bytes]
  case play z a b => show HostDecode.command (.play z (field3 _ _ _) (field3 _ _ _)) = _; rw [field3_bytes, field3_bytes]
  case setLevel z l => show HostDecode.command (.setLevel z (field2 _ _)) = _; rw [field2_bytes]
  case setShock v =>
    show HostDecode.command (.setShock ⟨_, field2 _ _, field2 _ _, field2 _ _, _, field2 _ _⟩) = _
    simp only [field2_bytes]
  case setResume a b r t => show HostDecode.command (.setResume a b (field2 _ _) t) = _; rw [field2_bytes]
  all_goals rfl

theorem ofLength_eq_command {o : Option Instr} {i : Instr} : ofLength o = .command i ↔ o = some i := by
  cases o <;> simp [ofLength]

theorem eq_of_byte_toNat {b : Byte} {n : Nat} (h : b.toNat = n) : b = BitVec.ofNat 8 n := by
  subst h; simp

theorem noBytes_eq_some {j i : Instr} {p : List Byte} (h : noBytes j p = some i) : p = [] ∧ i = j := by
  unfold noBytes at h; split at h <;> simp_all

theorem oneByte_eq_some {f : Byte → Instr} {i : Instr} {p : List Byte} (h : oneByte f p = some i) :
    ∃ b, p = [b] ∧ i = f b := by
  unfold oneByte at h; split at h <;> simp_all

theorem twoBytes_eq_some {f : Byte → Byte → Instr} {i : Instr} {p : List Byte} (h : twoBytes f p = some i) :
    ∃ b c, p = [b, c] ∧ i = f b c := by
  unfold twoBytes at h
  split at h
  · next b c => exact ⟨b, c, rfl, (Option.some.inj h).symm⟩
  · cases h

theorem encode_of_decodePool {i : Instr} {p : List Byte} (h : decodePool p = some i) :
    encodeCommand i = some (0x05#8, p) := by
  unfold decodePool at h; split at h <;> cases h; simp [encodeCommand]

theorem encode_of_decodeStandby {i : Instr} {p : List Byte} (h : decodeStandby p = some i) :
    encodeCommand i = some (0x06#8, p) := by
  unfold decodeStandby at h; split at h <;> cases h <;> simp [encodeCommand]

theorem encode_of_decodeSetDeck {i : Instr} {p : List Byte} (h : decodeSetDeck p = some i) :
    encodeCommand i = some (0x0B#8, p) := by
  unfold decodeSetDeck at h; split at h <;> cases h; simp [encodeCommand]

theorem encode_of_decodeSetZone {i : Instr} {p : List Byte} (h : decodeSetZone p = some i) :
    encodeCommand i = some (0x0E#8, p) := by
  unfold decodeSetZone at h; split at h <;> cases h; simp [encodeCommand]

theorem encode_of_decodePlay {i : Instr} {p : List Byte} (h : decodePlay p = some i) :
    encodeCommand i = some (0x0F#8, p) := by
  unfold decodePlay at h; split at h <;> cases h; simp [encodeCommand]

theorem encode_of_decodeCue {i : Instr} {p : List Byte} (h : decodeCue p = some i) :
    encodeCommand i = some (0x10#8, p) := by
  unfold decodeCue at h; split at h <;> cases h <;> simp [encodeCommand]

theorem encode_of_decodeLevel {i : Instr} {p : List Byte} (h : decodeLevel p = some i) :
    encodeCommand i = some (0x14#8, p) := by
  unfold decodeLevel at h; split at h <;> cases h; simp [encodeCommand]

theorem encode_of_decodeMark {i : Instr} {p : List Byte} (h : decodeMark p = some i) :
    encodeCommand i = some (0x15#8, p) := by
  unfold decodeMark at h; split at h <;> cases h <;> simp [encodeCommand]

theorem encode_of_decodeShock {i : Instr} {p : List Byte} (h : decodeShock p = some i) :
    encodeCommand i = some (0x17#8, p) := by
  unfold decodeShock at h; split at h <;> cases h; simp [encodeCommand]

theorem encode_of_decodeResume {i : Instr} {p : List Byte} (h : decodeResume p = some i) :
    encodeCommand i = some (0x1A#8, p) := by
  unfold decodeResume at h; split at h <;> cases h; simp [encodeCommand]

theorem encode_of_decodeForget {i : Instr} {p : List Byte} (h : decodeForget p = some i) :
    encodeCommand i = some (0x1D#8, p) := by
  unfold decodeForget at h; split at h <;> cases h <;> simp [encodeCommand]

theorem encode_of_decodeMask {i : Instr} {p : List Byte} (h : decodeMask p = some i) :
    encodeCommand i = some (0x04#8, p) := by
  unfold decodeMask at h; split at h <;> cases h; simp [encodeCommand]

/-- Only its own encoding spells a host command: the kind picks the decoder, which takes no other payload. -/
theorem encodeCommand_of_decode (i : Instr) (kind : Byte) (payload : List Byte)
    (h : decodeCommand kind payload = .command i) : encodeCommand i = some (kind, payload) := by
  unfold decodeCommand at h
  split at h
  case h_30 => cases h
  all_goals
    rename_i hkind
    obtain rfl := eq_of_byte_toNat hkind
    have h := ofLength_eq_command.1 h
  case h_4 => exact encode_of_decodeMask h
  case h_5 => exact encode_of_decodePool h
  case h_6 => exact encode_of_decodeStandby h
  case h_11 => exact encode_of_decodeSetDeck h
  case h_14 => exact encode_of_decodeSetZone h
  case h_15 => exact encode_of_decodePlay h
  case h_16 => exact encode_of_decodeCue h
  case h_20 => exact encode_of_decodeLevel h
  case h_21 => exact encode_of_decodeMark h
  case h_23 => exact encode_of_decodeShock h
  case h_26 => exact encode_of_decodeResume h
  case h_29 => exact encode_of_decodeForget h
  case h_1 | h_2 | h_3 | h_7 | h_24 | h_25 => obtain ⟨rfl, rfl⟩ := noBytes_eq_some h; rfl
  case h_8 | h_12 | h_13 | h_22 => obtain ⟨b, c, rfl, rfl⟩ := twoBytes_eq_some h; rfl
  all_goals obtain ⟨b, rfl, rfl⟩ := oneByte_eq_some h; rfl

/-- Settles O6: the two directions, by the command and by the kind byte. -/
theorem hostCommandsRoundTrip : Obligations.HostCommandsRoundTrip := ⟨decodeCommand_encode, encodeCommand_of_decode⟩

/-! ## Transport reports (R214) -/

@[simp] theorem tagOf_tagByte (t : Tag) : tagOf (tagByte t) = t := by
  apply BitVec.eq_of_getLsbD_eq
  intro i hi
  simp [tagOf, tagByte, BitVec.getLsbD_setWidth, hi]
  omega

/-- The track entries of a content are those it was made of, with nothing left over. -/
theorem decodeEntries_bytes (es : List TrackField) : decodeEntries (es.flatMap TrackField.bytes) = (es, false) := by
  induction es with
  | nil => rfl
  | cons e es ih =>
    show ((⟨e.number, field3 _ _ _, e.kind⟩ : TrackField) :: (decodeEntries (es.flatMap TrackField.bytes)).1,
      (decodeEntries (es.flatMap TrackField.bytes)).2) = _
    rw [ih, field3_bytes]

/-- Settles O7: by the report, with the entries of an INDEX by the lemma above. -/
theorem transportReportsRoundTrip : Obligations.TransportReportsRoundTrip := by
  intro i d kind tag content h hd
  cases i
  case index e t n l es ragged =>
    cases ragged
    · cases h; cases hd
      show some (Instr.index d _ n (field3 _ _ _) (decodeEntries (es.flatMap TrackField.bytes)).1
        (decodeEntries (es.flatMap TrackField.bytes)).2) = _
      rw [decodeEntries_bytes, field3_bytes, tagOf_tagByte]
    · cases h
  case landed e t a =>
    cases h; cases hd
    show some (Instr.landed d _ (field3 _ _ _)) = _
    rw [field3_bytes, tagOf_tagByte]
  case trackSlip e t a =>
    cases h; cases hd
    show some (Instr.trackSlip d _ (field3 _ _ _)) = _
    rw [field3_bytes, tagOf_tagByte]
  case deckTrouble e c => cases h; cases hd; rfl
  case taken e t => cases h; cases hd; show some (Instr.taken d _) = _; rw [tagOf_tagByte]
  case declined e t r => cases h; cases hd; show some (Instr.declined d _ r) = _; rw [tagOf_tagByte]
  case seekMiss e t => cases h; cases hd; show some (Instr.seekMiss d _) = _; rw [tagOf_tagByte]
  case discIn e t => cases h; cases hd; show some (Instr.discIn d _) = _; rw [tagOf_tagByte]
  case slotEmpty e t => cases h; cases hd; show some (Instr.slotEmpty d _) = _; rw [tagOf_tagByte]
  case stowed e t => cases h; cases hd; show some (Instr.stowed d _) = _; rw [tagOf_tagByte]
  case parked e t => cases h; cases hd; show some (Instr.parked d _) = _; rw [tagOf_tagByte]
  all_goals cases h

end Sys2Proof.Proofs
end

section
/-!
PROOFS. Frames received byte by byte: the report frames of a deck link (R214, R216) and the host's frames (R186 to R190).
-/

namespace Sys2Proof.Proofs

open Sys2Proof.Machine

/-! ## Runs -/

theorem runAll_cons (i : Instr) (is : List Instr) (s t : State) (h : exec i s = .next t) : runAll (i :: is) s = runAll is t := by
  simp only [runAll, h]

theorem runAll_append (is js : List Instr) (s t : State) (h : runAll is s = some t) : runAll (is ++ js) s = runAll js t := by
  induction is generalizing s with
  | nil => cases h; rfl
  | cons i is ih =>
    simp only [runAll, List.cons_append] at h ⊢
    split at h
    next u hu => simpa only [hu] using ih u h
    all_goals cases h

/-! ## Sums and lengths -/

theorem byteSum_cons (b : Byte) (rest : List Byte) : byteSum (b :: rest) = b.toNat + byteSum rest := by
  have hfrom (n : Nat) : rest.foldl (fun n b => n + b.toNat) n = n + byteSum rest := by
    induction rest generalizing n with
    | nil => rfl
    | cons c rest ih =>
      have hcons : byteSum (c :: rest) = 0 + c.toNat + byteSum rest := ih (0 + c.toNat)
      rw [List.foldl_cons, ih, hcons]; omega
  rw [byteSum, List.foldl_cons, hfrom, Nat.zero_add]

/-- A check byte makes the sum a multiple of 256 (R189, R214). -/
theorem byteSum_check (body : List Byte) : byteSum (body ++ [byte (256 - byteSum body % 256)]) % 256 = 0 := by
  rw [byteSum_append_one]
  simp only [byte, BitVec.toNat_ofNat]
  omega

theorem controlLength_be2 (n : Nat) (rest : List Byte) (h : n < 65536) : controlLength (be2 n ++ rest) = some n := by
  show some (field2 (byte (n / 256)) (byte n)).toNat = _
  simp only [field2, byte, BitVec.toNat_append, BitVec.toNat_ofNat, Option.some.injEq]
  rw [← Nat.shiftLeft_add_eq_or_of_lt (by omega), Nat.shiftLeft_eq]
  omega

/-- The length bytes stand first, so that later bytes leave the length as it was (R214). -/
theorem controlLength_append (got rest : List Byte) (n : Nat) (h : controlLength got = some n) :
    controlLength (got ++ rest) = some n := by
  rcases got with _ | ⟨a, _ | ⟨b, got⟩⟩
  · cases h
  · cases h
  · exact h

/-! ## A control channel (R214, R216) -/

/-- The part while a control frame of a deck is being received. -/
def receiving (d : Deck) (got : List Byte) (s : State) : State := onLink d (fun l => { l with controlIn := some got }) s

theorem receiving_settled (d : Deck) (got : List Byte) (s : State) (h : Settled s) : Settled (receiving d got s) := by
  simpa [Settled, receiving] using h

/-- With the frame set aside the link is as it was before the frame. -/
theorem receiving_dropped (d : Deck) (got : List Byte) (s : State) (h : (s.deck d).link.controlIn = none) :
    onLink d (fun l => { l with controlIn := none }) (receiving d got s) = s := by
  cases d <;> simp only [State.deck] at h <;> simp only [receiving, onLink, onDeck, ← h]

theorem exec_controlByte (d : Deck) (b : Byte) (s : State) :
    exec (.deckLinkByteReceived d .control b) s = event s (controlByte d b) := rfl

/-- The sync byte begins a frame. -/
theorem exec_controlSync (d : Deck) (s : State) (h : Settled s) (hidle : (s.deck d).link.controlIn = none) :
    exec (.deckLinkByteReceived d .control 0xC3#8) s = .next (receiving d [] s) := by
  have hbyte : controlByte d 0xC3#8 s = receiving d [] s := by simp only [controlByte, hidle]; rfl
  rw [exec_controlByte, event_settled s _ h (by rw [hbyte]; simp [receiving]), hbyte]

theorem controlByte_eq (d : Deck) (got : List Byte) (b : Byte) (n : Nat) (s : State)
    (h : controlLength (got ++ [b]) = some n) :
    controlByte d b (receiving d got s) =
      if n < 2 ∨ 501 < n then discardControl d (receiving d got s)
      else if got.length + 1 = n + 3 then controlFrame d (got ++ [b]) (receiving d got s)
      else receiving d (got ++ [b]) s := by
  have hin : ((receiving d got s).deck d).link.controlIn = some got := by simp [receiving]
  have hon : onLink d (fun l => { l with controlIn := some (got ++ [b]) }) (receiving d got s) = receiving d (got ++ [b]) s := by
    cases d <;> rfl
  simp only [controlByte, hin, hon, h, List.length_append, List.length_cons, List.length_nil, Nat.zero_add]

/-- Before both length bytes are there every byte is kept. -/
theorem controlByte_short (d : Deck) (got : List Byte) (b : Byte) (s : State) (h : controlLength (got ++ [b]) = none) :
    controlByte d b (receiving d got s) = receiving d (got ++ [b]) s := by
  have hin : ((receiving d got s).deck d).link.controlIn = some got := by simp [receiving]
  have hon : onLink d (fun l => { l with controlIn := some (got ++ [b]) }) (receiving d got s) = receiving d (got ++ [b]) s := by
    cases d <;> rfl
  simp only [controlByte, hin, hon, h]

/-- A byte that does not complete the frame is kept. -/
theorem exec_controlByte_kept (d : Deck) (got : List Byte) (b : Byte) (s : State) (h : Settled s)
    (hlen : ∀ n, controlLength (got ++ [b]) = some n → 2 ≤ n ∧ n ≤ 501 ∧ got.length + 1 ≠ n + 3) :
    exec (.deckLinkByteReceived d .control b) (receiving d got s) = .next (receiving d (got ++ [b]) s) := by
  have hbyte : controlByte d b (receiving d got s) = receiving d (got ++ [b]) s := by
    cases hn : controlLength (got ++ [b]) with
    | none => exact controlByte_short d got b s hn
    | some n =>
      obtain ⟨h1, h2, h3⟩ := hlen n hn
      rw [controlByte_eq d got b n s hn, if_neg (by omega), if_neg h3]
  rw [exec_controlByte, event_settled _ _ (receiving_settled d got s h) (by rw [hbyte]; simp [receiving]), hbyte]

/-- The bytes between a frame's length and its check byte are kept one by one. -/
theorem runAll_controlBytes (d : Deck) (s : State) (h : Settled s) (n : Nat) (hn : 2 ≤ n ∧ n ≤ 501) (rest got : List Byte)
    (hgot : controlLength got = some n) (hlen : got.length + rest.length < n + 3) :
    runAll (rest.map (.deckLinkByteReceived d .control)) (receiving d got s) = some (receiving d (got ++ rest) s) := by
  induction rest generalizing got with
  | nil => simp [runAll]
  | cons b rest ih =>
    have hlength := controlLength_append got [b] n hgot
    simp only [List.length_cons] at hlen
    rw [List.map_cons, runAll_cons _ _ _ _ (exec_controlByte_kept d got b s h ?_), ih _ hlength (by simp; omega)]
    · simp
    · intro m hm
      rw [hlength] at hm; cases hm
      omega

/-- All bytes of a frame but its check byte are kept. -/
theorem runAll_controlBody (d : Deck) (s : State) (h : Settled s) (hidle : (s.deck d).link.controlIn = none) (kind tag : Byte)
    (content : List Byte) (hc : content.length ≤ 499) :
    runAll ((0xC3#8 :: (be2 (2 + content.length) ++ kind :: tag :: content)).map (.deckLinkByteReceived d .control)) s =
      some (receiving d (be2 (2 + content.length) ++ kind :: tag :: content) s) := by
  have hlength := controlLength_be2 (2 + content.length) [] (by omega)
  simp only [be2, List.append_nil] at hlength
  simp only [be2, List.map_cons, List.cons_append, List.nil_append]
  rw [runAll_cons _ _ _ _ (exec_controlSync d s h hidle),
    runAll_cons _ _ _ _ (exec_controlByte_kept d [] _ s h (by intro n hn; cases hn)),
    runAll_cons _ _ _ _ (exec_controlByte_kept d _ _ s h ?_)]
  · exact runAll_controlBytes d s h (2 + content.length) (by omega) (kind :: tag :: content) _ hlength (by simp; omega)
  · intro n hn
    rw [List.nil_append, List.singleton_append, hlength] at hn; cases hn
    simp only [List.nil_append, List.length_singleton]
    omega

/-- A row that a control frame spells is the event of its report (R17, R26). -/
theorem exec_report (i : Instr) (x : Byte × Byte × List Byte) (s : State) (h : encodeReport i = some x) :
    exec i s = event s (linkReport i) := by
  cases i
  case taken | declined | landed | seekMiss | trackSlip | discIn | slotEmpty | index | stowed | parked | deckTrouble => rfl
  all_goals cases h

theorem report_content_length (i : Instr) (kind tag : Byte) (content : List Byte)
    (h : encodeReport i = some (kind, tag, content)) (hw : i.wellFormed = true) : content.length ≤ 499 := by
  cases i
  case index => exact (Laws.Fits.index ..).2 _ _ _ h hw
  case taken | declined | landed | seekMiss | trackSlip | discIn | slotEmpty | stowed | parked | deckTrouble =>
    cases h; exact Nat.le_of_ble_eq_true rfl
  all_goals cases h

/-- The whole frame of a report, at its check byte, is the report's own effect. -/
theorem controlByte_check (i : Instr) (d : Deck) (kind tag : Byte) (content : List Byte) (s : State)
    (h : encodeReport i = some (kind, tag, content)) (hd : linkDeck i = some d) (hc : content.length ≤ 499)
    (hidle : (s.deck d).link.controlIn = none) (body : List Byte) (hbody : body = be2 (2 + content.length) ++ kind :: tag :: content) :
    controlByte d (byte (256 - byteSum body % 256)) (receiving d body s) = linkReport i s := by
  have hlength : controlLength (body ++ [byte (256 - byteSum body % 256)]) = some (2 + content.length) := by
    rw [hbody, List.append_assoc]; exact controlLength_be2 _ _ (by omega)
  have hfull : body.length + 1 = 2 + content.length + 3 := by simp [hbody, be2]; omega
  have hreport : decodeReport d kind tag content = some i := transportReportsRoundTrip i d kind tag content h hd
  rw [controlByte_eq d body _ _ s hlength, if_neg (by omega), if_pos hfull]
  generalize hcheck : byte (256 - byteSum body % 256) = check
  have hsum : byteSum (body ++ [check]) % 256 = 0 := by rw [← hcheck]; exact byteSum_check body
  have hshape : body ++ [check] = byte ((2 + content.length) / 256) :: byte (2 + content.length) :: kind :: tag :: (content ++ [check]) := by
    simp [hbody, be2]
  rw [hshape] at hsum ⊢
  simp only [controlFrame, hsum, if_true, List.dropLast_concat, hreport, receiving_dropped d body s hidle]

/-- Settles O8: every byte but the last is kept, and the last carries out the report. -/
theorem reportFrameBytesActAsTheReport : Obligations.ReportFrameBytesActAsTheReport := by
  intro i d kind tag content s h hd hw hs hidle
  have hc := report_content_length i kind tag content h hw
  refine ⟨finishEntry (linkReport i s), ?_, ?_⟩
  · rw [exec_report i _ s h, event, whenUp_high _ _ hs.1]
  · have hbody := runAll_controlBody d s hs hidle kind tag content hc
    have hlast : exec (.deckLinkByteReceived d .control
        (byte (256 - byteSum (be2 (2 + content.length) ++ kind :: tag :: content) % 256)))
          (receiving d (be2 (2 + content.length) ++ kind :: tag :: content) s) = .next (finishEntry (linkReport i s)) := by
      rw [exec_controlByte, event, whenUp_high _ _ (receiving_settled d _ s hs).1,
        controlByte_check i d kind tag content s h hd hc hidle _ rfl]
    simp only [reportFrameBytes, controlFrameBytes]
    rw [← List.cons_append, List.map_append, runAll_append _ _ _ _ hbody, List.map_singleton, runAll_cons _ _ _ _ hlast]
    rfl

/-! ## The host's frames (R186 to R190) -/

/-- The part while a host frame is being received, its length byte read. -/
def hearing (len : Nat) (got : List Byte) (s : State) : State :=
  { s with port := { s.port with receiver := .body len got } }

theorem exec_hostByte_hearing (len : Nat) (got : List Byte) (b : Byte) (s : State) (hs : Up s) (h : got.length ≠ len) :
    exec (.hostByteReceived b) (hearing len got s) = .next (hearing len (got ++ [b]) s) := by
  rw [exec_hostByteReceived b (hearing len got s) hs, hostByte_body b (hearing len got s) len got rfl, if_neg h]; rfl

/-- The bytes of a frame's body are kept one by one. -/
theorem runAll_hostBytes (len : Nat) (s : State) (hs : Up s) (rest got : List Byte) (h : got.length + rest.length ≤ len) :
    runAll (rest.map .hostByteReceived) (hearing len got s) = some (hearing len (got ++ rest) s) := by
  induction rest generalizing got with
  | nil => simp [runAll]
  | cons b rest ih =>
    simp only [List.length_cons] at h
    rw [List.map_cons, runAll_cons _ _ _ _ (exec_hostByte_hearing len got b s hs (by omega)), ih _ (by simp; omega)]
    simp

theorem runAll_hostBody (kind tag : Byte) (payload : List Byte) (s : State) (hs : Up s) (hidle : s.port.receiver = .hunting)
    (hp : payload.length ≤ 64) :
    runAll ((0xA5#8 :: byte (2 + payload.length) :: kind :: tag :: payload).map .hostByteReceived) s =
      some (hearing (2 + payload.length) (kind :: tag :: payload) s) := by
  have hlen : (byte (2 + payload.length)).toNat = 2 + payload.length := by simp [byte]; omega
  have hsync : exec (.hostByteReceived 0xA5#8) s = .next { s with port := { s.port with receiver := .length } } := by
    rw [exec_hostByteReceived _ s hs, hostByte_hunting _ s hidle, if_pos rfl]
  have hlength : exec (.hostByteReceived (byte (2 + payload.length))) { s with port := { s.port with receiver := .length } } =
      .next (hearing (2 + payload.length) [] s) := by
    rw [exec_hostByteReceived _ { s with port := { s.port with receiver := .length } } hs,
      hostByte_length _ { s with port := { s.port with receiver := .length } } rfl, if_pos (by omega), hlen]
    rfl
  rw [List.map_cons, runAll_cons _ _ _ _ hsync, List.map_cons, runAll_cons _ _ _ _ hlength]
  exact runAll_hostBytes _ s hs (kind :: tag :: payload) [] (by simp; omega)

/-- A host command's row is the take by its owner (R191). -/
theorem exec_hostCommand (i : Instr) (x : Byte × List Byte) (s : State) (h : encodeCommand i = some x) :
    exec i s = taken s (hostAnswer i) := by
  cases i
  case ident | resetPart | takeNotices | setNoticeMask | setPool | standby | wake | load | unload | resetDeck | setDeck | queryDeck
    | queryDisc | setZone | play | cue | pause | unpause | stop | setLevel | setMark | queryZone | setShock | shockReport
    | clearShock | setResume | queryResume | resume | forget => rfl
  all_goals cases h

/-- The kinds of host commands lie below 80H (R210). -/
theorem command_kind_lt (i : Instr) (kind : Byte) (payload : List Byte) (h : encodeCommand i = some (kind, payload)) :
    kind.toNat < 128 := by
  cases i
  case standby o => cases o <;> cases h <;> exact Nat.le_of_ble_eq_true rfl
  case cue z o => cases o <;> cases h <;> exact Nat.le_of_ble_eq_true rfl
  case setMark z o => cases o <;> cases h <;> exact Nat.le_of_ble_eq_true rfl
  case forget o => cases o <;> cases h <;> exact Nat.le_of_ble_eq_true rfl
  all_goals cases h
  all_goals exact Nat.le_of_ble_eq_true rfl

theorem command_payload_length (i : Instr) (kind : Byte) (payload : List Byte) (h : encodeCommand i = some (kind, payload)) :
    payload.length ≤ 64 := by
  cases i
  case standby o => exact (Laws.Fits.standby o).1 _ _ h
  case cue z o => exact (Laws.Fits.cue z o).1 _ _ h
  case setMark z o => exact (Laws.Fits.setMark z o).1 _ _ h
  case forget o => exact (Laws.Fits.forget o).1 _ _ h
  all_goals cases h
  all_goals exact Nat.le_of_ble_eq_true rfl

/-- A frame in hand that spells a host command is answered by its owner (R191). -/
theorem answerFrame_command (i : Instr) (kind tag : Byte) (payload : List Byte) (s : State)
    (h : encodeCommand i = some (kind, payload)) :
    answerFrame (.good kind tag payload) s = (hostAnswer i s, kind + 0x80#8, tag) := by
  have hkind := command_kind_lt i kind payload h
  simp only [answerFrame, if_neg (Nat.not_le.2 hkind), hostCommandsRoundTrip.1 i kind payload h]

/-- The check byte of a host frame makes it GOOD (R189). -/
theorem frameOf_check (kind tag : Byte) (payload : List Byte) (hp : payload.length ≤ 64) :
    frameOf (2 + payload.length)
        (kind :: tag :: payload ++ [byte (256 - byteSum (byte (2 + payload.length) :: kind :: tag :: payload) % 256)]) =
      .good kind tag payload := by
  have hlen : (byte (2 + payload.length)).toNat = 2 + payload.length := by simp [byte]; omega
  have hsum := byteSum_check (byte (2 + payload.length) :: kind :: tag :: payload)
  rw [byteSum_append_one, byteSum_cons (byte _), hlen] at hsum
  rw [Nat.add_comm 2] at hsum ⊢
  rw [frameOf_payload, byteSum_cons (byte _), Nat.add_comm payload.length 2, hlen, Nat.add_comm 2, if_pos hsum]

/-- The check byte completes the frame, which is taken and answered at once (R189 to R191). -/
theorem exec_hostByte_check (i : Instr) (kind tag : Byte) (payload : List Byte) (s : State)
    (h : encodeCommand i = some (kind, payload)) (hs : Up s) (hidle : s.port.receiver = .hunting) (hbuffer : s.port.buffer = [])
    (hhand : s.port.inHand = false) (htransmitter : s.port.transmitter = none) (hdue : s.port.resetDue = false) :
    exec (.hostByteReceived (byte (256 - byteSum (byte (2 + payload.length) :: kind :: tag :: payload) % 256)))
        (hearing (2 + payload.length) (kind :: tag :: payload) s) =
      .next (onPort (fun p => { p with
        inHand := true
        transmitter := some (replyFrame (kind + 0x80#8) tag
          (hostAnswer i { s with port := { s.port with buffer := [.good kind tag payload] } }).2) })
        (settle (hostAnswer i { s with port := { s.port with buffer := [.good kind tag payload] } }))) := by
  let held : State := { s with port := { s.port with buffer := [.good kind tag payload] } }
  have hcomplete (f : HostFrame) : completeFrame f (hearing (2 + payload.length) (kind :: tag :: payload) s) =
      takeFrame { s with port := { s.port with buffer := [f] } } := by
    have hroom : s.port.buffer.length < 2 := by simp [hbuffer]
    refine (if_pos hroom).trans (congrArg takeFrame ?_)
    simp only [hearing, onPort, hidle, hbuffer, List.nil_append]
  have htake := takeFrame_cons held (.good kind tag payload) [] hhand htransmitter hdue rfl
  rw [answerFrame_command i kind tag payload held h] at htake
  rw [exec_hostByteReceived _ (hearing (2 + payload.length) (kind :: tag :: payload) s) hs,
    hostByte_body _ (hearing (2 + payload.length) (kind :: tag :: payload) s) _ _ rfl, if_pos (by simp; omega),
    frameOf_check kind tag payload (command_payload_length i kind payload h), hcomplete]
  exact congrArg _ htake

/-- Settles O9: the body's bytes are kept, and the check byte completes a good frame, which is taken at once. -/
theorem hostFrameBytesAreAnswered : Obligations.HostFrameBytesAreAnswered := by
  intro i kind tag payload s h hs hidle hbuffer hhand htransmitter hdue
  have hp := command_payload_length i kind payload h
  let held : State := { s with port := { s.port with buffer := [.good kind tag payload] } }
  refine ⟨settle (hostAnswer i held), (hostAnswer i held).2, ?_, rfl, ?_⟩
  · rw [exec_hostCommand i _ _ h]; exact taken_up held (hostAnswer i) hs
  · let body := byte (2 + payload.length) :: kind :: tag :: payload
    have hlast := exec_hostByte_check i kind tag payload s h hs hidle hbuffer hhand htransmitter hdue
    show runAll ((0xA5#8 :: body ++ [byte (256 - byteSum body % 256)]).map .hostByteReceived) s = _
    rw [List.map_append, runAll_append _ _ _ _ (runAll_hostBody kind tag payload s hs hidle hp), List.map_singleton,
      runAll_cons _ _ _ _ hlast]
    rfl

end Sys2Proof.Proofs
end

section
/-!
PROOFS. The layouts of notice records, deck pages, zone pages and command frames (R209, R212 to R214).
-/

namespace Sys2Proof.Proofs

open Sys2Proof.Machine

/-! ## Fields laid out (R209) -/

/-- A field of zeros. -/
@[simp] theorem laidOut_zeros (k : Nat) : laidOut [(k, 0)] = List.replicate k 0 := by
  simp [laidOut, List.map_const']

/-- A field of one byte comes first. -/
theorem laidOut_cons_one (v : Nat) (rest : List (Nat × Nat)) : laidOut ((1, v) :: rest) = byte v :: laidOut rest := by
  rw [laidOut_cons, laidOut_one]; rfl

theorem laidOut_cons_two (v : Nat) (rest : List (Nat × Nat)) : laidOut ((2, v) :: rest) = be2 v ++ laidOut rest := by
  rw [laidOut_cons, laidOut_two]

theorem laidOut_cons_three (v : Nat) (rest : List (Nat × Nat)) : laidOut ((3, v) :: rest) = be3 v ++ laidOut rest := by
  rw [laidOut_cons, laidOut_three]

theorem laidOut_cons_four (v : Nat) (rest : List (Nat × Nat)) : laidOut ((4, v) :: rest) = be4 v ++ laidOut rest := by
  rw [laidOut_cons, laidOut_four]

theorem zero_eq_byte : (0 : Byte) = byte 0 := rfl
theorem one_eq_byte : (1 : Byte) = byte 1 := rfl
theorem two_eq_byte : (2 : Byte) = byte 2 := rfl
theorem three_eq_byte : (3 : Byte) = byte 3 := rfl

/-- A named value that may be none, already mapped to its number. -/
theorem orByte_eq (none_ : Byte) (o : Option Nat) : orByte none_ o = byte (o.getD none_.toNat) := by
  cases o
  · simp [orByte, byte]
  · rfl

theorem spot4_eq (p : Option Spot) : spot4 p = laidOut (spotFields p) := by
  simp only [spot4, spotFields, addr3_eq, laidOut_cons_three, laidOut_one]

/-! ## Notice records (R212) -/

/-- A notice's content is its fields, with zeros behind them. -/
theorem notice_bytes (n : Notice) (unit kind : Nat) (content : List (Nat × Nat)) (hunit : n.unit.code = unit)
    (hkind : n.body.kind.position = kind) (hcontent : n.body.bytes = laidOut content) (hlen : (laidOut content).length = 8) :
    n.bytes = laidOut ([(1, kind), (1, unit), (1, n.count)] ++ content) ∧ n.bytes.length = 11 := by
  constructor
  · simp only [Notice.bytes, hkind, hunit, hcontent, List.cons_append, List.nil_append, laidOut_cons_one]
  · simp only [Notice.bytes, hcontent, List.length_append, hlen, List.length_cons, List.length_nil]

/-- The layouts of notice contents, kind by kind (R212). -/
theorem noticeBody_bytes (b : NoticeBody) (kind : Nat) (content : List (Nat × Nat))
    (h : match b with
       | .zoneState st why => kind = 0 ∧ content = [(1, st.code), (1, orFF (why.map StopReason.code)), (6, 0)]
       | .cueTaken a => kind = 1 ∧ content = [(3, a), (5, 0)]
       | .markReached a => kind = 2 ∧ content = [(3, a), (5, 0)]
       | .deckState st why c code =>
         kind = 3 ∧ content = [(1, st.code), (1, orFF (why.map DeckReason.code)), (1, orFF (c.map FaultCause.code)), (1, orFF code), (4, 0)]
       | .discIdentified f => kind = 4 ∧ content = [(4, f.toNat), (4, 0)]
       | .repairAbandoned a m => kind = 5 ∧ content = [(3, a), (1, m), (4, 0)]
       | .trayChanged l => kind = 6 ∧ content = [(1, if l = .opened then 0 else 1), (7, 0)]
       | .resumeMatch z a f => kind = 7 ∧ content = [(1, if z = .one then 1 else 2), (3, a), (4, f.toNat)]
       | .shock m => kind = 8 ∧ content = [(2, m), (6, 0)]
       | .linkError c => kind = 9 ∧ content = [(1, if c = .timeout then 0 else 1), (7, 0)]
       | .wake => kind = 10 ∧ content = [(8, 0)]
       | .resetDone k => kind = 11 ∧ content = [(1, if k = .powerOn then 0 else 1), (7, 0)]) :
    b.kind.position = kind ∧ b.bytes = laidOut content ∧ (laidOut content).length = 8 := by
  cases b <;> obtain ⟨rfl, rfl⟩ := h <;> refine ⟨rfl, ?_⟩
  case zoneState => simp [NoticeBody.bytes, padded, named_eq, laidOut_cons_one]
  case cueTaken => simp [NoticeBody.bytes, padded, laidOut_cons_three, be3, be2]
  case markReached => simp [NoticeBody.bytes, padded, laidOut_cons_three, be3, be2]
  case deckState st why c code => cases code <;> simp [NoticeBody.bytes, padded, named_eq, laidOut_cons_one]
  case discIdentified => simp [NoticeBody.bytes, padded, laidOut_cons_four, be4, be3, be2]
  case repairAbandoned => simp [NoticeBody.bytes, padded, laidOut_cons_three, laidOut_cons_one, be3, be2]
  case trayChanged l => cases l <;> simp [NoticeBody.bytes, padded, laidOut_cons_one, levelCode]
  case resumeMatch z a f =>
    cases z <;> simp [NoticeBody.bytes, padded, laidOut_cons_one, laidOut_cons_three, zoneCode, be4, be3, be2]
  case shock => simp [NoticeBody.bytes, padded, laidOut_cons_two, be2]
  case linkError c => cases c <;> simp [NoticeBody.bytes, padded, laidOut_cons_one]
  case wake => simp [NoticeBody.bytes, padded]
  case resetDone k => cases k <;> simp [NoticeBody.bytes, padded, laidOut_cons_one]

/-! ## Deck pages (R36, R59, R81, R107, R213) -/

/-- The fields of a page one by one, each in the size it has. -/
theorem link_page (l : Link) :
    l.page = laidOut
      [(1, 0), (1, l.state.code), (1, orFF (l.cause.reason.map DeckReason.code)), (1, orFF (l.faultCause.map FaultCause.code)),
        (1, orFF l.trouble), (1, orFF (l.outstanding.map fun o => o.command.code)),
        (1, orFF (l.outstanding.map fun o => o.tag.toNat)), (1, orFF (l.waiting.map fun w => w.command.code)),
        (1, orFF (l.runTag.map fun g => g.toNat)), (3, orFFFFFF l.lastLanded),
        (1, l.lastSlot.getD Config.noSlotByte.toNat), (2, l.seekTime), (1, l.decline.getD Config.noDeclineByte.toNat),
        (2, l.resends), (2, l.stales), (2, l.declines)] := by
  simp only [Link.page, zero_eq_byte, named_eq, addr3_eq, orByte_eq, laidOut_cons_one, laidOut_cons_two, laidOut_cons_three, laidOut_nil,
    Option.map_id_fun, List.cons_append, List.nil_append, List.append_nil, List.append_assoc]
  rfl

theorem intake_page (i : Intake) :
    i.page = laidOut
      [(1, 1), (2, i.stats.placedNew), (2, i.stats.merged), (2, i.stats.repaired), (2, i.stats.unplaced), (2, i.stats.stray),
        (2, i.stats.overflows), (2, i.stats.disagreements), (2, i.stats.listFull), (2, i.stats.voided), (1, i.ctx.status.code),
        (1, i.ctx.job.code), (3, i.ctx.target), (1, i.ctx.k), (3, orFFFFFF i.ctx.anchor), (3, orFFFFFF i.ctx.lastPlaced),
        (1, i.ctx.streak), (1, i.ctx.outcome.code), (3, orFFFFFF (i.abandoned.map (·.addr))),
        (1, (i.abandoned.map fun p => p.seg.toNat).getD 0), (1, i.abandonedBy)] := by
  simp only [Intake.page, one_eq_byte, addr3_eq, laidOut_cons_one, laidOut_cons_two, laidOut_cons_three, laidOut_nil, List.cons_append,
    List.nil_append, List.append_assoc]

/-- The numbers of records in each state, in the order of R64. -/
theorem countOf_bytes (r : Ring) :
    laidOut ([SlotState.good, .doubtful, .repaired, .final, .missing, .void].map
        (fun st => (2, (r.records.filter fun q => q.state == st).length))) =
      be2 (r.countOf .good) ++ be2 (r.countOf .doubtful) ++ be2 (r.countOf .repaired) ++ be2 (r.countOf .final)
        ++ be2 (r.countOf .missing) ++ be2 (r.countOf .void) := by
  simp only [List.map_cons, List.map_nil, laidOut_cons_two, laidOut_nil, List.append_nil, List.append_assoc]
  rfl

theorem ring_page (r : Ring) (effective : Nat) :
    r.page effective = laidOut
      ([(1, 2), (2, r.cap), (2, r.high), (2, r.low), (2, effective), (2, r.records.length), (2, r.goodDepth)]
        ++ [SlotState.good, .doubtful, .repaired, .final, .missing, .void].map
             (fun st => (2, (r.records.filter fun q => q.state == st).length))
        ++ [(3, orFFFFFF (r.records.head?.map (·.addr))), (3, orFFFFFF (r.records.getLast?.map (·.addr))),
            (1, r.tag.toNat), (1, r.phase.code), (3, orFFFFFF r.fetchAddr), (3, orFFFFFF r.fetchEnd)]
        ++ rangeFields r.cueCopy ++ [(1, flagValue [r.overflow]), (2, r.flushes), (2, r.truncations), (2, r.peak)]) := by
  rw [laidOut_append, laidOut_append, laidOut_append, laidOut_append, countOf_bytes]
  delta Ring.page
  simp only [Ring.depth, two_eq_byte, addr3_eq, range6_eq, flags_eq, laidOut_cons_one, laidOut_cons_two,
    laidOut_cons_three, laidOut_nil, List.cons_append, List.nil_append, List.append_assoc, List.append_nil]

theorem entry_bytes (es : List Entry) :
    Entry.bytes es.head? = laidOut (match es with
      | e :: _ => [(3, e.first), (1, e.seg.toNat), (1, e.count), (1, flagValue [e.missing, e.active]), (1, e.attempts)]
      | [] => [(3, 0xFFFFFF), (4, 0)]) := by
  cases es with
  | nil => simp only [List.head?_nil, Entry.bytes, laidOut_cons_three, laidOut_zeros]; rfl
  | cons e es =>
    simp only [List.head?_cons, Entry.bytes, flags_eq, laidOut_cons_three, laidOut_cons_one, laidOut_nil]

theorem planner_page (p : Planner) :
    p.page = laidOut
      ([(1, 3), (1, p.job.code), (1, p.phase.code)] ++ spotFields p.target
        ++ [(1, flagValue [p.recovery, p.flushAwaited, p.backoff]), (1, p.seekMisses), (1, p.voids)]
        ++ spotFields p.backoffTarget
        ++ [(3, orFFFFFF p.lastSlip), (1, p.entries.length), (1, (p.entries.filter (·.missing)).length)]
        ++ (match p.entries with
            | e :: _ => [(3, e.first), (1, e.seg.toNat), (1, e.count), (1, flagValue [e.missing, e.active]), (1, e.attempts)]
            | [] => [(3, 0xFFFFFF), (4, 0)])
        ++ [(2, p.floor), (2, p.window), (2, p.lead), (2, p.threshold), (1, p.limit), (1, p.overlap),
            (2, p.stats.repairRuns), (2, p.stats.runOns), (2, p.stats.overtaken), (2, p.stats.abandoned),
            (2, p.stats.seekMisses)]) := by
  simp only [Planner.page, three_eq_byte, spot4_eq, addr3_eq, flags_eq, entry_bytes, laidOut_append, laidOut_cons_one,
    laidOut_cons_two, laidOut_cons_three, laidOut_nil, List.cons_append, List.nil_append, List.append_assoc, List.append_nil]

/-! ## Zone pages (R134, R213) -/

theorem zone_page0 (n : Zone) :
    n.page0 = laidOut
      ([(1, 0), (1, n.state.code), (1, n.stopReason.code), (1, n.source.code), (1, n.set.policy.code), (2, n.set.start),
        (2, n.set.restart), (2, n.set.step), (1, n.set.period), (1, n.set.span), (2, n.set.recover)]
        ++ rangeFields n.range ++ rangeFields n.cue ++ rangeFields n.pendingRange ++ rangeFields n.pendingCue
        ++ [(3, orFFFFFF n.position)]) := by
  simp only [Zone.page0, zero_eq_byte, ZoneSettings.bytes, addr3_eq, range6_eq, laidOut_append, laidOut_cons_one, laidOut_cons_two,
    laidOut_cons_three, laidOut_nil, List.cons_append, List.nil_append, List.append_assoc, List.append_nil]

theorem zone_page1 (n : Zone) :
    n.page1 = laidOut
      [(1, 1), (1, flagValue [n.endTaken, n.tag, n.staged.isSome, n.block.isSome]), (3, orFFFFFF (n.block.map (·.addr))),
        (1, orFF (n.block.map fun h => h.state.code)), (2, n.carry.left.toNat), (2, n.carry.right.toNat), (2, n.ramp),
        (2, n.rampTarget), (2, n.level), (2, n.staged.getD 0),
        (1, flagValue [n.mutes.pause, n.mutes.stop, n.mutes.starve, n.mutes.protect, n.mutes.conceal, n.mutes.switch]),
        (3, orFFFFFF n.mark), (2, n.stats.interpolated), (2, n.stats.held), (2, n.stats.longRuns), (2, n.stats.clamped),
        (2, n.stats.starves)] := by
  simp only [Zone.page1, one_eq_byte, Causes.byte, flags_eq, named_eq, addr3_eq, laidOut_cons_one, laidOut_cons_two, laidOut_cons_three,
    laidOut_nil, List.cons_append, List.nil_append, List.append_assoc, List.append_nil]

/-! ## Command frames (R214) -/

theorem sentBytes_hasSent (c : DeckCommand) (l : Link) :
    (Link.hasSent c l).sentBytes = l.sentBytes ++ SentCommand.frame { command := c, tag := l.nextTag } := by
  simp [Link.sentBytes, Link.hasSent]

theorem tagByte_eq (t : Tag) : tagByte t = byte t.toNat := by
  apply BitVec.eq_of_toNat_eq
  simp [tagByte, byte]

/-- The content of a command's frame, in fields (R214). -/
def commandFields : DeckCommand → List (Nat × Nat)
  | .seek a => [(3, a)]
  | .fetchDisc slot => [(1, slot)]
  | .stall | .proceed | .readIndex | .stowDisc _ | .park _ | .linkReset => []

theorem content_eq (c : DeckCommand) : c.content = laidOut (commandFields c) := by
  cases c <;> simp [DeckCommand.content, commandFields]

/-- A command frame is its fields and a check byte that makes their sum a multiple of 256. -/
theorem commandFrame_eq (c : DeckCommand) (tag : Tag) :
    ∃ check : Byte,
      let body := laidOut ([(2, 2 + (laidOut (commandFields c)).length), (1, c.code), (1, tag.toNat)] ++ commandFields c) ++ [check]
      SentCommand.frame { command := c, tag := tag } = 0xC3#8 :: body ∧ byteSum body % 256 = 0 := by
  refine ⟨_, ?_, byteSum_check _⟩
  simp only [SentCommand.frame, controlFrameBytes, content_eq, tagByte_eq, laidOut_cons_two, laidOut_cons_one,
    List.append_assoc, List.cons_append, List.nil_append]

/-- Settles O10: each layout by the lemma of its record. -/
theorem recordsAndFramesAreLaidOut : Obligations.RecordsAndFramesAreLaidOut := by
  refine ⟨fun n unit kind content hunit hbody => ?_, fun u => ⟨⟨_, _, fun n h => ?_, fun n h => ?_, link_page u.link⟩,
    intake_page u.intake, ring_page u.ring, planner_page u.plan⟩, fun n => ⟨zone_page0 n, zone_page1 n⟩,
    fun c tag => ⟨fun l h => ?_, c.code, commandFields c, ?_⟩⟩
  · have hunit : n.unit.code = unit := by
      rcases hu : n.unit with _ | z | d <;> rw [hu] at hunit
      · exact hunit.symm
      · cases z <;> exact hunit.symm
      · cases d <;> exact hunit.symm
    obtain ⟨hkind, hbytes, hlen⟩ := noticeBody_bytes n.body kind content hbody
    exact notice_bytes n unit kind content hunit hkind hbytes hlen
  · rw [h]; rfl
  · rw [h]; rfl
  · rw [sentBytes_hasSent, h]
  · obtain ⟨check, hframe, hsum⟩ := commandFrame_eq c tag
    refine ⟨check, hframe, hsum, ?_⟩
    cases c <;> exact ⟨rfl, rfl⟩

end Sys2Proof.Proofs
end

section
/-!
PROOFS. Arithmetic of the part: the merge of a revisit (R56), rounding, interpolation, gain and output (R143, R149, R150).
-/

namespace Sys2Proof.Proofs

open Sys2Proof.Machine

/-! ## The merge of a revisit (R56) -/

/-- One position of a merge, in front of the others. -/
theorem mergeSamples_cons (missing m n : Bool) (v w : Sample) (vs ws : List Sample) (ms ns : List Bool) :
    mergeSamples missing (v :: vs) (m :: ms) (w :: ws) (n :: ns) =
      ((if m && (!n || missing) then w else v) :: (mergeSamples missing vs ms ws ns).1,
        (m && n) :: (mergeSamples missing vs ms ws ns).2.1,
        (mergeSamples missing vs ms ws ns).2.2 + (if !m && !n && v != w then 1 else 0)) := by
  cases m <;> cases n <;> simp only [mergeSamples]
  case true.true => cases missing <;> rfl
  case false.false => by_cases h : v = w <;> simp [h]
  all_goals rfl

/-- Settles O54: position by position along the four lists. -/
theorem mergeTakesNonDoubtfulSamples : Obligations.MergeTakesNonDoubtfulSamples := by
  intro missing vs ws ms ns hms hws hns
  induction vs generalizing ws ms ns with
  | nil =>
    obtain rfl := List.eq_nil_of_length_eq_zero hms.symm
    exact ⟨rfl, rfl, fun i v w m n h => (by cases h), rfl⟩
  | cons v vs ih =>
    obtain ⟨m, ms, rfl⟩ := List.exists_cons_of_length_eq_add_one hms.symm
    obtain ⟨w, ws, rfl⟩ := List.exists_cons_of_length_eq_add_one hws.symm
    obtain ⟨n, ns, rfl⟩ := List.exists_cons_of_length_eq_add_one hns.symm
    obtain ⟨hxs, hks, hat, hcount⟩ := ih ws ms ns (Nat.succ.inj hms) (Nat.succ.inj hws) (Nat.succ.inj hns)
    intro out
    simp only [show out = _ from mergeSamples_cons missing m n v w vs ws ms ns]
    refine ⟨by simp [hxs], by simp [hks], fun i v' w' m' n' hv hm hw hn => ?_, ?_⟩
    · cases i with
      | zero => cases hv; cases hm; cases hw; cases hn; exact ⟨rfl, rfl⟩
      | succ i => exact hat i v' w' m' n' hv hm hw hn
    · simp only [List.zip_cons_cons, List.countP_cons, hcount]

/-! ## Rounding (0.6) -/

/-- The quotient that rounding half away from zero gives of a magnitude. -/
def roundedQuotient (m den : Nat) : Nat := (2 * m + den) / (2 * den)

theorem roundAway_eq (num : Int) (den : Nat) :
    roundAway num den = if num < 0 then -(roundedQuotient num.natAbs den : Int) else (roundedQuotient num.natAbs den : Int) := rfl

/-- A quotient is rounded half away from zero (0.6). -/
theorem rounded_roundAway (num : Int) (den : Nat) (hden : 0 < den) : Rounded num den (roundAway num den) := by
  have hdiv := Nat.div_add_mod (2 * num.natAbs + den) (2 * den)
  have hmod := Nat.mod_lt (2 * num.natAbs + den) (show 0 < 2 * den by omega)
  rw [Nat.mul_assoc, Nat.mul_comm den] at hdiv
  change 2 * (roundedQuotient num.natAbs den * den) + _ = _ at hdiv
  rw [roundAway_eq, Rounded]
  split
  next hneg =>
    rw [Int.natAbs_neg, Int.natAbs_natCast, Int.neg_mul, ← Int.natCast_mul]
    generalize roundedQuotient num.natAbs den * den = p at *
    exact ⟨by omega, by omega⟩
  next hpos =>
    rw [Int.natAbs_natCast, ← Int.natCast_mul]
    generalize roundedQuotient num.natAbs den * den = p at *
    exact ⟨by omega, by omega⟩

/-- A quotient of at most `top` rounds to at most `top`. -/
theorem roundedQuotient_le (m den top : Nat) (hden : 0 < den) (h : m ≤ top * den) : roundedQuotient m den ≤ top := by
  rw [roundedQuotient, ← Nat.lt_succ_iff, Nat.div_lt_iff_lt_mul (by omega)]
  have : (top + 1) * (2 * den) = 2 * (top * den) + 2 * den := by
    rw [Nat.succ_mul, Nat.mul_left_comm]
  simp only [Nat.succ_eq_add_one]
  omega

/-! ## Interpolation (R143) -/

theorem toInt_ofInt_of_mem (v : Int) (h : -32768 ≤ v ∧ v ≤ 32767) : (BitVec.ofInt 16 v).toInt = v := by
  rw [BitVec.toInt_ofInt]
  simp only [Int.bmod, Nat.reducePow]
  omega

theorem sample_range (x : Sample) : -32768 ≤ x.toInt ∧ x.toInt ≤ 32767 := by
  have h1 := BitVec.le_toInt x
  have h2 := BitVec.toInt_lt (x := x)
  omega

/-- An interpolated value lies between the run's neighbours. -/
theorem interpolate_between (a b : Int) (n k : Nat) (hk : k ≤ n) :
    a ≤ interpolate a b n k ∧ interpolate a b n k ≤ b ∨ b ≤ interpolate a b n k ∧ interpolate a b n k ≤ a := by
  have hle : roundedQuotient ((b - a) * k).natAbs (n + 1) ≤ (b - a).natAbs := by
    refine roundedQuotient_le _ _ _ (Nat.succ_pos n) ?_
    rw [Int.natAbs_mul, Int.natAbs_natCast]
    exact Nat.mul_le_mul_left _ (Nat.le_succ_of_le hk)
  rw [interpolate, roundAway_eq]
  split
  next hneg =>
    have : b - a < 0 :=
      Int.not_le.1 fun hpos => absurd (Int.mul_nonneg hpos (Int.natCast_nonneg k)) (Int.not_le.2 hneg)
    exact .inr (by omega)
  next hpos =>
    rcases Nat.eq_zero_or_pos k with rfl | hkpos
    · have : roundedQuotient ((b - a) * (0 : Nat)).natAbs (n + 1) = 0 := by
        simp [roundedQuotient]
      omega
    · have : 0 ≤ b - a := Int.not_lt.1 fun hneg => hpos (Int.mul_neg_of_neg_of_pos hneg (Int.natCast_pos.2 hkpos))
      exact .inl (by omega)

/-- The value of an interpolated run at its frame `k` (R143). -/
theorem settledRun_value (start n k : Nat) (a b : Sample) (hk1 : 1 ≤ k) (hk : k ≤ n) :
    (SettledRun.value { start := start, n := n, a := a, b := some b } (start + k - 1)).toInt = interpolate a.toInt b.toInt n k := by
  have hframe : start + k - 1 - start + 1 = k := by omega
  simp only [SettledRun.value, hframe]
  apply toInt_ofInt_of_mem
  have := interpolate_between a.toInt b.toInt n k hk
  have := sample_range a
  have := sample_range b
  omega

/-! ## Gain and output (R149, R150) -/

theorem clampSample_range (v : Int) : -32768 ≤ clampSample v ∧ clampSample v ≤ 32767 := by
  unfold clampSample; omega

theorem clampsAt_iff (x : Sample) (g : Nat) : clampsAt x g = true ↔ outputExact x g < -32768 ∨ 32767 < outputExact x g := by
  rw [clampsAt, bne_iff_ne]; unfold clampSample; omega

/-- A gain of at most unity leaves a sample in its range. -/
theorem outputExact_range (x : Sample) (g : Nat) (hg : g ≤ 32768) : -32768 ≤ outputExact x g ∧ outputExact x g ≤ 32767 := by
  have hx := sample_range x
  have hle (top : Nat) (h : x.toInt.natAbs ≤ top) : roundedQuotient (x.toInt * g).natAbs 32768 ≤ top := by
    refine roundedQuotient_le _ _ _ (by decide) ?_
    rw [Int.natAbs_mul, Int.natAbs_natCast]
    exact Nat.mul_le_mul h hg
  have heq : outputExact x g = if x.toInt * g < 0 then -(roundedQuotient (x.toInt * g).natAbs 32768 : Int)
      else (roundedQuotient (x.toInt * g).natAbs 32768 : Int) := roundAway_eq _ _
  rw [heq]
  split
  next hneg => have := hle 32768 (by omega); omega
  next hpos =>
    rcases Nat.eq_zero_or_pos g with rfl | hgpos
    · have : roundedQuotient (x.toInt * (0 : Nat)).natAbs 32768 = 0 := by simp [roundedQuotient]
      omega
    · have : 0 ≤ x.toInt := Int.not_lt.1 fun hneg => hpos (Int.mul_neg_of_neg_of_pos hneg (Int.natCast_pos.2 hgpos))
      have : roundedQuotient (x.toInt * g).natAbs 32768 ≤ 32767 := hle 32767 (by omega)
      omega

/-- Settles O60: rounding is exact, an interpolated value lies between its neighbours, and only a gain above unity clamps. -/
theorem interpolationAndOutputRound : Obligations.InterpolationAndOutputRound := by
  refine ⟨fun start n k a b hk1 hk => ?_, fun n => rfl, fun x g => ⟨outputExact x g, ?_, ?_, clampsAt_iff x g, fun hg => ?_⟩⟩
  · intro v
    have hv : v = interpolate a.toInt b.toInt n k := settledRun_value start n k a b hk1 hk
    have hround : v - a.toInt = roundAway ((b.toInt - a.toInt) * k) (n + 1) := by rw [hv, interpolate]; omega
    refine ⟨?_, ?_⟩
    · rw [hround]; exact rounded_roundAway _ _ (Nat.succ_pos n)
    · rw [hv]; exact interpolate_between a.toInt b.toInt n k hk
  · exact rounded_roundAway _ Config.unity (by decide)
  · exact toInt_ofInt_of_mem _ (clampSample_range _)
  · have := outputExact_range x g hg
    rw [← Bool.not_eq_true, clampsAt_iff]; omega

end Sys2Proof.Proofs
end

section
/-!
PROOFS. Discs: the fingerprint of a valid report (R6, R8) and the ranges that the range check accepts (R9, R10).
-/

namespace Sys2Proof.Proofs

open Sys2Proof.Machine

/-! ## Valid reports (R6) -/

theorem pairwise_of_ascending (l : List Nat) (h : ascending l = true) : l.Pairwise (· < ·) := by
  induction l with
  | nil => exact List.Pairwise.nil
  | cons x rest ih =>
    cases rest with
    | nil => exact List.pairwise_singleton _ _
    | cons y rest =>
      simp only [ascending, Bool.and_eq_true, decide_eq_true_eq] at h
      have htail := ih h.2
      refine List.Pairwise.cons (fun z hz => ?_) htail
      rcases List.mem_cons.1 hz with rfl | hz
      · exact h.1
      · exact Nat.lt_trans h.1 (List.rel_of_pairwise_cons htail hz)

/-- What the fingerprint and the range check need of a valid report. -/
theorem valid_facts (count : Byte) (leadOut : BitVec 24) (entries : List TrackField) (ragged : Bool)
    (h : validIndex count leadOut entries ragged = true) :
    entries.length = count.toNat ∧ entries.length ≤ 99 ∧ leadOut.toNat ≤ 450000 ∧
      (entries.map fun e => e.start.toNat).Pairwise (· < ·) ∧ ∀ e ∈ entries, e.start.toNat < leadOut.toNat := by
  simp only [validIndex, Bool.and_eq_true, decide_eq_true_eq, List.all_eq_true] at h
  obtain ⟨⟨⟨⟨⟨⟨⟨⟨⟨hcount, hlength⟩, -⟩, -⟩, -⟩, -⟩, hascend⟩, hstarts⟩, hlead⟩, -⟩ := h
  exact ⟨hlength, by omega, hlead, pairwise_of_ascending _ hascend, hstarts⟩

/-! ## The fingerprint (R8) -/

theorem weightedStarts_eq (i : Nat) (xs : List Nat) :
    weightedStarts i xs = ((List.range xs.length).map fun k => (k + i) * (xs[k]?).getD 0).sum := by
  induction xs generalizing i with
  | nil => rfl
  | cons x rest ih =>
    rw [weightedStarts, ih, List.length_cons, List.range_succ_eq_map, List.map_cons, List.sum_cons, List.map_map]
    congr 1
    · simp
    · refine congrArg List.sum (List.map_congr_left fun k _ => ?_)
      simp [Nat.add_right_comm, Nat.add_assoc]

/-- Each start below a bound, the weighted sum stays below the bound times the sum of the weights. -/
theorem weightedStarts_le (top i : Nat) (xs : List Nat) (h : ∀ x ∈ xs, x ≤ top) :
    2 * weightedStarts i xs + top * xs.length ≤ top * (xs.length * (2 * i + xs.length)) := by
  induction xs generalizing i with
  | nil => simp [weightedStarts]
  | cons x rest ih =>
    have hx : i * x ≤ i * top := Nat.mul_le_mul_left _ (h x List.mem_cons_self)
    have hrest := ih (i + 1) fun y hy => h y (List.mem_cons_of_mem _ hy)
    have hsquare : (rest.length + 1) * (2 * i + (rest.length + 1)) = rest.length * (2 * (i + 1) + rest.length) + (2 * i + 1) := by
      grind
    have hlast : top * (2 * i + 1) = 2 * (i * top) + top := by
      rw [Nat.mul_add, Nat.mul_one, Nat.mul_left_comm, Nat.mul_comm top i]
    have hright : top * ((rest.length + 1) * (2 * i + (rest.length + 1))) =
        top * (rest.length * (2 * (i + 1) + rest.length)) + (2 * (i * top) + top) := by
      rw [hsquare, Nat.mul_add top, hlast]
    have hleft : top * (rest.length + 1) = top * rest.length + top := Nat.mul_succ ..
    simp only [weightedStarts, List.length_cons]
    rw [hright, hleft]
    omega

/-- Settles O55: 99 starts below 450,000 cannot carry the sum to 2^32. -/
theorem fingerprintIsExact : Obligations.FingerprintIsExact := by
  intro count leadOut entries ragged h
  obtain ⟨hlength, hmost, hlead, -, hstarts⟩ := valid_facts count leadOut entries ragged h
  have hbound := weightedStarts_le 450000 1 (entries.map fun e => e.start.toNat) (by
    intro x hx
    obtain ⟨e, he, rfl⟩ := List.mem_map.1 hx
    have := hstarts e he
    omega)
  have hsize : entries.length * (2 * 1 + entries.length) ≤ 99 * (2 * 1 + 99) := Nat.mul_le_mul hmost (by omega)
  simp only [List.length_map] at hbound
  have hsum : weightedStarts 1 (entries.map fun e => e.start.toNat) =
      ((List.range entries.length).map fun i => (i + 1) * ((entries[i]?).map (fun e => e.start.toNat)).getD 0).sum := by
    simp only [weightedStarts_eq, List.length_map, List.getElem?_map]
  rw [fingerprint, BitVec.toNat_ofNat, Nat.mod_eq_of_lt, ← hsum, List.length_map, hlength]
  rw [List.length_map]
  omega

/-! ## Ranges (R9, R10) -/

/-- In a list in ascending order no member stands above the last. -/
theorem eq_or_lt_getLast {l : List TrackEntry} {e : TrackEntry} (hl : l.Pairwise fun x y => x.start < y.start)
    (he : l.getLast? = some e) (x : TrackEntry) (hx : x ∈ l) : x = e ∨ x.start < e.start := by
  obtain ⟨front, rfl⟩ := List.getLast?_eq_some_iff.1 he
  rcases List.mem_append.1 hx with hx | hx
  · exact .inr ((List.pairwise_append.1 hl).2.2 x hx e (List.mem_singleton_self e))
  · exact .inl (List.mem_singleton.1 hx)

/-- The first DATA track after an address stands at or before every other one after it. -/
theorem find_data_least {l : List TrackEntry} (hl : l.Pairwise fun x y => x.start < y.start) {p : TrackEntry → Bool}
    (e : TrackEntry) (he : e ∈ l) (hp : p e = true) : ∃ t, l.find? p = some t ∧ p t = true ∧ t.start ≤ e.start := by
  cases hfind : l.find? p with
  | none => exact absurd hp (List.find?_eq_none.1 hfind e he)
  | some t =>
    obtain ⟨ht, front, back, rfl, hfront⟩ := List.find?_eq_some_iff_append.1 hfind
    refine ⟨t, rfl, ht, ?_⟩
    rcases List.mem_append.1 he with hmem | hmem
    · simpa [hp] using hfront e hmem
    · rcases List.mem_cons.1 hmem with rfl | hmem
      · exact Nat.le_refl _
      · exact Nat.le_of_lt (List.rel_of_pairwise_cons (List.pairwise_append.1 hl).2.1 hmem)

theorem endUsed_le (c : Catalogue) (first last : Nat) : c.endUsed first last ≤ last ∧ c.endUsed first last ≤ c.leadOut - 1 := by
  unfold Catalogue.endUsed; dsimp only; split <;> omega

/-- The end used stands before every DATA track that begins after the start (R10). -/
theorem endUsed_lt_data (c : Catalogue) (hc : c.entries.Pairwise fun x y => x.start < y.start) (first last : Nat) (e : TrackEntry)
    (he : e ∈ c.entries) (hdata : e.data = true) (hafter : first < e.start) : c.endUsed first last < e.start := by
  obtain ⟨t, hfind, hp, hle⟩ := find_data_least hc (p := fun t => t.data && decide (first < t.start)) e he (by simp [hdata, hafter])
  simp only [Bool.and_eq_true, decide_eq_true_eq] at hp
  simp only [Catalogue.endUsed, hfind]
  omega

theorem le_endUsed (c : Catalogue) (first last : Nat) (h1 : first ≤ last) (h2 : first < c.leadOut) : first ≤ c.endUsed first last := by
  unfold Catalogue.endUsed
  dsimp only
  split
  next t hfind =>
    have hp := List.find?_some hfind
    simp only [Bool.and_eq_true, decide_eq_true_eq] at hp
    omega
  next => omega

/-- Every address from a start in an AUDIO track to the end used lies in an AUDIO track (R9, R10). -/
theorem trackAt_audio (c : Catalogue) (hc : c.entries.Pairwise fun x y => x.start < y.start) (first last : Nat) (t : TrackEntry)
    (ht : c.trackAt first = some t) (haudio : t.data = false) (a : Nat) (h1 : first ≤ a) (h2 : a ≤ c.endUsed first last) :
    ∃ e, c.trackAt a = some e ∧ e.data = false := by
  have htmem := List.mem_of_getLast? ht
  simp only [List.mem_filter, decide_eq_true_eq] at htmem
  have hsorted (b : Nat) : (c.entries.filter fun e => decide (e.start ≤ b)).Pairwise fun x y => x.start < y.start := hc.filter _
  cases he : c.trackAt a with
  | none =>
    have hnil := List.getLast?_eq_none_iff.1 he
    have : t ∈ c.entries.filter fun e => decide (e.start ≤ a) := List.mem_filter.2 ⟨htmem.1, by simp; omega⟩
    rw [hnil] at this; cases this
  | some e =>
    refine ⟨e, rfl, ?_⟩
    have hemem := List.mem_of_getLast? he
    simp only [List.mem_filter, decide_eq_true_eq] at hemem
    by_cases hafter : first < e.start
    · refine Bool.eq_false_iff.2 fun hdata => ?_
      have := endUsed_lt_data c hc first last e hemem.1 hdata hafter
      omega
    · have hsame : (c.entries.filter fun e => decide (e.start ≤ a)) = c.entries.filter fun e => decide (e.start ≤ first) := by
        refine List.filter_congr fun x hx => ?_
        rw [decide_eq_decide]
        refine ⟨fun hxa => ?_, fun hxf => Nat.le_trans hxf h1⟩
        rcases eq_or_lt_getLast (hsorted a) he x (List.mem_filter.2 ⟨hx, by simpa using hxa⟩) with rfl | hlt <;> omega
      have : c.trackAt a = c.trackAt first := congrArg List.getLast? hsame
      rw [he, ht] at this
      cases this
      exact haudio

/-- What an accepted range says of the check's steps (R9). -/
theorem rangeCheck_accepted (c : Catalogue) (first last : Nat) (r : PlayRange) (adjusted : Bool)
    (h : rangeCheck (some c) first last = .accepted r adjusted) :
    first < c.leadOut ∧ (∃ t, c.trackAt first = some t ∧ t.data = false) ∧ first ≤ last ∧
      r = { first := first, last := c.endUsed first last } ∧ adjusted = (c.endUsed first last != last) := by
  simp only [rangeCheck] at h
  split at h
  · cases h
  · split at h
    · cases h
    · next t ht =>
      split at h
      · cases h
      · split at h
        · cases h
        · next hlead hdata hlast =>
          cases h
          exact ⟨by omega, ⟨t, ht, by simpa using hdata⟩, by omega, rfl, rfl⟩

/-- Settles O56: the end used is clamped, and stands before every DATA track after the start. -/
theorem acceptedRangesLieInAudio : Obligations.AcceptedRangesLieInAudio := by
  intro count leadOut entries ragged first last r adjusted hvalid h
  obtain ⟨-, -, -, hascend, -⟩ := valid_facts count leadOut entries ragged hvalid
  have hc : (catalogueOf leadOut entries).entries.Pairwise fun x y => x.start < y.start := by
    simp only [catalogueOf, List.pairwise_map] at hascend ⊢
    exact hascend
  obtain ⟨hlead, ⟨t, ht, haudio⟩, hle, rfl, rfl⟩ := rangeCheck_accepted _ first last r adjusted h
  have hend := endUsed_le (catalogueOf leadOut entries) first last
  have hlead' : first < leadOut.toNat := hlead
  have hleadOut : (catalogueOf leadOut entries).leadOut = leadOut.toNat := rfl
  refine ⟨rfl, le_endUsed _ _ _ hle hlead, hend.1, ?_, bne_iff_ne, fun a h1 h2 => trackAt_audio _ hc first last t ht haudio a h1 h2⟩
  dsimp only
  omega

end Sys2Proof.Proofs
end


section
/-!
PROOFS. What a planner's work may change (R91 to R106): its own deck's link, run context, overflow flag and job. Nothing of it reaches
a zone, a tray or the other deck, and no notice is raised unless a host's request is displaced (R20).
-/

namespace Sys2Proof.Proofs

open Sys2Proof.Machine

/-! ## Changes of one deck and the notice queue -/

/-- Nothing but the deck's blocks and the notice queue has changed. -/
def DeckOnly (d : Deck) (s t : State) : Prop :=
  ∃ u q, t = onPort (fun p => { p with queue := q }) (onDeck d (fun _ => u) s)

theorem DeckOnly.onDeck (d : Deck) (f : DeckUnit → DeckUnit) (s : State) : DeckOnly d s (onDeck d f s) :=
  ⟨f (s.deck d), s.port.queue, by cases d <;> rfl⟩

theorem DeckOnly.refl (d : Deck) (s : State) : DeckOnly d s s := ⟨s.deck d, s.port.queue, by cases d <;> rfl⟩

theorem DeckOnly.raiseNotice (d : Deck) (u : NoticeUnit) (b : NoticeBody) (s : State) : DeckOnly d s (raiseNotice u b s) :=
  ⟨s.deck d, (Machine.raiseNotice u b s).port.queue, by unfold Machine.raiseNotice; split <;> cases d <;> rfl⟩

theorem DeckOnly.trans {d : Deck} {s t w : State} (h : DeckOnly d s t) (g : DeckOnly d t w) : DeckOnly d s w := by
  obtain ⟨u, q, rfl⟩ := h
  obtain ⟨v, r, rfl⟩ := g
  exact ⟨v, r, by cases d <;> rfl⟩

section fields
variable {d : Deck} {s t : State} (h : DeckOnly d s t)
include h

theorem DeckOnly.zone (z : ZoneId) : t.zone z = s.zone z := by obtain ⟨u, q, rfl⟩ := h; simp
theorem DeckOnly.zone1 : t.zone1 = s.zone1 := h.zone .one
theorem DeckOnly.zone2 : t.zone2 = s.zone2 := h.zone .two
theorem DeckOnly.tray : t.tray = s.tray := by obtain ⟨u, q, rfl⟩ := h; simp
theorem DeckOnly.drawn : t.drawn = s.drawn := by obtain ⟨u, q, rfl⟩ := h; simp
theorem DeckOnly.other : t.deck (otherDeck d) = s.deck (otherDeck d) := by obtain ⟨u, q, rfl⟩ := h; simp
theorem DeckOnly.part : SamePart s t := by obtain ⟨u, q, rfl⟩ := h; simp [SamePart]
theorem DeckOnly.port : t.port = { s.port with queue := t.port.queue } := by obtain ⟨u, q, rfl⟩ := h; simp

/-- Every deck but the one. -/
theorem DeckOnly.deck_of_ne (e : Deck) (he : e ≠ d) : t.deck e = s.deck e := by
  have : e = otherDeck d := by cases d <;> cases e <;> simp_all [otherDeck]
  rw [this]; exact h.other

end fields

/-! ## The notice queue's form (R197, R198) -/

theorem queueForm_queueNotice {u : NoticeUnit} {b : NoticeBody} {q : List Notice} (hfit : fitsUnit u b.kind = true)
    (h : QueueForm q) : QueueForm (queueNotice u b q) := by
  obtain ⟨hnodup, hall⟩ := h
  rcases queueNotice_cases u b q with ⟨before, n, after, rfl, hu, hk, -, hq⟩ | ⟨habsent, hq⟩
  · rw [hq]
    have hmap : (before ++ { unit := u, body := b, count := min 255 (n.count + 1) } :: after).map (fun n => (n.unit, n.body.kind))
        = (before ++ n :: after).map fun n => (n.unit, n.body.kind) := by simp [hu, hk]
    refine ⟨hmap ▸ hnodup, fun m hm => ?_⟩
    rcases List.mem_append.1 hm with hm | hm
    · exact hall m (List.mem_append_left _ hm)
    · rcases List.mem_cons.1 hm with rfl | hm
      · exact ⟨hfit, Nat.le_min.2 ⟨by decide, Nat.le_add_left 1 _⟩, Nat.min_le_left _ _⟩
      · exact hall m (List.mem_append_right _ (List.mem_cons_of_mem _ hm))
  · rw [hq]
    refine ⟨?_, fun m hm => ?_⟩
    · rw [List.map_append, List.nodup_append]
      refine ⟨hnodup, by simp, ?_⟩
      rintro x hx y hy rfl
      obtain ⟨m, hm, rfl⟩ := List.mem_map.1 hx
      simp only [List.map_cons, List.map_nil, List.mem_singleton, Prod.mk.injEq] at hy
      exact habsent m hm hy
    · rcases List.mem_append.1 hm with hm | hm
      · exact hall m hm
      · rw [List.mem_singleton.1 hm]; exact ⟨hfit, by simp, by simp⟩

theorem queueForm_raiseNotice {u : NoticeUnit} {b : NoticeBody} {s : State} (hfit : fitsUnit u b.kind = true)
    (h : QueueForm s.port.queue) : QueueForm (raiseNotice u b s).port.queue := by
  rw [raiseNotice_queue]
  split
  · exact queueForm_queueNotice hfit h
  · exact h

/-- The form does not depend on the order of the entries. -/
theorem queueForm_of_perm {p q : List Notice} (hp : p.Perm q) (h : QueueForm q) : QueueForm p :=
  ⟨((hp.map _).nodup_iff).2 h.1, fun n hn => h.2 n (hp.mem_iff.1 hn)⟩

/-! ## What a planner leaves of its deck -/

/-- A repair entry but for its state (R84). -/
def idleEntry (e : Entry) : Entry := { e with active := false, ofRun := false }

/-- A link without the parts that a planner's requests change (R13 to R23). -/
def linkFixed (l : Link) : Link :=
  { l with state := .noDisc, outstanding := none, waiting := none, nextTag := 0, runTag := none, gapTimer := false,
           lastLanded := none, byDelivery := false, sent := [] }

/-- A planner's settings and list, without its job and the state of the entries. -/
def planFixed (p : Planner) : Planner :=
  { p with entries := p.entries.map idleEntry, job := .none, phase := .idle, target := none, recovery := false,
           flushAwaited := false, seekMisses := 0, voids := 0, backoff := false, backoffTarget := none, lastSlip := none,
           stats := ⟨0, 0, 0, 0, 0⟩ }

/-- A deck's blocks without what its planner may change: link commands, run context, overflow flag and job. -/
def deckFixed (u : DeckUnit) : DeckUnit :=
  { u with link := linkFixed u.link
           intake := { u.intake with ctx := RunContext.reset }
           ring := { u.ring with overflow := false }
           plan := planFixed u.plan }

/-- At most one entry of the list is ACTIVE (R84). -/
def OneActive (es : List Entry) : Prop := (es.filter (·.active)).length ≤ 1

/-- No two entries begin at one place (R84). -/
def SpotsDistinct (es : List Entry) : Prop := (es.map Entry.spot).Nodup

/-- No request of the host waits on the link. -/
def NoHostWaits (l : Link) : Prop := ∀ w, l.waiting = some w → w.from_ ≠ .host

/-- The planner of a deck has been at work. -/
structure Planned (d : Deck) (s t : State) : Prop where
  only   : DeckOnly d s t
  fixed  : deckFixed (t.deck d) = deckFixed (s.deck d)
  active : SpotsDistinct (s.deck d).plan.entries → OneActive (s.deck d).plan.entries → OneActive (t.deck d).plan.entries
  queue  : QueueForm s.port.queue → QueueForm t.port.queue
  quiet  : NoHostWaits (s.deck d).link → t.port = s.port ∧ NoHostWaits (t.deck d).link

theorem Planned.refl (d : Deck) (s : State) : Planned d s s := ⟨.refl d s, rfl, fun _ h => h, id, fun h => ⟨rfl, h⟩⟩

section fields
variable {d : Deck} {s t : State} (h : Planned d s t)
include h

theorem Planned.entries : (t.deck d).plan.entries.map idleEntry = (s.deck d).plan.entries.map idleEntry :=
  congrArg (·.plan.entries) h.fixed

theorem Planned.spots (hs : SpotsDistinct (s.deck d).plan.entries) : SpotsDistinct (t.deck d).plan.entries := by
  have : ∀ es : List Entry, es.map Entry.spot = (es.map idleEntry).map Entry.spot := fun es => by
    rw [List.map_map]; rfl
  unfold SpotsDistinct at *
  rwa [this, h.entries, ← this]

end fields

theorem Planned.trans {d : Deck} {s t w : State} (h : Planned d s t) (g : Planned d t w) : Planned d s w where
  only := h.only.trans g.only
  fixed := g.fixed.trans h.fixed
  active hs ha := g.active (h.spots hs) (h.active hs ha)
  queue := g.queue ∘ h.queue
  quiet hw := by
    obtain ⟨hp, hw⟩ := h.quiet hw
    obtain ⟨gp, gw⟩ := g.quiet hw
    exact ⟨gp.trans hp, gw⟩

section primitives
variable (d : Deck) (s : State)

theorem Planned.ofDeck {f : DeckUnit → DeckUnit} (hf : deckFixed (f (s.deck d)) = deckFixed (s.deck d))
    (ha : SpotsDistinct (s.deck d).plan.entries → OneActive (s.deck d).plan.entries → OneActive (f (s.deck d)).plan.entries)
    (hw : (f (s.deck d)).link.waiting = (s.deck d).link.waiting) : Planned d s (onDeck d f s) where
  only := .onDeck d f s
  fixed := by rw [onDeck_same]; exact hf
  active hs h := by rw [onDeck_same]; exact ha hs h
  queue h := by rw [onDeck_port]; exact h
  quiet h := by rw [onDeck_port, onDeck_same]; exact ⟨rfl, fun w e => h w (by rw [← hw]; exact e)⟩

theorem Planned.link (f : Link → Link) (hf : linkFixed (f (s.deck d).link) = linkFixed (s.deck d).link)
    (hw : (f (s.deck d).link).waiting = (s.deck d).link.waiting) : Planned d s (onLink d f s) :=
  .ofDeck d s (by simp only [deckFixed, hf]) (fun _ h => h) hw

theorem Planned.ctx (f : RunContext → RunContext) : Planned d s (onCtx d f s) :=
  .ofDeck (f := fun u => { u with intake := { u.intake with ctx := f u.intake.ctx } }) d s rfl (fun _ h => h) rfl

theorem Planned.overflow (b : Bool) : Planned d s (onRing d (fun r => { r with overflow := b }) s) :=
  .ofDeck (f := fun u => { u with ring := { u.ring with overflow := b } }) d s rfl (fun _ h => h) rfl

theorem Planned.plan (f : Planner → Planner) (hf : planFixed (f (s.deck d).plan) = planFixed (s.deck d).plan)
    (he : (f (s.deck d).plan).entries = (s.deck d).plan.entries) : Planned d s (onPlan d f s) :=
  .ofDeck d s (by simp only [deckFixed, hf]) (fun _ h => he ▸ h) rfl

/-- A planner's own request takes the waiting slot. -/
theorem Planned.wait (r : Request) (hr : r.from_ ≠ .host) :
    Planned d s (onLink d (fun l => { l with waiting := some r }) s) where
  only := .onDeck d _ s
  fixed := by simp [deckFixed, linkFixed]
  active _ h := by simpa using h
  queue h := by simpa using h
  quiet h := by simp [NoHostWaits, hr]

end primitives

/-! ## Sending and placing a motion command (R19, R20, R39) -/

/-- The entry that a REPAIR run makes ACTIVE is the only one (R92). -/
theorem oneActive_map_target (p : Spot) (es : List Entry) (h : SpotsDistinct es) :
    OneActive (es.map fun e =>
      if e.first = p.addr ∧ e.seg = p.seg then { e with active := true, ofRun := true }
      else { e with active := false, ofRun := false }) := by
  have hcount : (es.filter fun e => e.first = p.addr ∧ e.seg = p.seg).length ≤ 1 := by
    have hsub := (h.sublist ((List.filter_sublist (p := fun q => q = p)).trans (List.Sublist.refl _)))
    have heq : (es.map Entry.spot).filter (fun q => q = p)
        = (es.filter fun e => e.first = p.addr ∧ e.seg = p.seg).map Entry.spot := by
      rw [List.filter_map]; congr 1
      apply List.filter_congr; intro e _
      cases p; simp [Entry.spot]
    rw [heq] at hsub
    have hall : ∀ q ∈ (es.filter fun e => e.first = p.addr ∧ e.seg = p.seg).map Entry.spot, q = p := by
      rw [← heq]; intro q hq; simpa using (List.mem_filter.1 hq).2
    have := List.eq_replicate_of_mem hall
    rw [this, List.nodup_replicate] at hsub
    simpa using hsub
  unfold OneActive
  rw [List.filter_map, List.length_map]
  refine Nat.le_trans (Nat.le_of_eq (congrArg _ (List.filter_congr fun e _ => ?_))) hcount
  by_cases he : e.first = p.addr ∧ e.seg = p.seg <;> simp [he]

theorem planned_openRun (d : Deck) (tag : Tag) (p : RunPlan) (s : State) : Planned d s (openRun d tag p s) := by
  unfold openRun
  dsimp only
  generalize hc : onCtx d _ s = s₁
  have h₁ : Planned d s s₁ := hc ▸ .ctx d s _
  generalize hr : (if p.job.isFetch = true then onRing d _ s₁ else s₁) = s₂
  have h₂ : Planned d s s₂ := by
    subst hr
    split
    · exact h₁.trans (.overflow d _ _)
    · exact h₁
  have h₃ := h₂.trans
    (.plan d s₂ (fun q => { q with job := p.job, phase := .run, target := some p.target }) rfl rfl)
  split
  · refine h₃.trans (.ofDeck (f := fun u => { u with plan := _ }) d _ ?_ (fun hs _ => oneActive_map_target p.target _ hs) rfl)
    simp only [deckFixed, planFixed, List.map_map]
    congr 2
    apply List.map_congr_left
    intro e _
    by_cases he : e.first = p.target.addr ∧ e.seg = p.target.seg <;> simp [he, idleEntry]
  · exact h₃

/-- A motion command sent to a deck, with the run it begins (R19, R22, R39). -/
theorem planned_send (d : Deck) (r : Request) (s : State) (h : r.command.isMotion = true) : Planned d s (send d r s) := by
  unfold send
  dsimp only
  generalize hc : onLink d _ s = s₁
  have h₁ : Planned d s s₁ := hc ▸ .link d s _ rfl rfl
  generalize hr : sentEffect d _ r.command s₁ = s₂
  have h₂ : Planned d s s₂ := by
    subst hr
    unfold sentEffect
    cases hcmd : r.command with
    | seek a => exact h₁.trans (.link d _ _ rfl rfl)
    | stall => exact h₁
    | proceed => exact h₁.trans (.link d _ _ rfl rfl)
    | fetchDisc | readIndex | stowDisc | park | linkReset => simp [hcmd, DeckCommand.isMotion] at h
  split
  · exact h₂.trans (planned_openRun d _ _ _)
  · exact h₂

/-- A command that a motion command displaces is no PARK, so that the Tray Supervisor's flag stays (R20, R171). -/
theorem planned_tellDropped (d : Deck) (r : Request) (s : State) (h : r.command.rank ≤ 1) : Planned d s (tellDropped d r s) := by
  unfold tellDropped
  split
  · exact .plan d s _ rfl rfl
  · split
    next hp => rw [hp] at h; simp [DeckCommand.rank] at h
    · exact .refl d s
  all_goals exact .refl d s

theorem rank_of_isMotion {c : DeckCommand} (h : c.isMotion = true) : c.rank = 1 := by
  cases c <;> simp_all [DeckCommand.isMotion, DeckCommand.rank]

/-- A planner's request against the waiting slot (R20). -/
theorem planned_placeWaiting (d : Deck) (r : Request) (s : State) (h : r.command.isMotion = true) (hr : r.from_ ≠ .host) :
    Planned d s (placeWaiting d r s).1 := by
  have hrank := rank_of_isMotion h
  unfold placeWaiting
  split
  · exact .wait d s r hr
  · next w hw =>
    split
    · next hle =>
      rw [hrank] at hle
      unfold displace
      split
      · next hhost =>
        refine ⟨(DeckOnly.raiseNotice d _ _ s).trans (.onDeck d (fun u => { u with link := { u.link with waiting := some r } }) _),
          by simp [deckFixed, linkFixed], by simp, ?_, ?_⟩
        · intro hq; rw [onLink_port]; exact queueForm_raiseNotice rfl hq
        · intro hn; exact absurd hhost (hn w hw)
      · exact (planned_tellDropped d w s hle).trans (.wait d _ r hr)
    · exact planned_tellDropped d r s (Nat.le_of_eq hrank)

/-- A planner's request (R19, R20). -/
theorem planned_request (d : Deck) (r : Request) (s : State) (h : r.command.isMotion = true) (hr : r.from_ ≠ .host) :
    Planned d s (request d r s).1 := by
  have hdrop := planned_tellDropped d r s (Nat.le_of_eq (rank_of_isMotion h))
  have hsend := planned_send d r s h
  unfold request
  dsimp only
  split
  · exact hdrop
  · split
    · split
      · exact hsend
      · exact hdrop
    · split
      · split
        · exact hsend
        · exact hdrop
      · split
        next hp => rw [hp] at h; simp [DeckCommand.isMotion] at h
        · exact planned_placeWaiting d r s h hr

/-! ## Runs and jobs (R92 to R98) -/

theorem planned_closeRun (d : Deck) (s : State) : Planned d s (closeRun d s) := .ctx d s _

theorem planned_release (d : Deck) (s : State) : Planned d s (release d s) := by
  have hready : Planned d s (onLink d (fun l => { l with state := .ready, runTag := none, gapTimer := false }) s) :=
    .link d s _ rfl rfl
  have hstall := hready.trans (planned_send d { command := .stall, from_ := .planner, plan := none } _ rfl)
  unfold release
  dsimp only
  refine Planned.trans ?_ (planned_closeRun d _)
  split
  · split
    · exact hstall
    · exact hready
  · exact hstall
  · exact hstall
  all_goals exact .refl d s

theorem planned_askStall (d : Deck) (s : State) : Planned d s (askStall d s) := by
  unfold askStall
  dsimp only
  split
  · exact .refl d s
  · exact planned_request d _ s rfl (by simp)

/-- A run is started by its SEEK; where the DLU does not send it, the job phase becomes IDLE (R92). -/
theorem startRun_eq (d : Deck) (p : RunPlan) (s : State) :
    startRun d p s =
      let q := request d { command := .seek (p.target.addr - p.k), from_ := .planner, plan := some p } s
      if q.2 = .sent then q.1 else onPlan d (fun p => { p with phase := .idle }) q.1 := by
  unfold startRun
  obtain ⟨t, placing⟩ := request d _ s
  cases placing <;> rfl

theorem planned_startRun (d : Deck) (p : RunPlan) (s : State) : Planned d s (startRun d p s) := by
  have hreq := planned_request d { command := .seek (p.target.addr - p.k), from_ := .planner, plan := some p } s rfl (by simp)
  rw [startRun_eq]
  dsimp only
  split
  · exact hreq
  · exact hreq.trans (.plan d _ _ rfl rfl)

theorem planned_seekFor (d : Deck) (job : Job) (t : Spot) (span : Option Span) (s : State) :
    Planned d s (seekFor d job t span s) := by
  unfold seekFor
  dsimp only
  split
  · exact (planned_release d s).trans (.plan d _ _ rfl rfl)
  · exact planned_startRun d _ s

theorem planned_seekRepair (d : Deck) (e : Entry) (s : State) : Planned d s (seekRepair d e s) := planned_seekFor d _ _ _ s

theorem planned_seekFetch (d : Deck) (s : State) : Planned d s (seekFetch d s) := by
  unfold seekFetch
  split
  · exact planned_seekFor d _ _ _ s
  · exact .refl d s

theorem planned_resumeFetch (d : Deck) (s : State) : Planned d s (resumeFetch d s) := by
  unfold resumeFetch
  dsimp only
  split
  · next t _ =>
    split
    · have hreq := planned_request d
        { command := .proceed, from_ := .planner, plan := some ⟨streamName (s.deck d), t, 0, none⟩ } s rfl (by simp)
      split
      next h => rw [h] at hreq; exact hreq
      next t _ _ h => rw [h] at hreq; exact hreq.trans (.plan d t _ rfl rfl)
    · exact planned_seekFetch d s
  · exact .refl d s

theorem planned_noJob (d : Deck) (s : State) : Planned d s (noJob d s) := .plan d s _ rfl rfl

theorem planned_hold (d : Deck) (live : Bool) (s : State) : Planned d s (hold d live s) := by
  unfold hold
  split
  · have h : Planned d s (onPlan d (fun p => { p with phase := .held }) s) := .plan d s _ rfl rfl
    dsimp only
    split
    · exact h.trans (planned_askStall d _)
    · exact h.trans (planned_release d _)
  · exact (planned_release d s).trans (planned_noJob d _)

/-! ## The decision and its occasions (R93 to R100) -/

theorem planned_decide (d : Deck) (standing : RunStanding) (s : State) : Planned d s (decide_ d standing s) := by
  unfold decide_
  dsimp only
  split
  · exact planned_noJob d s
  · split
    · split
      · exact .plan d s _ rfl rfl
      · exact (planned_release d s).trans (.plan d _ _ rfl rfl)
    · exact planned_seekRepair d _ s
    · split
      · exact .refl d s
      · split
        · exact planned_resumeFetch d s
        · exact planned_seekFetch d s
    · split
      · exact .refl d s
      · exact planned_hold d _ s

theorem planned_decisionPoint (d : Deck) (s : State) : Planned d s (decisionPoint d s) := by
  unfold decisionPoint
  split
  · exact .refl d s
  · exact planned_decide d _ s

theorem planned_breakPoint (d : Deck) (s : State) : Planned d s (breakPoint d s) := by
  unfold breakPoint
  dsimp only
  split
  · exact planned_decide d _ s
  · split
    · exact .refl d s
    · exact planned_decide d _ s

theorem planned_onHigh (d : Deck) (s : State) : Planned d s (onHigh d s) := by
  unfold onHigh
  dsimp only
  split
  · split
    · exact planned_hold d _ s
    · exact planned_decide d _ s
  · exact .refl d s

theorem planned_onLow (d : Deck) (s : State) : Planned d s (onLow d s) := by
  unfold onLow
  dsimp only
  split
  · exact planned_decide d _ s
  · exact .refl d s

theorem planned_endRun (d : Deck) (s : State) : Planned d s (endRun d s) := .plan d s _ rfl rfl

theorem planned_onFetched (d : Deck) (last : Nat) (s : State) : Planned d s (onFetched d last s) := by
  have hcarry : ∀ t, Planned d s t → Planned d s (onPlan d (fun p => { p with job := .cueFetch, target := (s.deck d).ring.fetchSpot })
      (onCtx d (fun c => { c with job := .cueFetch, target := last + 1, k := 0 }) t)) :=
    fun t h => (h.trans (.ctx d t _)).trans (.plan d _ _ rfl rfl)
  have hover : Planned d s (decide_ d .over (endRun d s)) := (planned_endRun d s).trans (planned_decide d _ _)
  unfold onFetched
  dsimp only
  split
  · split
    · split
      · exact hcarry s (.refl d s)
      · exact .refl d s
    · exact hover
  · split
    · refine Planned.trans ?_ (planned_decide d _ _)
      split <;> split
      · exact (hcarry s (.refl d s)).trans (.plan d _ _ rfl rfl)
      · exact .plan d s _ rfl rfl
      · exact hcarry s (.refl d s)
      · exact .refl d s
    · exact .refl d s

theorem planned_onTargetMoved (d : Deck) (s : State) : Planned d s (onTargetMoved d s) := by
  unfold onTargetMoved
  dsimp only
  split
  · exact (planned_endRun d s).trans (planned_decide d _ _)
  · exact planned_decisionPoint d s

/-! ## Cancellation, what a run's end counts, and the backoff (R98, R102, R105, R106) -/

theorem planned_cancelJob (d : Deck) (s : State) : Planned d s (cancelJob d s) :=
  (planned_release d s).trans (.plan d _ _ rfl rfl)

theorem planned_awaitFlush (d : Deck) (s : State) : Planned d s (awaitFlush d s) := .plan d s _ rfl rfl

theorem planned_startBackoff (d : Deck) (t : Spot) (s : State) : Planned d s (startBackoff d t s) := .plan d s _ rfl rfl

theorem planned_positionedTold (d : Deck) (s : State) : Planned d s (positionedTold d s) := by
  unfold positionedTold
  exact .plan d s _ rfl rfl

theorem planned_onStallDeclined (d : Deck) (s : State) : Planned d s (onStallDeclined d s) := by
  unfold onStallDeclined
  dsimp only
  split
  · exact .plan d s _ rfl rfl
  · exact .refl d s

theorem planned_onProceedDeclined (d : Deck) (s : State) : Planned d s (onProceedDeclined d s) := by
  unfold onProceedDeclined
  dsimp only
  refine (planned_endRun d s).trans ?_
  split
  · exact planned_decide d _ _
  · exact planned_seekFetch d _

theorem planned_onBackoffExpired (d : Deck) (s : State) : Planned d s (onBackoffExpired d s) := by
  unfold onBackoffExpired
  split
  · exact (Planned.plan d s _ rfl rfl).trans (planned_decisionPoint d _)
  · exact .refl d s

end Sys2Proof.Proofs
end


section
/-!
PROOFS. What every operation of the part keeps. `Kept D s t` says so once for all of the forms: settings, the port's link, the pool and the
zones' forms stand, the queue and the table keep theirs, and of the decks only those of `D` are touched. This file has the relation, its
primitive cases, and the operations of the zones that touch no deck (R111 to R132).
-/

namespace Sys2Proof.Proofs

open Sys2Proof.Machine

/-! ## The relations -/

/-- A zone at rest where it is STOPPED (R113). -/
def RestOk (n : Zone) : Prop := n.state = .stopped → n.atRest

/-- What an operation keeps of a zone: source and settings, the ranges of its values, and its rest. -/
structure ZoneKept (n m : Zone) : Prop where
  source : m.source = n.source
  set    : m.set = n.set
  form   : ZoneForm n → ZoneForm m
  rest   : RestOk n → RestOk m

theorem ZoneKept.refl (n : Zone) : ZoneKept n n := ⟨rfl, rfl, id, id⟩

theorem ZoneKept.trans {n m k : Zone} (h : ZoneKept n m) (g : ZoneKept m k) : ZoneKept n k :=
  ⟨g.source.trans h.source, g.set.trans h.set, g.form ∘ h.form, g.rest ∘ h.rest⟩

/-- A ring keeps its segments in their form, and over such a ring the repair list keeps its own (R65, R84). -/
structure RingKept (u v : DeckUnit) : Prop where
  ring   : RingForm u.ring → RingForm v.ring
  repair : RingForm u.ring → RepairForm u → RepairForm v

theorem RingKept.refl (u : DeckUnit) : RingKept u u := ⟨id, fun _ => id⟩

theorem RingKept.trans {u v w : DeckUnit} (h : RingKept u v) (g : RingKept v w) : RingKept u w :=
  ⟨g.ring ∘ h.ring, fun hr hp => g.repair (h.ring hr) (h.repair hr hp)⟩

/-- The ring holds no more records than its capacity (R63). -/
def Roomy (r : Ring) : Prop := r.records.length ≤ r.cap

/-- What an operation keeps of a deck, but for its ring's and its list's forms. -/
structure DeckKept (u v : DeckUnit) : Prop where
  settings : settingsOfDeck v = settingsOfDeck u
  cap      : v.ring.cap = u.ring.cap
  room     : Roomy u.ring → Roomy v.ring

theorem DeckKept.refl (u : DeckUnit) : DeckKept u u := ⟨rfl, rfl, id⟩

theorem DeckKept.trans {u v w : DeckUnit} (h : DeckKept u v) (g : DeckKept v w) : DeckKept u w :=
  ⟨g.settings.trans h.settings, g.cap.trans h.cap, g.room ∘ h.room⟩

/-- The Message Port's fields but for the notice queue. -/
def portFixed (p : Port) : Port := { p with queue := [] }

/-- What every operation keeps; `D` holds of the decks it may touch. The rings' and repair lists' forms are `Kept`'s alone, as an
operation may break them in its course. -/
structure Framed (D : Deck → Prop) (s t : State) : Prop where
  part  : SamePart s t
  port  : portFixed t.port = portFixed s.port
  queue : QueueForm s.port.queue → QueueForm t.port.queue
  tray  : settingsOfTray t.tray = settingsOfTray s.tray
  table : TableForm s.tray.table → TableForm t.tray.table
  zone  : ∀ z, ZoneKept (s.zone z) (t.zone z)
  deck  : ∀ d, DeckKept (s.deck d) (t.deck d)
  other : ∀ d, ¬ D d → t.deck d = s.deck d

structure Kept (D : Deck → Prop) (s t : State) : Prop extends Framed D s t where
  rings : ∀ d, RingKept (s.deck d) (t.deck d)

variable {D : Deck → Prop} {s t w : State}

theorem Framed.refl (s : State) : Framed D s s :=
  ⟨by simp [SamePart], rfl, id, rfl, id, fun _ => .refl _, fun _ => .refl _, fun _ _ => rfl⟩

theorem Framed.trans (h : Framed D s t) (g : Framed D t w) : Framed D s w where
  part := by
    obtain ⟨h1, h2, h3, h4, h5⟩ := h.part
    obtain ⟨g1, g2, g3, g4, g5⟩ := g.part
    exact ⟨g1.trans h1, g2.trans h2, g3.trans h3, g4.trans h4, g5.trans h5⟩
  port := g.port.trans h.port
  queue := g.queue ∘ h.queue
  tray := g.tray.trans h.tray
  table := g.table ∘ h.table
  zone z := (h.zone z).trans (g.zone z)
  deck d := (h.deck d).trans (g.deck d)
  other d hd := (g.other d hd).trans (h.other d hd)

theorem Kept.refl (s : State) : Kept D s s := ⟨.refl s, fun _ => .refl _⟩

theorem Kept.trans (h : Kept D s t) (g : Kept D t w) : Kept D s w :=
  ⟨h.toFramed.trans g.toFramed, fun d => (h.rings d).trans (g.rings d)⟩

theorem Kept.ite {c : Prop} [Decidable c] (h : Kept D s t) (g : Kept D s w) : Kept D s (if c then t else w) := by
  split
  · exact h
  · exact g

/-- The deck a zone plays from is one that may be touched. -/
def Plays (D : Deck → Prop) (z : ZoneId) (s : State) : Prop := ∀ d, (s.zone z).deck? = some d → D d

theorem Framed.deck? (h : Framed D s t) (z : ZoneId) : (t.zone z).deck? = (s.zone z).deck? := by
  unfold Zone.deck?; rw [(h.zone z).source]

theorem Framed.plays (h : Framed D s t) {z : ZoneId} (hz : Plays D z s) : Plays D z t := by
  intro d hd; rw [h.deck? z] at hd; exact hz d hd

theorem Framed.zoneOf (h : Framed D s t) (d : Deck) : zoneOf d t = zoneOf d s := by
  unfold Machine.zoneOf
  rw [show t.zone1.source = s.zone1.source from (h.zone .one).source,
    show t.zone2.source = s.zone2.source from (h.zone .two).source]

theorem Framed.mirroring (h : Framed D s t) : mirroring t = mirroring s := by
  unfold Machine.mirroring; rw [show t.zone2.source = s.zone2.source from (h.zone .two).source]

/-- The zone of a deck plays from it. -/
theorem plays_of_zoneOf {d : Deck} {z : ZoneId} (hD : D d) (h : zoneOf d s = some z) : Plays D z s := by
  intro e he
  have := zoneOf_source d s z h
  unfold Zone.deck? at he
  rw [this] at he
  cases he; exact hD

/-! ## Forms that depend on a few fields -/

/-- The fields that a ring's form is about (R65, R71). -/
def ringShape (r : Ring) : List SlotRecord × Seg × FetchPhase × Option Nat × Option Nat × Option PlayRange :=
  (r.records, r.tag, r.phase, r.fetchAddr, r.fetchEnd, r.cueCopy)

theorem ringForm_congr {q r : Ring} (h : ringShape r = ringShape q) : RingForm q → RingForm r := by
  simp only [ringShape, Prod.mk.injEq] at h
  obtain ⟨h1, h2, h3, h4, h5, h6⟩ := h
  unfold RingForm Ring.continues Ring.segment
  rw [h1, h2, h3, h4, h5, h6]; exact id

theorem oneActive_iff (es : List Entry) : OneActive es ↔ (es.filter (·.active)).length ≤ 1 := Iff.rfl

/-- Entries that lie in play order, none empty, begin at different places. -/
theorem spotsDistinct_of_ordered {tag : Seg} {es : List Entry} (hcount : ∀ e ∈ es, 1 ≤ e.count)
    (h : es.Pairwise fun e f => if e.seg = f.seg then e.first + e.count ≤ f.first else e.seg = tag) : SpotsDistinct es := by
  unfold SpotsDistinct
  rw [List.nodup_iff_pairwise_ne, List.pairwise_map]
  refine h.imp_of_mem fun {e f} he _ hef hspot => ?_
  simp only [Entry.spot, Spot.mk.injEq] at hspot
  rw [if_pos hspot.2] at hef
  have := hcount e he
  omega

/-- A repair list's form does not depend on the entries' states, but for their one ACTIVE entry (R84). -/
theorem repairForm_congr {u v : DeckUnit} (hshape : ringShape v.ring = ringShape u.ring)
    (he : v.plan.entries.map idleEntry = u.plan.entries.map idleEntry) (hlimit : v.plan.limit = u.plan.limit)
    (hgap : v.intake.gapLimit = u.intake.gapLimit)
    (hact : SpotsDistinct u.plan.entries → OneActive u.plan.entries → OneActive v.plan.entries) (h : RepairForm u) : RepairForm v := by
  have hrec : v.ring.records = u.ring.records := congrArg (·.1) hshape
  have htag : v.ring.tag = u.ring.tag := congrArg (·.2.1) hshape
  obtain ⟨h1, h2, h3, h4, h5, h6⟩ := h
  have hfits : ∀ e : Entry, e.fits v.ring v.plan.limit ↔ (idleEntry e).fits u.ring u.plan.limit := by
    intro e; unfold Entry.fits Entry.covers idleEntry; rw [hrec, hlimit]
  have hall : ∀ e ∈ v.plan.entries, ∃ f ∈ u.plan.entries, idleEntry f = idleEntry e := by
    intro e hm
    have := List.mem_map_of_mem (f := idleEntry) hm
    rw [he] at this; exact List.mem_map.1 this
  have hall' : ∀ f ∈ u.plan.entries, ∃ e ∈ v.plan.entries, idleEntry e = idleEntry f := by
    intro e hm
    have := List.mem_map_of_mem (f := idleEntry) hm
    rw [← he] at this; exact List.mem_map.1 this
  refine ⟨?_, ?_, ?_, ?_, ?_, by rw [hgap]; exact h6⟩
  · rw [← List.length_map (f := idleEntry), he, List.length_map]; exact h1
  · intro e hm
    obtain ⟨f, hf, hfe⟩ := hall e hm
    rw [hfits, ← hfe]; exact h2 f hf
  · let P (e f : Entry) : Prop := if e.seg = f.seg then e.first + e.count ≤ f.first else e.seg = u.ring.tag
    have hP : ∀ es : List Entry, es.Pairwise P ↔ (es.map idleEntry).Pairwise P := fun es => by rw [List.pairwise_map]; rfl
    rw [htag]
    exact (hP _).2 (he ▸ (hP _).1 h3)
  · exact hact (spotsDistinct_of_ordered (fun e hm => (h2 e hm).1) h3) h4
  · rw [hrec]
    intro q hq hmiss
    obtain ⟨f, hf, hcov⟩ := h5 q hq hmiss
    obtain ⟨e, hm, hef⟩ := hall' f hf
    refine ⟨e, hm, ?_⟩
    have : (idleEntry e).covers ⟨q.addr, q.seg⟩ = true := by rw [hef]; exact hcov
    exact this

theorem RingKept.of_congr {u v : DeckUnit} (hshape : ringShape v.ring = ringShape u.ring)
    (he : v.plan.entries = u.plan.entries) (hlimit : v.plan.limit = u.plan.limit)
    (hgap : v.intake.gapLimit = u.intake.gapLimit) : RingKept u v :=
  ⟨ringForm_congr hshape, fun _ => repairForm_congr hshape (by rw [he]) hlimit hgap (fun _ h => he ▸ h)⟩

/-! ## Primitive cases -/

/-- A planner's work (R91). -/
theorem Planned.kept {d : Deck} (hD : D d) (h : Planned d s t) : Kept D s t where
  part := h.only.part
  port := by rw [h.only.port]; rfl
  queue := h.queue
  tray := by rw [h.only.tray]
  table := by rw [h.only.tray]; exact id
  zone z := by rw [h.only.zone z]; exact .refl _
  deck e := by
    by_cases he : e = d
    · subst he
      refine ⟨?_, congrArg (·.ring.cap) h.fixed, ?_⟩
      · have hset : ∀ u, settingsOfDeck (deckFixed u) = settingsOfDeck u := fun _ => rfl
        rw [← hset, h.fixed, hset]
      · have h1 := congrArg (·.ring.cap) h.fixed
        have h2 := congrArg (·.ring.records) h.fixed
        simp only [deckFixed] at h1 h2
        unfold Roomy; rw [h1, h2]; exact id
    · rw [h.only.deck_of_ne e he]; exact .refl _
  other e he := h.only.deck_of_ne e (fun hed => he (hed ▸ hD))
  rings e := by
    by_cases he : e = d
    · subst he
      have hshape : ringShape (t.deck e).ring = ringShape (s.deck e).ring := congrArg (fun u => ringShape u.ring) h.fixed
      exact ⟨ringForm_congr hshape, fun _ => repairForm_congr hshape h.entries (congrArg (·.plan.limit) h.fixed)
        (congrArg (·.intake.gapLimit) h.fixed) h.active⟩
    · rw [h.only.deck_of_ne e he]; exact .refl _

section primitives
variable (s)

theorem Framed.onDeck {d : Deck} (hD : D d) (f : DeckUnit → DeckUnit) (h : DeckKept (s.deck d) (f (s.deck d))) :
    Framed D s (onDeck d f s) where
  part := by simp [SamePart]
  port := by simp
  queue h := by simpa using h
  tray := by simp
  table h := by simpa using h
  zone z := by rw [onDeck_zone]; exact .refl _
  deck e := by
    by_cases he : e = d
    · subst he; rw [onDeck_same]; exact h
    · rw [(DeckOnly.onDeck d f s).deck_of_ne e he]; exact .refl _
  other e he := (DeckOnly.onDeck d f s).deck_of_ne e (fun hed => he (hed ▸ hD))

theorem Kept.onDeck {d : Deck} (hD : D d) (f : DeckUnit → DeckUnit) (h : DeckKept (s.deck d) (f (s.deck d)))
    (hr : RingKept (s.deck d) (f (s.deck d))) : Kept D s (onDeck d f s) where
  toFramed := .onDeck s hD f h
  rings e := by
    by_cases he : e = d
    · subst he; rw [onDeck_same]; exact hr
    · rw [(DeckOnly.onDeck d f s).deck_of_ne e he]; exact .refl _

theorem Kept.link {d : Deck} (hD : D d) (f : Link → Link) (h : (f (s.deck d).link).seekTime = (s.deck d).link.seekTime) :
    Kept D s (onLink d f s) :=
  .onDeck s hD (fun u => { u with link := f u.link }) ⟨by simp [settingsOfDeck, h], rfl, id⟩ (.of_congr rfl rfl rfl rfl)

theorem Kept.intake {d : Deck} (hD : D d) (f : Intake → Intake) (h : (f (s.deck d).intake).gapLimit = (s.deck d).intake.gapLimit) :
    Kept D s (onIntake d f s) :=
  .onDeck s hD (fun u => { u with intake := f u.intake }) ⟨by simp [settingsOfDeck, h], rfl, id⟩ (.of_congr rfl rfl rfl h)

theorem Kept.ctx {d : Deck} (hD : D d) (f : RunContext → RunContext) : Kept D s (onCtx d f s) :=
  .intake s hD (fun i => { i with ctx := f i.ctx }) rfl

theorem Kept.intakeStats {d : Deck} (hD : D d) (f : IntakeStats → IntakeStats) : Kept D s (onIntakeStats d f s) :=
  .intake s hD (fun i => { i with stats := f i.stats }) rfl

/-- A planner's settings, as the statements list them (R83). -/
def planSettings (p : Planner) : List Nat := [p.floor, p.window, p.lead, p.threshold, p.limit, p.overlap]

theorem Framed.plan {d : Deck} (hD : D d) (f : Planner → Planner)
    (h : planSettings (f (s.deck d).plan) = planSettings (s.deck d).plan) : Framed D s (onPlan d f s) :=
  .onDeck s hD (fun u => { u with plan := f u.plan }) ⟨by simp_all [settingsOfDeck, planSettings], rfl, id⟩

theorem Kept.plan {d : Deck} (hD : D d) (f : Planner → Planner)
    (h : planSettings (f (s.deck d).plan) = planSettings (s.deck d).plan)
    (he : (f (s.deck d).plan).entries = (s.deck d).plan.entries) : Kept D s (onPlan d f s) :=
  .onDeck s hD (fun u => { u with plan := f u.plan }) ⟨by simp_all [settingsOfDeck, planSettings], rfl, id⟩
    (.of_congr rfl he (by simp_all [planSettings]) rfl)

/-- A ring's capacity and marks. -/
def ringSize (r : Ring) : Nat × Nat × Nat := (r.cap, r.high, r.low)

theorem Framed.ring {d : Deck} (hD : D d) (f : Ring → Ring) (hs : ringSize (f (s.deck d).ring) = ringSize (s.deck d).ring)
    (hr : Roomy (s.deck d).ring → Roomy (f (s.deck d).ring)) : Framed D s (onRing d f s) :=
  .onDeck s hD (fun u => { u with ring := f u.ring })
    ⟨by simp_all [settingsOfDeck, ringSize], congrArg (·.1) hs, hr⟩

/-- An update of a state in which only one zone changes. -/
theorem Kept.onZone (z : ZoneId) (f : Zone → Zone) (h : ZoneKept (s.zone z) (f (s.zone z))) : Kept D s (onZone z f s) where
  part := by simp [SamePart]
  port := by simp
  queue h := by simpa using h
  tray := by simp
  table h := by simpa using h
  zone y := by
    by_cases hy : y = z
    · subst hy; rw [onZone_same]; exact h
    · have : y = otherZone z := by cases y <;> cases z <;> simp_all [otherZone]
      rw [this, onZone_other]; exact .refl _
  deck d := by rw [onZone_deck]; exact .refl _
  other d _ := by rw [onZone_deck]
  rings d := by rw [onZone_deck]; exact .refl _

theorem Kept.notice (u : NoticeUnit) (b : NoticeBody) (h : fitsUnit u b.kind = true) : Kept D s (raiseNotice u b s) where
  part := by simp [SamePart]
  port := by simp only [raiseNotice]; split <;> rfl
  queue := queueForm_raiseNotice h
  tray := by simp
  table h := by simpa using h
  zone z := by rw [raiseNotice_zone]; exact .refl _
  deck d := by rw [raiseNotice_deck]; exact .refl _
  other d _ := by rw [raiseNotice_deck]
  rings d := by rw [raiseNotice_deck]; exact .refl _

/-- A change of the Tray Supervisor's notes, sides or table (R167 to R177). -/
theorem Kept.onTray (f : Tray → Tray) (hset : settingsOfTray (f s.tray) = settingsOfTray s.tray)
    (htable : TableForm s.tray.table → TableForm (f s.tray).table) : Kept D s { s with tray := f s.tray } :=
  ⟨⟨⟨rfl, rfl, rfl, rfl, rfl⟩, rfl, id, hset, htable, fun z => by cases z <;> exact .refl _, fun d => by cases d <;> exact .refl _,
    fun d _ => by cases d <;> rfl⟩, fun d => by cases d <;> exact .refl _⟩

theorem Kept.side (d : Deck) (f : TraySide → TraySide) : Kept D s (onSide d f s) := by
  cases d
  · exact .onTray s (fun t => { t with sideA := f t.sideA }) rfl id
  · exact .onTray s (fun t => { t with sideB := f t.sideB }) rfl id

theorem Kept.note (z : ZoneId) (v : Option StopNote) : Kept D s (setNote z v s) := by
  cases z
  · exact .onTray s (fun t => { t with noteOne := v }) rfl id
  · exact .onTray s (fun t => { t with noteTwo := v }) rfl id

theorem Kept.drawn (n : Nat) : Kept D s { s with drawn := n } :=
  ⟨⟨⟨rfl, rfl, rfl, rfl, rfl⟩, rfl, id, rfl, id, fun z => by cases z <;> exact .refl _, fun d => by cases d <;> exact .refl _,
    fun d _ => by cases d <;> rfl⟩, fun d => by cases d <;> exact .refl _⟩

end primitives

/-! ## Two parts of one event -/

/-- The order that a free value chooses is an order of the same entries (log entry 10). -/
theorem together_perm (f g : State → State) (s : State) :
    (together f g s).port.queue.Perm (g (f s)).port.queue := by
  unfold together
  dsimp only
  split
  · next h =>
    dsimp only
    split
    · generalize (g (f s)).port.queue = q at *
      generalize (f s).port.queue.length = m at *
      generalize s.port.queue.length = n at *
      have hdrop : (q.take m).drop n ++ q.drop m = q.drop n := by
        have hnm : n ≤ m := Nat.le_of_lt h.1
        conv => rhs; rw [← List.take_append_drop m q]
        rw [List.drop_append_of_le_length (by rw [List.length_take]; omega)]
      calc q.take n ++ q.drop m ++ (q.take m).drop n
          = q.take n ++ (q.drop m ++ (q.take m).drop n) := List.append_assoc ..
        _ |>.Perm (q.take n ++ ((q.take m).drop n ++ q.drop m)) := List.Perm.append_left _ List.perm_append_comm
        _ = q := by rw [hdrop, List.take_append_drop]
    · exact .refl _
  · exact .refl _

/-- Both parts keep what they keep, in either order of their notices. -/
theorem Kept.together {f g : State → State} (hf : Kept D s (f s)) (hg : Kept D (f s) (g (f s))) : Kept D s (together f g s) := by
  have h := hf.trans hg
  have hperm := together_perm f g s
  obtain ⟨q, n, heq⟩ := together_eq f g s
  rw [heq] at hperm ⊢
  have hd : ∀ d : Deck, (State.deck { g (f s) with port := { (g (f s)).port with queue := q }, drawn := n } d) = (g (f s)).deck d :=
    fun d => by cases d <;> rfl
  exact
    { part := h.part
      port := h.port
      queue := fun hq => queueForm_of_perm hperm (h.queue hq)
      tray := h.tray
      table := h.table
      zone := fun | .one => h.zone .one | .two => h.zone .two
      deck := fun d => by rw [hd]; exact h.deck d
      other := fun d => by rw [hd]; exact h.other d
      rings := fun d => by rw [hd]; exact h.rings d }

/-! ## Zone states, the mirror, and the STARVE test (R111 to R117, R131, R132) -/

/-- A change of a zone that is not STOPPED, in none of the values that have ranges. -/
theorem ZoneKept.active {n m : Zone} (hs : m.state ≠ .stopped) (hsource : m.source = n.source) (hset : m.set = n.set)
    (hform : ZoneForm n → ZoneForm m) : ZoneKept n m := ⟨hsource, hset, hform, fun _ h => absurd h hs⟩

theorem zoneKept_cleared (n : Zone) : ZoneKept n n.cleared := by
  refine ⟨rfl, rfl, ?_, fun _ _ => ?_⟩
  · rintro ⟨-, -, h⟩; exact ⟨Nat.zero_le _, Nat.zero_le _, h⟩
  · exact ⟨rfl, rfl, rfl, rfl, rfl, rfl, rfl, rfl⟩

theorem cleared_atRest (n : Zone) : n.cleared.atRest := ⟨rfl, rfl, rfl, rfl, rfl, rfl, rfl, rfl⟩

/-- A zone enters a state; for STOPPED it must have come to rest (R111, R113). -/
theorem kept_enterZone (z : ZoneId) (st : ZoneState) (s : State) (h : st = .stopped → (s.zone z).atRest) :
    Kept D s (enterZone z st s) :=
  (Kept.onZone s z (fun n => { n with state := st }) ⟨rfl, rfl, id, fun _ => h⟩).trans (.notice _ _ _ rfl)

theorem enterZone_cleared (z : ZoneId) (s : State) : Kept D s (enterZone z .stopped (onZone z Zone.cleared s)) := by
  refine (Kept.onZone s z _ (zoneKept_cleared _)).trans (kept_enterZone z _ _ fun _ => ?_)
  rw [onZone_same]; exact cleared_atRest _

theorem kept_mirrorZero (s : State) : Kept D s (mirrorZero s) := by
  unfold mirrorZero
  dsimp only
  split
  · exact enterZone_cleared .two s
  · split
    · split
      · exact kept_enterZone _ _ _ (by simp)
      · exact .refl s
    · split
      · split
        · exact kept_enterZone _ _ _ (by simp)
        · exact .refl s
      · exact .refl s

theorem mirrorActive_iff (s : State) : mirrorActive s = true ↔ mirroring s = true ∧ s.zone2.state ≠ .stopped := by
  simp [mirrorActive]

theorem kept_mirrorStop (why : StopReason) (s : State) : Kept D s (mirrorStop why s) := by
  unfold mirrorStop
  split
  · next h =>
    have hs := ((mirrorActive_iff s).1 h).2
    have h1 : Kept D s (onZone .two (fun n => { n with causes := { n.causes with stop := true }, stopReason := why }) s) :=
      .onZone s .two _ (.active hs rfl rfl id)
    dsimp only
    split
    · exact h1.trans (kept_mirrorZero _)
    · exact h1
  · exact .refl s

theorem kept_zoneStats (z : ZoneId) (f : ZoneStats → ZoneStats) (s : State) : Kept D s (onZoneStats z f s) :=
  .onZone s z (fun n => { n with stats := f n.stats }) ⟨rfl, rfl, id, id⟩

theorem kept_mirrorSync (s : State) : Kept D s (mirrorSync s) := by
  unfold mirrorSync
  split
  · next h =>
    have hs := ((mirrorActive_iff s).1 h).2
    dsimp only
    split
    · exact .refl s
    · have h0 : Kept D s (onZone .two (fun n => { n with inherited := inheritedFrom s.zone1 }) s) :=
        .onZone s .two _ (.active hs rfl rfl id)
      have h1 : ∀ (c : Prop) [Decidable c], Kept D s
          (if c then onZoneStats .two (fun t => { t with starves := bump 1 t.starves })
            (onZone .two (fun n => { n with inherited := inheritedFrom s.zone1 }) s)
          else onZone .two (fun n => { n with inherited := inheritedFrom s.zone1 }) s) := by
        intro c _
        exact .ite (h0.trans (kept_zoneStats _ _ _)) h0
      exact .ite ((h1 _).trans (kept_mirrorZero _)) (.ite ((h1 _).trans (kept_enterZone _ _ _ (by simp))) (h1 _))
  · exact .refl s

theorem kept_mirrorPrime (s : State) : Kept D s (mirrorPrime s) := by
  unfold mirrorPrime
  split
  · split
    · refine Kept.trans ?_ (kept_mirrorSync _)
      refine (Kept.onZone s .two _ ⟨rfl, rfl, id, fun hrest hst => ?_⟩).trans (kept_enterZone _ _ _ (by simp))
      obtain ⟨h1, h2, h3, h4, h5, h6, h7, h8⟩ := hrest hst
      exact ⟨h1, h2, h3, h4, h5, by rw [h6]; rfl, h7, h8⟩
    · exact kept_mirrorSync s
  · exact .refl s

theorem kept_follow (z : ZoneId) (s : State) : Kept D s (follow z s) := by
  cases z
  · exact kept_mirrorSync s
  · exact .refl s

theorem kept_starveTest (z : ZoneId) (s : State) : Kept D s (starveTest z s) := by
  unfold starveTest
  dsimp only
  split
  · split
    · next h =>
      obtain ⟨-, hs, -⟩ := h
      refine Kept.trans ?_ (kept_follow z _)
      have h1 : Kept D s (onZone z (fun n => { n with causes := { n.causes with starve := false } }) s) :=
        .onZone s z _ (.active hs rfl rfl id)
      split
      · exact h1
      · exact h1.trans (kept_enterZone _ _ _ (by simp))
    · exact .refl s
  · exact .refl s

theorem kept_reportGoodDepth (d : Deck) (s : State) : Kept D s (reportGoodDepth d s) := by
  unfold reportGoodDepth
  split
  · exact kept_starveTest _ s
  · exact .refl s

/-! ## Operations that touch no deck -/

/-- An operation that keeps everything while no deck may be touched leaves the decks as they were. -/
theorem Framed.decks (h : Framed (fun _ => False) s t) (d : Deck) : t.deck d = s.deck d := h.other d id

@[simp] theorem reportGoodDepth_deck (d e : Deck) (s : State) : (reportGoodDepth d s).deck e = s.deck e :=
  (kept_reportGoodDepth d s).toFramed.decks e

end Sys2Proof.Proofs
end


section
/-!
PROOFS. A ring's segments (R65, R71) and the repair list over them (R84 to R90), as lists: what an addition, a change in place, a take, a
truncation, a leaving slot and an abandoned entry do to their forms.
-/

namespace Sys2Proof.Proofs

open Sys2Proof.Machine

/-! ## Segments that ascend by one (R65) -/

theorem ascendByOne_append (l : List SlotRecord) (q : SlotRecord) (h : ascendByOne l)
    (hlast : ∀ p, l.getLast? = some p → q.addr = p.addr + 1) : ascendByOne (l ++ [q]) := by
  induction l with
  | nil => trivial
  | cons x xs ih =>
    cases xs with
    | nil => exact ⟨hlast x rfl, trivial⟩
    | cons y ys =>
      refine ⟨h.1, ih h.2 fun p hp => hlast p ?_⟩
      rw [List.getLast?_cons_cons]; exact hp

theorem ascendByOne_tail (l : List SlotRecord) (h : ascendByOne l) : ascendByOne l.tail := by
  match l, h with
  | [], _ => trivial
  | [_], _ => trivial
  | _ :: _ :: _, h => exact h.2

theorem ascendByOne_map (f : SlotRecord → SlotRecord) (hf : ∀ q, (f q).addr = q.addr) (l : List SlotRecord)
    (h : ascendByOne l) : ascendByOne (l.map f) := by
  induction l with
  | nil => trivial
  | cons x xs ih =>
    cases xs with
    | nil => trivial
    | cons y ys => exact ⟨by rw [hf, hf]; exact h.1, ih h.2⟩

/-- The records of an ascending segment ascend in address. -/
theorem ascendByOne_pairwise (l : List SlotRecord) (h : ascendByOne l) : l.Pairwise fun p q => p.addr < q.addr := by
  induction l with
  | nil => exact .nil
  | cons x xs ih =>
    cases xs with
    | nil => exact List.pairwise_singleton _ _
    | cons y ys =>
      have hrest := ih h.2
      refine List.Pairwise.cons (fun q hq => ?_) hrest
      have hxy : y.addr = x.addr + 1 := h.1
      rcases List.mem_cons.1 hq with rfl | hq
      · omega
      · have := (List.pairwise_cons.1 hrest).1 q hq; omega

/-- No record of an ascending segment lies beyond its last one. -/
theorem addr_le_last {l : List SlotRecord} (h : ascendByOne l) {p q : SlotRecord} (hq : q ∈ l) (hp : l.getLast? = some p) :
    q.addr ≤ p.addr := by
  obtain ⟨ys, rfl⟩ := List.getLast?_eq_some_iff.1 hp
  rcases List.mem_append.1 hq with hq | hq
  · exact Nat.le_of_lt ((List.pairwise_append.1 (ascendByOne_pairwise _ h)).2.2 q hq p (List.mem_singleton.2 rfl))
  · exact Nat.le_of_eq (congrArg _ (List.mem_singleton.1 hq))

/-! ## The ring's form -/

theorem mem_segment {r : Ring} {g : Seg} {q : SlotRecord} : q ∈ r.segment g ↔ q ∈ r.records ∧ q.seg = g := by
  simp [Ring.segment]

/-- Of the two segments a record is in the one that its tag names. -/
theorem mem_segment_self {r : Ring} {q : SlotRecord} (h : q ∈ r.records) : q ∈ r.segment q.seg := mem_segment.2 ⟨h, rfl⟩

theorem ringForm_ascends {r : Ring} (h : RingForm r) (g : Seg) : ascendByOne (r.segment g) := by
  obtain ⟨-, h1, h2, -⟩ := h
  by_cases hg : g = r.tag
  · rw [hg]; exact h1
  · have : g = !r.tag := by cases g <;> cases ht : r.tag <;> simp_all
    rw [this]; exact h2

/-- Two members that a map sends to one value are one, where no value comes twice. -/
theorem eq_of_nodup_map {α β : Type} {f : α → β} {l : List α} (h : (l.map f).Nodup) {a b : α} (ha : a ∈ l) (hb : b ∈ l)
    (hf : f a = f b) : a = b := by
  induction l with
  | nil => cases ha
  | cons x rest ih =>
    obtain ⟨hx, hrest⟩ := List.nodup_cons.1 h
    rcases List.mem_cons.1 ha with rfl | har <;> rcases List.mem_cons.1 hb with rfl | hbr
    · rfl
    · exact absurd (List.mem_map.2 ⟨b, hbr, hf.symm⟩) hx
    · exact absurd (List.mem_map.2 ⟨a, har, hf⟩) hx
    · exact ih hrest har hbr

/-- A place holds at most one record (R65). -/
theorem ringForm_unique {r : Ring} (h : RingForm r) {p q : SlotRecord} (hp : p ∈ r.records) (hq : q ∈ r.records)
    (ha : p.addr = q.addr) (hs : p.seg = q.seg) : p = q := by
  have hord := ascendByOne_pairwise _ (ringForm_ascends h q.seg)
  have hp' : p ∈ r.segment q.seg := mem_segment.2 ⟨hp, hs⟩
  have hnodup : ((r.segment q.seg).map (·.addr)).Nodup := by
    rw [List.nodup_iff_pairwise_ne, List.pairwise_map]
    exact hord.imp fun hlt => Nat.ne_of_lt hlt
  exact eq_of_nodup_map hnodup hp' (mem_segment_self hq) ha

/-- The place where the next record joins (R67). -/
structure JoinsAt (r : Ring) (p : Spot) : Prop where
  addr : r.fetchAddr = some p.addr
  seg  : r.fetchSeg = some p.seg

theorem joinsAt_of_fetchSpot {r : Ring} {p : Spot} (h : r.fetchSpot = some p) : JoinsAt r p := by
  unfold Ring.fetchSpot at h
  split at h
  next ha hs => cases h; exact ⟨ha, hs⟩
  next => cases h

theorem fetchSeg_cases {r : Ring} {g : Seg} (h : r.fetchSeg = some g) :
    (r.phase = .current ∧ g = r.tag) ∨ (r.phase = .cue ∧ g = !r.tag) := by
  unfold Ring.fetchSeg at h
  split at h <;> simp_all

/-- Every record of the fetch segment stands below the fetch address (R71). -/
theorem ringForm_below_fetch {r : Ring} (h : RingForm r) {p : Spot} (hp : JoinsAt r p) {q : SlotRecord}
    (hq : q ∈ r.records) (hs : q.seg = p.seg) : q.addr < p.addr := by
  have hcont : r.continues p.seg := by
    obtain ⟨-, -, -, -, hphase⟩ := h
    obtain ⟨hc, hg⟩ | ⟨hc, hg⟩ := fetchSeg_cases hp.seg
    · rw [hc] at hphase; rw [hg]; exact hphase.2
    · rw [hc] at hphase; rw [hg]; exact hphase.2
  obtain ⟨-, f, hf, hlast⟩ := hcont
  rw [hp.addr] at hf
  cases hf
  have hmem : q ∈ r.segment p.seg := mem_segment.2 ⟨hq, hs⟩
  cases hl : (r.segment p.seg).getLast? with
  | none => rw [List.getLast?_eq_none_iff.1 hl] at hmem; cases hmem
  | some x => have := addr_le_last (ringForm_ascends h _) hmem hl; have := hlast x hl; omega

/-- A record outside the fetch segment is of the current segment (R65, R71). -/
theorem ringForm_seg_of_ne {r : Ring} (h : RingForm r) {p : Spot} (hp : JoinsAt r p) {q : SlotRecord}
    (hq : q ∈ r.records) (hs : q.seg ≠ p.seg) : q.seg = r.tag := by
  obtain ⟨hc, hg⟩ | ⟨hc, hg⟩ := fetchSeg_cases hp.seg
  · obtain ⟨-, -, -, -, hphase⟩ := h
    rw [hc] at hphase
    have hq' : q.seg = !r.tag := by rw [hg] at hs; cases hqs : q.seg <;> cases ht : r.tag <;> simp_all
    have : q ∈ r.segment (!r.tag) := mem_segment.2 ⟨hq, hq'⟩
    rw [hphase.1] at this; cases this
  · rw [hg] at hs; cases hqs : q.seg <;> cases ht : r.tag <;> simp_all

/-! ### Additions (R67, R72) -/

theorem segment_append (r : Ring) (q : SlotRecord) (g : Seg) :
    Ring.segment { r with records := r.records ++ [q] } g = r.segment g ++ if q.seg = g then [q] else [] := by
  unfold Ring.segment
  rw [List.filter_append]
  by_cases hg : q.seg = g <;> simp [hg]

/-- The records after an addition: `advance` moves the fetch address alone. -/
@[simp] theorem advance_records (r : Ring) (a : Nat) : (r.advance a).records = r.records := by
  unfold Ring.advance; (repeat' split) <;> rfl
@[simp] theorem advance_tag (r : Ring) (a : Nat) : (r.advance a).tag = r.tag := by
  unfold Ring.advance; (repeat' split) <;> rfl
@[simp] theorem advance_cap (r : Ring) (a : Nat) : (r.advance a).cap = r.cap := by
  unfold Ring.advance; (repeat' split) <;> rfl
@[simp] theorem advance_size (r : Ring) (a : Nat) : ringSize (r.advance a) = ringSize r := by
  unfold Ring.advance; (repeat' split) <;> rfl

theorem append_records (r : Ring) (t : Spot) (st : SlotState) (doubt : Nat) (data : Block) :
    (r.append t st doubt data).records = r.records ++ [{ addr := t.addr, seg := t.seg, state := st, doubt := doubt, data := data }] :=
  advance_records _ _

@[simp] theorem append_tag (r : Ring) (t : Spot) (st : SlotState) (doubt : Nat) (data : Block) :
    (r.append t st doubt data).tag = r.tag := advance_tag _ _

/-- An addition at the fetch address keeps the ring's form (R65, R67, R72). -/
theorem ringForm_append {r : Ring} {t : Spot} (hj : JoinsAt r t) (st : SlotState) (doubt : Nat) (data : Block) (h : RingForm r) :
    RingForm (r.append t st doubt data) := by
  have hbelow : ∀ p, (r.segment t.seg).getLast? = some p → t.addr = p.addr + 1 := by
    obtain ⟨-, -, -, -, hphase⟩ := h
    intro p hp
    obtain ⟨hc, hg⟩ | ⟨hc, hg⟩ := fetchSeg_cases hj.seg <;> rw [hc] at hphase <;> obtain ⟨-, -, f, hf, hl⟩ := hphase <;>
      rw [hj.addr] at hf <;> cases hf <;> exact hl p (hg ▸ hp)
  have hend : ∃ e, r.fetchEnd = some e := by
    obtain ⟨-, -, -, -, hphase⟩ := h
    obtain ⟨hc, -⟩ | ⟨hc, -⟩ := fetchSeg_cases hj.seg <;> rw [hc] at hphase <;> exact hphase.2.1
  obtain ⟨e, he⟩ := hend
  have hasc := ringForm_ascends h
  obtain ⟨hsplit, -, -, hcue, hphase⟩ := h
  let q : SlotRecord := { addr := t.addr, seg := t.seg, state := st, doubt := doubt, data := data }
  have hseg : ∀ g, Ring.segment (r.append t st doubt data) g = r.segment g ++ if t.seg = g then [q] else [] := fun g => by
    rw [← segment_append r q g]; unfold Ring.segment; rw [append_records]
  have hascend : ∀ g, ascendByOne (Ring.segment (r.append t st doubt data) g) := fun g => by
    rw [hseg]
    by_cases hg : t.seg = g
    · rw [if_pos hg]; exact ascendByOne_append _ _ (hasc g) fun p hp => hbelow p (hg ▸ hp)
    · rw [if_neg hg, List.append_nil]; exact hasc g
  have hrest : ∀ x, (Ring.segment (r.append t st doubt data) t.seg).getLast? = some x → t.addr + 1 = x.addr + 1 := fun x hx => by
    rw [hseg, if_pos rfl, List.getLast?_concat] at hx; cases hx; rfl
  obtain ⟨hc, hg⟩ | ⟨hc, hg⟩ := fetchSeg_cases hj.seg
  · rw [hc] at hphase
    have hempty : Ring.segment (r.append t st doubt data) (!r.tag) = [] := by
      rw [hseg, hphase.1, if_neg (by rw [hg]; cases r.tag <;> simp)]; rfl
    refine ⟨?_, ?_, ?_, ?_, ?_⟩
    · rw [append_tag, hempty, hseg, if_pos hg, append_records, List.append_nil]
      conv => lhs; rw [hsplit, hphase.1, List.append_nil]
    · exact hascend _
    · exact hascend _
    · rw [append_tag]; intro hne; exact absurd hempty hne
    · rw [hg] at hrest
      unfold Ring.append Ring.advance at hempty hrest ⊢
      dsimp only at hempty hrest ⊢
      rw [he] at hempty hrest ⊢
      by_cases hae : t.addr < e
      · simp only [if_pos hae, hc] at hempty hrest ⊢
        exact ⟨hempty, ⟨e, rfl⟩, _, rfl, hrest⟩
      · simp only [if_neg hae, hc] at hempty hrest ⊢
        cases hcc : r.cueCopy with
        | none => exact ⟨rfl, rfl⟩
        | some c =>
          rw [hcc] at hempty
          refine ⟨by simp, ⟨_, rfl⟩, _, rfl, fun x hx => ?_⟩
          dsimp only at hempty hx
          rw [hempty] at hx; cases hx
  · rw [hc] at hphase
    have hsame : Ring.segment (r.append t st doubt data) r.tag = r.segment r.tag := by
      rw [hseg, if_neg (by rw [hg]; cases r.tag <;> simp), List.append_nil]
    refine ⟨?_, ?_, ?_, ?_, ?_⟩
    · rw [append_tag, hsame, hseg, if_pos hg, append_records, ← List.append_assoc, ← hsplit]
    · exact hascend _
    · exact hascend _
    · intro _
      unfold Ring.append Ring.advance
      dsimp only
      rw [he]
      by_cases hae : t.addr < e
      · simp only [if_pos hae]; exact hphase.1
      · simp only [if_neg hae, hc]; exact hphase.1
    · rw [hg] at hrest
      unfold Ring.append Ring.advance at hrest ⊢
      dsimp only at hrest ⊢
      rw [he] at hrest ⊢
      by_cases hae : t.addr < e
      · simp only [if_pos hae, hc] at hrest ⊢
        exact ⟨hphase.1, ⟨e, rfl⟩, _, rfl, hrest⟩
      · simp [if_neg hae, hc]

/-! ### Changes in place (R68) -/

/-- A change in place keeps the ring's form (R68). -/
theorem ringForm_map {r : Ring} (f : SlotRecord → SlotRecord) (ha : ∀ q, (f q).addr = q.addr) (hs : ∀ q, (f q).seg = q.seg)
    (h : RingForm r) : RingForm { r with records := r.records.map f } := by
  have hseg : ∀ g, Ring.segment { r with records := r.records.map f } g = (r.segment g).map f := fun g => by
    unfold Ring.segment
    rw [List.filter_map]
    congr 1
    exact List.filter_congr fun q _ => by simp [hs]
  obtain ⟨hsplit, h1, h2, hcue, hphase⟩ := h
  have hcont : ∀ g, r.continues g → Ring.continues { r with records := r.records.map f } g := by
    rintro g ⟨he, fa, hfa, hl⟩
    refine ⟨he, fa, hfa, fun q hq => ?_⟩
    rw [hseg, List.getLast?_map] at hq
    obtain ⟨p, hp, rfl⟩ := Option.map_eq_some_iff.1 hq
    rw [ha]; exact hl p hp
  refine ⟨?_, ?_, ?_, ?_, ?_⟩
  · rw [hseg, hseg, ← List.map_append, ← hsplit]
  · rw [hseg]; exact ascendByOne_map f ha _ h1
  · rw [hseg]; exact ascendByOne_map f ha _ h2
  · rw [hseg]; intro hne; exact hcue fun he => hne (by rw [he]; rfl)
  · dsimp only
    cases hp : r.phase <;> rw [hp] at hphase <;> dsimp only
    · exact ⟨by rw [hphase.1]; rfl, hphase.2⟩
    · exact ⟨(hseg _).trans (by rw [hphase.1]; rfl), hcont _ hphase.2⟩
    · exact ⟨hphase.1, hcont _ hphase.2⟩
    · exact hphase

/-! ### A take (R69) -/

theorem segment_cons (q : SlotRecord) (rest : List SlotRecord) (g : Seg) :
    (q :: rest).filter (fun p => p.seg == g) = if q.seg = g then q :: rest.filter (fun p => p.seg == g)
      else rest.filter (fun p => p.seg == g) := by
  by_cases h : q.seg = g <;> simp [h]

/-- When the play edge is of the cue segment, no record of the current segment is left (R65). -/
theorem ringForm_all_cue {r : Ring} (h : RingForm r) {q : SlotRecord} {rest : List SlotRecord} (hr : r.records = q :: rest)
    (hs : q.seg ≠ r.tag) : ∀ p ∈ r.records, p.seg = !r.tag := by
  obtain ⟨hsplit, -⟩ := h
  have hnil : r.segment r.tag = [] := by
    cases hcur : r.segment r.tag with
    | nil => rfl
    | cons x xs =>
      rw [hcur, hr] at hsplit
      have hx : x ∈ r.segment r.tag := hcur ▸ List.mem_cons_self
      have : q = x := (List.cons.inj hsplit).1
      exact absurd ((mem_segment.1 (this ▸ hx)).2) hs
  intro p hp
  rw [hsplit, hnil, List.nil_append] at hp
  exact (mem_segment.1 hp).2

/-- A take keeps the ring's form: the edge leaves, and an edge of the cue segment makes that the current one (R65, R69). -/
theorem ringForm_taken {r : Ring} {q : SlotRecord} {rest : List SlotRecord} (hr : r.records = q :: rest) (h : RingForm r) :
    RingForm (r.taken q) := by
  have hasc := ringForm_ascends h
  unfold Ring.taken
  dsimp only
  have hlast : ∀ g x, (rest.filter fun p => p.seg == g).getLast? = some x → (r.segment g).getLast? = some x := by
    intro g x hx
    unfold Ring.segment
    rw [hr, segment_cons]
    split
    · cases hf : rest.filter fun p => p.seg == g with
      | nil => rw [hf] at hx; cases hx
      | cons y ys => rw [hf] at hx; rw [List.getLast?_cons_cons]; exact hx
    · exact hx
  have htail : ∀ g, ascendByOne (rest.filter fun p => p.seg == g) := by
    intro g
    have := hasc g
    unfold Ring.segment at this
    rw [hr, segment_cons] at this
    split at this
    · exact ascendByOne_tail _ this
    · exact this
  split
  · next hs =>
    obtain ⟨hsplit, -, -, hcue, hphase⟩ := h
    have hne : q.seg ≠ !r.tag := by rw [hs]; cases r.tag <;> simp
    have hother : r.segment (!r.tag) = rest.filter fun p => p.seg == !r.tag := by
      unfold Ring.segment; rw [hr, segment_cons, if_neg hne]
    have hcur : r.segment r.tag = q :: rest.filter fun p => p.seg == r.tag := by
      unfold Ring.segment; rw [hr, segment_cons, if_pos hs]
    have hcont : ∀ g, r.continues g → Ring.continues { r with records := r.records.tail } g := by
      rintro g ⟨he, fa, hfa, hl⟩
      refine ⟨he, fa, hfa, fun x hx => hl x (hlast g x ?_)⟩
      unfold Ring.segment at hx; rw [hr] at hx; exact hx
    rw [hr] at hsplit hphase
    rw [hcur, hother] at hsplit
    refine ⟨?_, ?_, ?_, ?_, ?_⟩
    · unfold Ring.segment; rw [hr]; exact (List.cons.inj hsplit).2
    · unfold Ring.segment; rw [hr]; exact htail _
    · unfold Ring.segment; rw [hr]; exact htail _
    · unfold Ring.segment; rw [hr]; intro hx; exact hcue (by rw [hother]; exact hx)
    · dsimp only
      cases hp : r.phase <;> rw [hp] at hphase <;> dsimp only at hphase ⊢
      · exact absurd hphase.1 (by simp)
      · refine ⟨?_, hcont _ hphase.2⟩
        unfold Ring.segment; rw [hr]; exact hother.symm.trans hphase.1
      · exact ⟨hphase.1, hcont _ hphase.2⟩
      · exact hphase
  · next hs =>
    have hall := ringForm_all_cue h hr hs
    obtain ⟨hsplit, -, -, hcue, hphase⟩ := h
    have hq : q.seg = !r.tag := hall q (hr ▸ List.mem_cons_self)
    have hrest : ∀ p ∈ rest, p.seg = q.seg := fun p hp => (hall p (hr ▸ List.mem_cons_of_mem _ hp)).trans hq.symm
    have hfull : (rest.filter fun p => p.seg == q.seg) = rest := List.filter_eq_self.2 fun p hp => by simp [hrest p hp]
    have hnone : (rest.filter fun p => p.seg == !q.seg) = [] :=
      List.filter_eq_nil_iff.2 fun p hp => by simp [hrest p hp]
    have hmem : q ∈ r.segment (!r.tag) := mem_segment.2 ⟨hr ▸ List.mem_cons_self, hq⟩
    refine ⟨?_, ?_, ?_, ?_, ?_⟩
    · unfold Ring.segment; dsimp only; rw [hr, List.tail_cons, hfull, hnone, List.append_nil]
    · unfold Ring.segment; rw [hr]; exact htail _
    · unfold Ring.segment; rw [hr]; exact htail _
    · unfold Ring.segment; dsimp only; rw [hr, List.tail_cons, hnone]; exact fun hx => absurd rfl hx
    · dsimp only
      cases hp : r.phase <;> rw [hp] at hphase <;> dsimp only [reduceIte] at hphase ⊢
      · rw [hr] at hphase; exact absurd hphase.1 (by simp)
      · rw [hphase.1] at hmem; cases hmem
      · simp only [if_true]
        refine ⟨?_, hphase.2.1, ?_⟩
        · unfold Ring.segment; dsimp only; rw [hr, List.tail_cons, hnone]
        · obtain ⟨-, -, fa, hfa, hl⟩ := hphase
          refine ⟨fa, hfa, fun x hx => hl x (hlast _ x ?_)⟩
          unfold Ring.segment at hx; dsimp only at hx
          rw [hr, List.tail_cons, hq] at hx; exact hx
      · exact hphase

/-! ### Truncation and flush (R73, R79) -/

/-- A ring without its cue segment. -/
theorem segment_truncated (r : Ring) :
    Ring.segment { r with records := r.segment r.tag } r.tag = r.segment r.tag ∧
      Ring.segment { r with records := r.segment r.tag } (!r.tag) = [] := by
  unfold Ring.segment
  constructor
  · simp [List.filter_filter]
  · rw [List.filter_filter]; exact List.filter_eq_nil_iff.2 fun p _ => by cases p.seg <;> cases r.tag <;> simp

end Sys2Proof.Proofs
end

section
/-!
PROOFS. The Shock Monitor's settings, conversions and guard (R156 to R163), the backoff timer (R105), the tray lines (R167), and SET_LEVEL
and SET_MARK (R127, R128).
-/

namespace Sys2Proof.Proofs

open Sys2Proof.Machine

/-! ## Conversions (R156 to R158) -/

theorem exec_shockConversion (v : BitVec 10) (s : State) (hs : Up s) :
    exec (.shockConversionComplete v) s = .next (converted v.toNat s) := whenUp_high s (converted v.toNat) hs

/-- What a completed conversion does to the Shock Monitor, and the notice of an opened guard (R156 to R158). -/
theorem converted_eq (v : Nat) (s : State) (h : s.shock.converting = true) :
    converted v s =
      (if s.shock.ton ≤ magnitude v s.shock.centre ∧ s.shock.guard.isSome = false then
          raiseNotice .part (.shock (magnitude v s.shock.centre)) else id)
        { s with shock := { s.shock with
          last := magnitude v s.shock.centre, peak := max s.shock.peak (magnitude v s.shock.centre)
          flag := s.shock.flagAfter (magnitude v s.shock.centre)
          guard := if s.shock.ton ≤ magnitude v s.shock.centre then
              (if !s.shock.guard.isSome && s.shock.guardTime == 0 then none else some s.shock.guardTime) else s.shock.guard } } := by
  simp only [converted, h, if_true]
  split <;> rfl

theorem converted_of_stopped (v : Nat) (s : State) (h : s.shock.converting = false) : converted v s = s := by
  simp only [converted, h, Bool.false_eq_true, if_false]

/-- Settles O28: by the magnitude against the on threshold and by the guard. -/
theorem conversionsSetFlagAndGuard : Obligations.ConversionsSetFlagAndGuard := by
  intro v s hs h m
  refine ⟨fun hoff => ?_, fun hon => ?_⟩
  · rw [exec_shockConversion v s hs, converted_of_stopped _ s hoff]
  have hm : magnitude v.toNat s.shock.centre = m := rfl
  refine ⟨fun hton hguard => ?_, fun hton hguard => ?_, fun hton => ?_⟩
  · obtain ⟨n, hn⟩ := Option.ne_none_iff_exists'.1 hguard
    rw [exec_shockConversion v s hs, converted_eq _ s hon, hm]
    have hn' : s.shock.guard = some n := hn
    have hton' : s.shock.ton ≤ m := hton
    simp [hn', hton', Shock.flagAfter, h]
  · rw [exec_shockConversion v s hs, converted_eq _ s hon, hm]
    have hn' : s.shock.guard = none := hguard
    have hton' : s.shock.ton ≤ m := hton
    simp [hn', hton', Shock.flagAfter, h]
  · rw [exec_shockConversion v s hs, converted_eq _ s hon, hm]
    have hton' : ¬ s.shock.ton ≤ m := Nat.not_le.2 hton
    simp [hton', Shock.flagAfter, h]

/-! ## The guard (R159, R160) -/

theorem Planned.records {d : Deck} {s t : State} (h : Planned d s t) (e : Deck) :
    (t.deck e).ring.records = (s.deck e).ring.records := by
  by_cases he : e = d
  · subst he; exact congrArg (·.ring.records) h.fixed
  · rw [h.only.deck_of_ne e he]

theorem Planned.disc {d : Deck} {s t : State} (h : Planned d s t) (e : Deck) : (t.deck e).link.disc = (s.deck e).link.disc := by
  by_cases he : e = d
  · subst he; exact congrArg (·.link.disc) h.fixed
  · rw [h.only.deck_of_ne e he]

theorem NoHostWaits.of_none {l : Link} (h : l.waiting = none) : NoHostWaits l := by intro w hw; rw [h] at hw; cases hw

/-- What the closing of an open guard leaves: the planners act on their decks, and no notice is raised where nothing of the host
waits (R159, R160). -/
structure GuardClosed (s t : State) : Prop where
  shock   : t.shock = { s.shock with guard := none }
  zone1   : t.zone1 = s.zone1
  zone2   : t.zone2 = s.zone2
  tray    : t.tray = s.tray
  standby : t.standby = s.standby
  pin     : t.resetPin = s.resetPin
  stage   : t.stage = s.stage
  reply   : t.port.reply = s.port.reply
  quiet   : (∀ d, NoHostWaits (s.deck d).link) → t.port = s.port
  records : ∀ d, (t.deck d).ring.records = (s.deck d).ring.records
  disc    : ∀ d, (t.deck d).link.disc = (s.deck d).link.disc

theorem closeGuard_closed (s : State) (h : s.shock.guard = none) : closeGuard s = s := by
  simp [closeGuard, guardOpen, h]

theorem closeGuard_open (s : State) (h : s.shock.guard ≠ none) : GuardClosed s (closeGuard s) := by
  have hopen : guardOpen s = true := by rw [guardOpen, ← Option.ne_none_iff_isSome]; exact h
  rw [closeGuard, if_pos hopen]
  generalize hclosed : ({ s with shock := { s.shock with guard := none } } : State) = c
  have ha := planned_decisionPoint .a c
  have hb := planned_decisionPoint .b (decisionPoint .a c)
  obtain ⟨q, n, ht⟩ := together_eq (decisionPoint .a) (decisionPoint .b) c
  have hpart := ha.only.part.2
  have hpart' := hb.only.part.2
  subst hclosed
  refine ⟨?_, ?_, ?_, ?_, ?_, ?_, ?_, ?_, fun hwait => ?_, fun d => ?_, fun d => ?_⟩
  · rw [ht]; exact hpart'.1.trans hpart.1
  · rw [ht]; exact hb.only.zone1.trans ha.only.zone1
  · rw [ht]; exact hb.only.zone2.trans ha.only.zone2
  · rw [ht]; exact hb.only.tray.trans ha.only.tray
  · rw [ht]; exact hpart'.2.1.trans hpart.2.1
  · rw [ht]; exact hb.only.part.1.trans ha.only.part.1
  · rw [ht]; exact hpart'.2.2.1.trans hpart.2.2.1
  · rw [ht]
    have h1 := congrArg Port.reply hb.only.port
    have h2 := congrArg Port.reply ha.only.port
    exact h1.trans h2
  · obtain ⟨hpa, -⟩ := ha.quiet (hwait .a)
    obtain ⟨hpb, -⟩ := hb.quiet (by rw [ha.only.deck_of_ne .b (by decide)]; exact hwait .b)
    rw [together_of_quiet _ _ _ (.inl (Nat.le_of_eq (by rw [hpa]))), hpb, hpa]
  · rw [show (_ : State).deck d = (decisionPoint .b _).deck d from by rw [ht]; cases d <;> rfl]
    exact (hb.records d).trans (ha.records d)
  · rw [show (_ : State).deck d = (decisionPoint .b _).deck d from by rw [ht]; cases d <;> rfl]
    exact (hb.disc d).trans (ha.disc d)

theorem exec_guardTimerExpiry (s : State) (hs : Up s) : exec .guardTimerExpiry s = .next (closeGuard s) :=
  whenUp_high s closeGuard hs

/-! ## What a decision leaves of its planner (R93 to R98) -/

/-- A part of a planner that shows nothing of its job, of its list, or of the REPAIR runs it counts. -/
def JobBlind {α : Type} (g : Planner → α) : Prop :=
  ∀ (p : Planner) (es : List Entry) (job : Job) (phase : JobPhase) (target : Option Spot) (n : Nat),
    g { p with entries := es, job := job, phase := phase, target := target, stats := { p.stats with repairRuns := n } } = g p

section
variable {α : Type} {g : Planner → α} (hg : JobBlind g) (d : Deck)
include hg

theorem JobBlind.job (p : Planner) (job : Job) (phase : JobPhase) (target : Option Spot) :
    g { p with job := job, phase := phase, target := target } = g p := hg p p.entries job phase target p.stats.repairRuns

theorem JobBlind.phase (p : Planner) (phase : JobPhase) : g { p with phase := phase } = g p := hg.job p p.job phase p.target

theorem blind_openRun (tag : Tag) (p : RunPlan) (s : State) : g ((openRun d tag p s).deck d).plan = g (s.deck d).plan := by
  unfold openRun
  dsimp only
  split <;> split <;> simp only [onPlan_same, onRing_same, onCtx_same] <;> exact hg (s.deck d).plan _ _ _ _ _

theorem blind_send (r : Request) (s : State) : g ((send d r s).deck d).plan = g (s.deck d).plan := by
  have hannounce (t : State) : (announce d t).deck d = t.deck d := by
    unfold announce; dsimp only; split <;> (try split) <;> simp
  have heffect (x : Tag) (c : DeckCommand) (t : State) : ((sentEffect d x c t).deck d).plan = (t.deck d).plan := by
    cases c <;> simp [sentEffect, hannounce]
  unfold send
  dsimp only
  split
  · rw [blind_openRun hg, heffect]; simp
  · rw [heffect]; simp

theorem blind_tellDropped (r : Request) (s : State) : g ((tellDropped d r s).deck d).plan = g (s.deck d).plan := by
  unfold tellDropped
  split
  · rw [onPlan_same]; exact hg.phase _ _
  · split <;> simp
  all_goals rfl

theorem blind_placeWaiting (r : Request) (s : State) : g ((placeWaiting d r s).1.deck d).plan = g (s.deck d).plan := by
  unfold placeWaiting
  split
  · simp
  · split
    · unfold displace
      split
      · simp
      · rw [onLink_same]; exact blind_tellDropped hg d _ s
    · exact blind_tellDropped hg d r s

theorem blind_request (r : Request) (s : State) : g ((request d r s).1.deck d).plan = g (s.deck d).plan := by
  have hmerge (p : Purpose) (t : State) : g ((mergePark d p t).deck d).plan = g (t.deck d).plan := by
    cases p <;> simp [mergePark]
  unfold request
  dsimp only
  split
  · exact blind_tellDropped hg d r s
  · split
    · split
      · exact blind_send hg d r s
      · exact blind_tellDropped hg d r s
    · split
      · split
        · exact blind_send hg d r s
        · exact blind_tellDropped hg d r s
      · split
        · exact hmerge _ s
        · exact blind_placeWaiting hg d r s

omit hg in
theorem release_plan (s : State) : ((release d s).deck d).plan = (s.deck d).plan := by
  obtain ⟨u, hu, -, hplan, -⟩ := release_local d s
  rw [hu, onDeck_same, hplan]

theorem blind_seekFor (job : Job) (t : Spot) (span : Option Span) (s : State) :
    g ((seekFor d job t span s).deck d).plan = g (s.deck d).plan := by
  unfold seekFor
  dsimp only
  split
  · rw [onPlan_same, release_plan]
    exact hg.job _ _ _ _
  · rw [startRun_eq]
    dsimp only
    split
    · exact blind_request hg d _ s
    · rw [onPlan_same]; exact (hg.phase _ _).trans (blind_request hg d _ s)

theorem blind_seekFetch (s : State) : g ((seekFetch d s).deck d).plan = g (s.deck d).plan := by
  unfold seekFetch
  split
  · exact blind_seekFor hg d _ _ _ s
  · rfl

theorem blind_resumeFetch (s : State) : g ((resumeFetch d s).deck d).plan = g (s.deck d).plan := by
  unfold resumeFetch
  dsimp only
  split
  · next t _ =>
    split
    · have hreq := blind_request hg d
        { command := .proceed, from_ := .planner, plan := some ⟨streamName (s.deck d), t, 0, none⟩ } s
      split
      next h => rw [h] at hreq; exact hreq
      next h => rw [h] at hreq; rw [onPlan_same]; exact (hg.phase _ _).trans hreq
    · exact blind_seekFetch hg d s
  · rfl

theorem blind_hold (live : Bool) (s : State) : g ((hold d live s).deck d).plan = g (s.deck d).plan := by
  have hstall (t : State) : g ((askStall d t).deck d).plan = g (t.deck d).plan := by
    unfold askStall
    dsimp only
    split
    · rfl
    · exact blind_request hg d _ t
  unfold hold
  split
  · dsimp only
    split
    · rw [hstall, onPlan_same]; exact hg.phase _ _
    · rw [release_plan, onPlan_same]; exact hg.phase _ _
  · rw [noJob, onPlan_same, release_plan]; exact hg.job _ _ _ _

/-- A decision keeps everything of its planner but the job, the list's states and the REPAIR runs it counts. -/
theorem blind_decide (standing : RunStanding) (s : State) : g ((decide_ d standing s).deck d).plan = g (s.deck d).plan := by
  unfold decide_
  dsimp only
  split
  · rw [noJob, onPlan_same]; exact hg.job _ _ _ _
  · split
    · split
      · rw [onPlan_same]; exact hg.phase _ _
      · rw [onPlan_same, release_plan]; exact hg.phase _ _
    · exact blind_seekFor hg d _ _ _ s
    · split
      · rfl
      · split
        · exact blind_resumeFetch hg d s
        · exact blind_seekFetch hg d s
    · split
      · rfl
      · exact blind_hold hg d _ s

theorem blind_decisionPoint (s : State) : g ((decisionPoint d s).deck d).plan = g (s.deck d).plan := by
  unfold decisionPoint
  split
  · rfl
  · exact blind_decide hg d _ s

theorem blind_breakPoint (s : State) : g ((breakPoint d s).deck d).plan = g (s.deck d).plan := by
  unfold breakPoint
  dsimp only
  split
  · exact blind_decide hg d _ s
  · split
    · rfl
    · exact blind_decide hg d _ s

theorem blind_onLow (s : State) : g ((onLow d s).deck d).plan = g (s.deck d).plan := by
  unfold onLow
  dsimp only
  split
  · exact blind_decide hg d _ s
  · rfl

end

/-! ## The backoff timer (R105) -/

theorem backoffExpired_cleared (d : Deck) (s : State) (h : (s.deck d).plan.backoff = true) :
    ((onBackoffExpired d s).deck d).plan.backoff = false ∧ ((onBackoffExpired d s).deck d).plan.backoffTarget = none := by
  rw [onBackoffExpired, if_pos h]
  have hkept := blind_decisionPoint (g := fun p => (p.backoff, p.backoffTarget)) (fun _ _ _ _ _ _ => rfl) d
    (onPlan d (fun p => { p with backoff := false, backoffTarget := none }) s)
  rw [onPlan_same] at hkept
  exact Prod.mk.inj hkept

/-- Settles O29: the guard's closing and the backoff's end, each followed by the planners' decisions. -/
theorem guardAndBackoffTimersExpire : Obligations.GuardAndBackoffTimersExpire := by
  refine ⟨fun s hs => ⟨fun hclosed => ?_, fun hopen => ⟨_, exec_guardTimerExpiry s hs, ?_⟩⟩,
    fun d s hs => ⟨fun hstopped => ?_, fun hrunning => ?_⟩⟩
  · rw [exec_guardTimerExpiry s hs, closeGuard_closed s hclosed]
  · have h := closeGuard_open s hopen
    exact ⟨h.shock, h.zone1, h.zone2, h.tray, h.standby, h.pin, h.stage, fun hwait => h.quiet fun d => .of_none (hwait d),
      fun d => ⟨h.records d, h.disc d⟩⟩
  · have hsame : onBackoffExpired d s = s := by simp [onBackoffExpired, hstopped]
    exact (event_settled s (onBackoffExpired d) hs (by rw [hsame])).trans (by rw [hsame])
  · have h := planned_onBackoffExpired d s
    obtain ⟨hbackoff, htarget⟩ := backoffExpired_cleared d s hrunning
    exact ⟨_, event_settled s (onBackoffExpired d) hs h.only.part.2.2.1, hbackoff, htarget, h.records d, h.only.zone1,
      h.only.zone2, h.only.part, h.only.tray, h.only.other⟩

/-! ## SET_SHOCK (R162, R163) -/

theorem exec_setShock (v : ShockArgs) (s : State) : exec (.setShock v) s = taken s (unlessStandby (setShockAnswer v)) := rfl

theorem setShockAnswer_badArg (v : ShockArgs) (s : State) (h : 1 < v.enable.toNat ∨ 1 < v.latch.toNat) :
    setShockAnswer v s = (s, refusal .badArg) := by
  have hbad : ¬ (v.enable.toNat ≤ 1 ∧ v.latch.toNat ≤ 1) := by omega
  simp only [setShockAnswer, shockSettings, if_neg hbad]

/-- The settings that SET_SHOCK uses, with the clamps of R162 in their order. -/
def clampedShock (v : ShockArgs) (h : Shock) : Shock :=
  { h with
    enable := v.enable == 1#8, centre := min 1023 v.centre.toNat, ton := max 1 (min 511 v.ton.toNat)
    toff := min (max 1 (min 511 v.ton.toNat) - 1) v.toff.toNat, latching := v.latch == 1#8, guardTime := min 10000 v.guard.toNat }

theorem toNat_beq_one (b : Byte) : (b.toNat == 1) = (b == 1#8) := by
  rw [Bool.eq_iff_iff, beq_iff_eq, beq_iff_eq]
  exact ⟨fun h => BitVec.eq_of_toNat_eq h, fun h => by rw [h]; rfl⟩

theorem shockSettings_eq (v : ShockArgs) (h : Shock) (he : v.enable.toNat ≤ 1) (hl : v.latch.toNat ≤ 1) :
    shockSettings v h = some (clampedShock v h) := by
  have hton : clampTo 1 511 v.ton.toNat = max 1 (min 511 v.ton.toNat) := by unfold clampTo; omega
  rw [shockSettings, if_pos ⟨he, hl⟩, hton]
  simp only [clampTo, Nat.zero_max, toNat_beq_one]
  rfl

theorem onOff_bit {b : Byte} (h : b.toNat ≤ 1) : onOff (b == 1#8) = byte b.toNat := by
  rw [onOff_beq_one h]; simp [byte]

/-- The settings used as SET_SHOCK returns them (R212). -/
theorem clampedShock_settings (v : ShockArgs) (h : Shock) (he : v.enable.toNat ≤ 1) (hl : v.latch.toNat ≤ 1) :
    (clampedShock v h).settings =
      byte v.enable.toNat :: be2 (clampedShock v h).centre ++ be2 (clampedShock v h).ton ++ be2 (clampedShock v h).toff
        ++ [byte v.latch.toNat] ++ be2 (clampedShock v h).guardTime := by
  show onOff (v.enable == 1#8) :: _ ++ _ ++ _ ++ [onOff (v.latch == 1#8)] ++ _ = _
  rw [onOff_bit he, onOff_bit hl]

theorem setShockAnswer_ok (v : ShockArgs) (s : State) (he : v.enable.toNat ≤ 1) (hl : v.latch.toNat ≤ 1) :
    setShockAnswer v s =
      (enableChanged s.shock.enable { s with shock := clampedShock v s.shock }, ok (clampedShock v s.shock).settings) := by
  simp only [setShockAnswer, shockSettings_eq v s.shock he hl]

/-- A stopped Shock Monitor has its guard closed and its flag clear (R163). -/
theorem enableChanged_off (s : State) (h : s.shock.enable = false) :
    GuardClosed { s with shock := { s.shock with converting := false, flag := false } } (enableChanged true s) := by
  have hoff : enableChanged true s = closeGuard { s with shock := { s.shock with converting := false, flag := false } } := by
    simp [enableChanged, h]
  rw [hoff]
  by_cases hguard : s.shock.guard = none
  · rw [closeGuard_closed { s with shock := { s.shock with converting := false, flag := false } } hguard]
    exact ⟨by rw [← hguard], rfl, rfl, rfl, rfl, rfl, rfl, rfl, fun _ => rfl, fun _ => rfl, fun _ => rfl⟩
  · exact closeGuard_open _ hguard

/-- Settles O26: the refusals, the settings used, and the two changes of the enable setting. -/
theorem setShockClampsAndEnables : Obligations.SetShockClampsAndEnables := by
  intro v s hs
  refine ⟨fun hbad => ?_, fun he hl => ?_⟩
  · rw [exec_setShock, taken_unlessStandby_awake _ hs, setShockAnswer_badArg v s hbad, settle_refusal]
  intro on ton set data
  have hset : clampedShock v s.shock = set := rfl
  have hdata : (clampedShock v s.shock).settings = data := clampedShock_settings v s.shock he hl
  have hexec := exec_setShock v s
  rw [taken_unlessStandby_awake _ hs, setShockAnswer_ok v s he hl, settle_ok, hdata, hset] at hexec
  refine ⟨fun hsame => ?_, fun hne => ⟨_, hexec, rfl, ?_⟩⟩
  · rw [hexec, hsame, show enableChanged on { s with shock := set } = { s with shock := set } from if_pos rfl]
  · cases hon : on with
    | true =>
      have hold : s.shock.enable = false := by rw [hon] at hne; simpa using hne
      have henable : set.enable = true := hon
      have hstart : enableChanged s.shock.enable { s with shock := set } = { s with shock := { set with converting := true } } := by
        simp [enableChanged, hold, henable, inStandby, hs.2]
      rw [hstart]
      exact ⟨rfl, rfl, rfl, rfl, rfl, rfl, fun d => ⟨by cases d <;> rfl, by cases d <;> rfl⟩⟩
    | false =>
      have hold : s.shock.enable = true := by rw [hon] at hne; simpa using hne
      have h := enableChanged_off { s with shock := set } hon
      rw [hold]
      refine ⟨h.shock, h.zone1, h.zone2, h.tray, h.standby, h.pin, fun d => ⟨?_, ?_⟩⟩
      · exact (h.records d).trans (by cases d <;> rfl)
      · exact (h.disc d).trans (by cases d <;> rfl)

/-! ## Tray lines (R167) -/

/-- Settles O31: what `trayLine` does with the timer, in each of its cases. -/
theorem trayLineStartsOrStopsDebounce : Obligations.TrayLineStartsOrStopsDebounce := by
  intro d level s hs
  have hexec : exec (.trayLineChange d level) s = .next (trayLine d level s) := by
    show execTrayLineChange d level s = _
    simp only [execTrayLineChange, show s.resetPin = .high from hs]
  rw [hexec, trayLine]
  by_cases hline : (s.side d).line = level
  · rw [if_pos hline, if_pos hline]
  · rw [if_neg hline, if_neg hline]
    cases hd : s.tray.debouncing <;> cases d <;> rfl

/-! ## SET_LEVEL and SET_MARK (R127, R128) -/

/-- Both zones at one event, neither raising a notice. -/
theorem together_onZone (f : Zone → Zone) (s : State) :
    together (onZone .one f) (onZone .two f) s = { s with zone1 := f s.zone1, zone2 := f s.zone2 } :=
  together_of_quiet _ _ _ (.inl (by simp))

theorem exec_setLevel (zone : Byte) (level : BitVec 16) (s : State) :
    exec (.setLevel zone level) s = taken s (unlessStandby (setLevelAnswer zone level.toNat)) := rfl

theorem exec_setMark (zone : Byte) (addr : Option (BitVec 24)) (s : State) :
    exec (.setMark zone addr) s = taken s (unlessStandby (setMarkAnswer zone (addr.map (·.toNat)))) := rfl

theorem setLevelAnswer_eq (zone : Byte) (c : ZoneChoice) (level : BitVec 16) (s : State) (h : zonesArg zone = some c) :
    setLevelAnswer zone level.toNat s =
      (onChoice .one c (fun z => onZone z fun n => { n with staged := some level.toNat }) s, ok (be2 level.toNat)) := by
  have hle : min 65535 level.toNat = level.toNat := by have := level.isLt; omega
  simp only [setLevelAnswer, h, hle]

/-- Settles O44: the zones named, and the mark used. -/
theorem levelAndMarkAreSet : Obligations.LevelAndMarkAreSet := by
  constructor
  · intro level s hs staged
    refine ⟨?_, ?_, ?_⟩
    · rw [exec_setLevel, taken_unlessStandby_of_ok hs (setLevelAnswer_eq 1#8 (.only .one) level s rfl)]; rfl
    · rw [exec_setLevel, taken_unlessStandby_of_ok hs (setLevelAnswer_eq 2#8 (.only .two) level s rfl)]; rfl
    · rw [exec_setLevel, taken_unlessStandby_of_ok hs (setLevelAnswer_eq 3#8 .both level s rfl)]
      exact congrArg (fun t => Host.Outcome.next (replied .ok (be2 level.toNat) t)) (together_onZone staged s)
  · intro z addr s hs mark
    have hanswer : setMarkAnswer (zoneByte z) (addr.map (·.toNat)) s =
        (onZone z (fun n => { n with mark := mark }) s, ok (addr3 mark)) := by
      simp only [setMarkAnswer, zoneArg_zoneByte, Option.map_map]; rfl
    rw [exec_setMark, taken_unlessStandby_of_ok hs hanswer]
    cases addr <;> rfl

end Sys2Proof.Proofs
end


section
/-!
PROOFS. The repair list over its ring (R84 to R90): what a leaving slot, an abandoned entry, a new entry and a covered gap do to its form.
-/

namespace Sys2Proof.Proofs

open Sys2Proof.Machine

/-! ## The list's form, with slots that are about to leave or to come -/

/-- The ring holds a DOUBTFUL or a MISSING slot at the place (R84). -/
def Held (records : List SlotRecord) (p : Spot) : Prop :=
  ∃ q ∈ records, q.addr = p.addr ∧ q.seg = p.seg ∧ (q.state = .doubtful ∨ q.state = .missing)

/-- The entry covers a MISSING slot of the ring (R84). -/
def CoversMissing (records : List SlotRecord) (e : Entry) : Prop :=
  ∃ q ∈ records, q.state = .missing ∧ e.covers ⟨q.addr, q.seg⟩ = true

/-- Play order of two entries (R84). -/
def Before (tag : Seg) (e f : Entry) : Prop := if e.seg = f.seg then e.first + e.count ≤ f.first else e.seg = tag

/-- The entry's slots are held by the ring, but for those in `away`: on their way out of the list, or into the ring. -/
structure SlotsOk (records : List SlotRecord) (away : Spot → Prop) (e : Entry) : Prop where
  pos  : 1 ≤ e.count
  le   : e.count ≤ 8
  held : ∀ p, e.covers p = true → away p ∨ Held records p

/-- The repair list's form but for attempts and flags (R84). -/
structure ListForm (tag : Seg) (records : List SlotRecord) (away : Spot → Prop) (es : List Entry) : Prop where
  length  : es.length ≤ 32
  slots   : ∀ e ∈ es, SlotsOk records away e
  order   : es.Pairwise (Before tag)
  active  : OneActive es
  covered : ∀ q ∈ records, q.state = .missing → ∃ e ∈ es, e.covers ⟨q.addr, q.seg⟩ = true

/-- No place is away. -/
def nowhere (_ : Spot) : Prop := False

theorem covers_iff (e : Entry) (p : Spot) :
    e.covers p = true ↔ e.seg = p.seg ∧ e.first ≤ p.addr ∧ p.addr < e.first + e.count := by
  simp [Entry.covers]

/-- The form of a deck's repair list, in its parts. -/
theorem repairForm_iff (u : DeckUnit) :
    RepairForm u ↔ ListForm u.ring.tag u.ring.records nowhere u.plan.entries ∧
      (∀ e ∈ u.plan.entries, e.attempts < u.plan.limit) ∧
      (∀ e ∈ u.plan.entries, e.missing = true ↔ CoversMissing u.ring.records e) ∧ u.intake.gapLimit ≤ 8 := by
  have hheld : ∀ e : Entry, (∀ k, k < e.count → ∃ q ∈ u.ring.records, q.addr = e.first + k ∧ q.seg = e.seg ∧
      (q.state = .doubtful ∨ q.state = .missing)) ↔ ∀ p, e.covers p = true → nowhere p ∨ Held u.ring.records p := by
    intro e
    constructor
    · intro h p hp
      obtain ⟨hs, h1, h2⟩ := (covers_iff e p).1 hp
      obtain ⟨q, hq, ha, hqs, hst⟩ := h (p.addr - e.first) (by omega)
      exact .inr ⟨q, hq, by omega, hqs.trans hs, hst⟩
    · intro h k hk
      rcases h ⟨e.first + k, e.seg⟩ ((covers_iff _ _).2 ⟨rfl, by simp, by simp [hk]⟩) with h | h
      · exact h.elim
      · exact h
  constructor
  · rintro ⟨h1, h2, h3, h4, h5, h6⟩
    refine ⟨⟨h1, fun e he => ?_, h3, h4, h5⟩, fun e he => (h2 e he).2.2.1, fun e he => (h2 e he).2.2.2.2, h6⟩
    obtain ⟨hp, hl, -, hs, -⟩ := h2 e he
    exact ⟨hp, hl, (hheld e).1 hs⟩
  · rintro ⟨⟨h1, h2, h3, h4, h5⟩, ha, hf, h6⟩
    exact ⟨h1, fun e he => ⟨(h2 e he).pos, (h2 e he).le, ha e he, (hheld e).2 (h2 e he).held, hf e he⟩, h3, h4, h5, h6⟩

/-- Two entries in play order share no slot (R84). -/
theorem not_covers_of_before {tag : Seg} {e f : Entry} (h : Before tag e f) {p : Spot} (he : e.covers p = true) :
    f.covers p = false := by
  refine Bool.eq_false_iff.2 fun hf => ?_
  obtain ⟨es, e1, e2⟩ := (covers_iff e p).1 he
  obtain ⟨fs, f1, f2⟩ := (covers_iff f p).1 hf
  unfold Before at h
  rw [if_pos (es.trans fs.symm)] at h
  omega

/-- The entries around the one that covers a slot do not cover it (R84). -/
theorem covers_unique {tag : Seg} {before after : List Entry} {e : Entry} (h : (before ++ e :: after).Pairwise (Before tag))
    {p : Spot} (he : e.covers p = true) : (∀ f ∈ before, f.covers p = false) ∧ ∀ f ∈ after, f.covers p = false := by
  obtain ⟨-, hright, hcross⟩ := List.pairwise_append.1 h
  refine ⟨fun f hf => ?_, fun f hf => not_covers_of_before ((List.pairwise_cons.1 hright).1 f hf) he⟩
  refine Bool.eq_false_iff.2 fun hc => ?_
  have := not_covers_of_before (hcross f hf e List.mem_cons_self) hc
  rw [this] at he; cases he

/-! ## Entries split and shortened (R87) -/

/-- A part of an entry: some of its slots, without the one that leaves. -/
structure PartOf (e : Entry) (a : Nat) (x : Entry) : Prop where
  seg      : x.seg = e.seg
  attempts : x.attempts = e.attempts
  pos      : 1 ≤ x.count
  le       : x.count ≤ e.count
  start    : e.first ≤ x.first
  stop     : x.first + x.count ≤ e.first + e.count
  without  : x.covers ⟨a, e.seg⟩ = false

/-- What is left of an entry when a slot it covers leaves it (R87). -/
structure Parts (e : Entry) (a : Nat) (q : Option Entry × Option Entry) : Prop where
  first  : ∀ x, q.1 = some x → PartOf e a x ∧ x.active = e.active
  second : ∀ y, q.2 = some y → PartOf e a y ∧ y.active = false ∧ ∃ x, q.1 = some x ∧ x.first + x.count ≤ y.first
  all    : ∀ p, e.covers p = true → p.addr ≠ a → (∃ x, q.1 = some x ∧ x.covers p = true) ∨ ∃ y, q.2 = some y ∧ y.covers p = true

theorem parts_without {e : Entry} {a : Nat} (h : e.covers ⟨a, e.seg⟩ = true) : Parts e a (e.without a) := by
  obtain ⟨-, h1, h2⟩ := (covers_iff e _).1 h
  dsimp only at h1 h2
  have hpart : ∀ x : Entry, x.seg = e.seg → x.attempts = e.attempts → 1 ≤ x.count → e.first ≤ x.first →
      x.first + x.count ≤ e.first + e.count → (a < x.first ∨ x.first + x.count ≤ a) → PartOf e a x := by
    intro x hs hat hp hst hsp hw
    refine ⟨hs, hat, hp, by omega, hst, hsp, ?_⟩
    refine Bool.eq_false_iff.2 fun hc => ?_
    obtain ⟨-, c1, c2⟩ := (covers_iff x _).1 hc
    dsimp only at c1 c2; omega
  have hcov : ∀ (x : Entry) (p : Spot), x.seg = e.seg → e.covers p = true → x.first ≤ p.addr → p.addr < x.first + x.count →
      x.covers p = true := fun x p hs hp c1 c2 => (covers_iff x p).2 ⟨hs.trans ((covers_iff e p).1 hp).1, c1, c2⟩
  unfold Entry.without
  dsimp only
  split
  · split
    · refine ⟨by simp, by simp, fun p hp hne => ?_⟩
      obtain ⟨-, p1, p2⟩ := (covers_iff e p).1 hp; omega
    · refine ⟨?_, by simp, fun p hp hne => ?_⟩
      · rintro x hx; cases hx
        exact ⟨hpart _ rfl rfl (by dsimp only; omega) (by dsimp only; omega) (by dsimp only; omega) (by dsimp only; omega), rfl⟩
      · obtain ⟨-, p1, p2⟩ := (covers_iff e p).1 hp
        exact .inl ⟨_, rfl, hcov _ p rfl hp (by dsimp only; omega) (by dsimp only; omega)⟩
  · split
    · refine ⟨?_, by simp, fun p hp hne => ?_⟩
      · rintro x hx; cases hx
        exact ⟨hpart _ rfl rfl (by dsimp only; omega) (by dsimp only; omega) (by dsimp only; omega) (by dsimp only; omega), rfl⟩
      · obtain ⟨-, p1, p2⟩ := (covers_iff e p).1 hp
        exact .inl ⟨_, rfl, hcov _ p rfl hp (by dsimp only; omega) (by dsimp only; omega)⟩
    · refine ⟨?_, ?_, fun p hp hne => ?_⟩
      · rintro x hx; cases hx
        exact ⟨hpart _ rfl rfl (by dsimp only; omega) (by dsimp only; omega) (by dsimp only; omega) (by dsimp only; omega), rfl⟩
      · rintro y hy; cases hy
        exact ⟨hpart _ rfl rfl (by dsimp only; omega) (by dsimp only; omega) (by dsimp only; omega) (by dsimp only; omega), rfl,
          _, rfl, by dsimp only; omega⟩
      · obtain ⟨-, p1, p2⟩ := (covers_iff e p).1 hp
        by_cases hpa : p.addr < a
        · exact .inl ⟨_, rfl, hcov _ p rfl hp (by dsimp only; omega) (by dsimp only; omega)⟩
        · exact .inr ⟨_, rfl, hcov _ p rfl hp (by dsimp only; omega) (by dsimp only; omega)⟩

/-- An entry that keeps all of its slots. -/
def unsplit (e : Entry) : Option Entry × Option Entry := (some e, none)

theorem filterMap_fst_unsplit (l : List Entry) : (l.map unsplit).filterMap (·.1) = l := by
  induction l <;> simp_all [unsplit]
theorem filterMap_snd_unsplit (l : List Entry) : (l.map unsplit).filterMap (·.2) = [] := by
  induction l <;> simp_all [unsplit]
theorem flatMap_unsplit (l : List Entry) : (l.map unsplit).flatMap (fun q => q.1.toList ++ q.2.toList) = l := by
  induction l <;> simp_all [unsplit]

/-- What a slot that leaves does to the list: nothing where no entry covers it; otherwise the one entry that does gives way to its
parts, the later of which is lost where a full list has no place for it (R87). -/
theorem leaveList_cases (tag : Seg) (p : Spot) (es : List Entry) (h : es.Pairwise (Before tag)) :
    ((∀ e ∈ es, e.covers p = false) ∧ leaveList p es = (es, none)) ∨
      ∃ before e after, es = before ++ e :: after ∧ e.covers p = true ∧
        ((32 ≤ es.length ∧ leaveList p es = (before ++ (e.without p.addr).1.toList ++ after, (e.without p.addr).2)) ∨
          (es.length < 32 ∧
            leaveList p es = (before ++ ((e.without p.addr).1.toList ++ (e.without p.addr).2.toList) ++ after, none))) := by
  have hkeep : ∀ l : List Entry, (∀ e ∈ l, e.covers p = false) →
      l.map (fun e => if e.covers p then e.without p.addr else (some e, none)) = l.map unsplit :=
    fun l hl => List.map_congr_left fun e he => by simp [hl e he, unsplit]
  by_cases hc : ∃ e ∈ es, e.covers p = true
  · right
    obtain ⟨e, he, hcov⟩ := hc
    obtain ⟨before, after, rfl⟩ := List.append_of_mem he
    obtain ⟨hb, ha⟩ := covers_unique h hcov
    refine ⟨before, e, after, rfl, hcov, ?_⟩
    unfold leaveList
    dsimp only
    rw [List.map_append, List.map_cons, hkeep before hb, hkeep after ha, if_pos hcov]
    by_cases hfull : Config.repairEntries ≤ (before ++ e :: after).length
    · refine .inl ⟨hfull, ?_⟩
      rw [if_pos (by simpa using hfull)]
      rw [List.filterMap_append, List.filterMap_append, List.filterMap_cons, List.filterMap_cons, filterMap_fst_unsplit,
        filterMap_fst_unsplit, filterMap_snd_unsplit, filterMap_snd_unsplit]
      cases (e.without p.addr).1 <;> cases (e.without p.addr).2 <;> simp
    · refine .inr ⟨Nat.lt_of_not_le hfull, ?_⟩
      rw [if_neg (by simpa using hfull)]
      rw [List.flatMap_append, List.flatMap_cons, flatMap_unsplit, flatMap_unsplit, List.append_assoc,
        List.append_assoc, List.append_assoc]
  · left
    have hnone : ∀ e ∈ es, e.covers p = false := fun e he =>
      Bool.eq_false_iff.2 fun hcovers => hc ⟨e, he, hcovers⟩
    refine ⟨hnone, ?_⟩
    unfold leaveList
    dsimp only
    rw [hkeep es hnone, filterMap_fst_unsplit, filterMap_snd_unsplit, flatMap_unsplit]
    split <;> rfl

/-! ## Slots given up (R87, R90) -/

@[simp] theorem retire_addr (e : Entry) (q : SlotRecord) : (retire e q).addr = q.addr := by
  unfold retire; (repeat' split) <;> rfl
@[simp] theorem retire_seg (e : Entry) (q : SlotRecord) : (retire e q).seg = q.seg := by
  unfold retire; (repeat' split) <;> rfl

theorem retire_of_not_covers {e : Entry} {q : SlotRecord} (h : e.covers ⟨q.addr, q.seg⟩ = false) : retire e q = q := by
  simp [retire, h]

/-- A slot that is MISSING once an entry is given up was MISSING before, and is none of the entry's (R87). -/
theorem missing_of_retire {e : Entry} {q : SlotRecord} (h : (retire e q).state = .missing) :
    q.state = .missing ∧ e.covers ⟨q.addr, q.seg⟩ = false := by
  unfold retire at h
  split at h
  · split at h <;> simp_all
  · next hc => exact ⟨h, by simpa using hc⟩

/-- The records with the slots of an entry given up. -/
def retired (lost : Option Entry) (records : List SlotRecord) : List SlotRecord :=
  match lost with
  | some e => records.map (retire e)
  | none => records

theorem held_retired {lost : Option Entry} {records : List SlotRecord} {p : Spot} (h : Held records p)
    (hp : ∀ e, lost = some e → e.covers p = false) : Held (retired lost records) p := by
  cases lost with
  | none => exact h
  | some e =>
    obtain ⟨q, hq, ha, hs, hst⟩ := h
    refine ⟨retire e q, List.mem_map_of_mem hq, by simpa using ha, by simpa using hs, ?_⟩
    rw [retire_of_not_covers (by rw [ha, hs]; exact hp e rfl)]; exact hst

theorem missing_retired {lost : Option Entry} {records : List SlotRecord} {q : SlotRecord} (hq : q ∈ retired lost records)
    (hm : q.state = .missing) : q ∈ records ∧ ∀ e, lost = some e → e.covers ⟨q.addr, q.seg⟩ = false := by
  cases lost with
  | none => exact ⟨hq, by simp⟩
  | some e =>
    obtain ⟨p, hp, rfl⟩ := List.mem_map.1 hq
    obtain ⟨-, hc⟩ := missing_of_retire hm
    rw [retire_of_not_covers hc]
    refine ⟨hp, ?_⟩
    rintro _ ⟨⟩; exact hc

/-! ## A slot leaves the list (R87 to R89) -/

/-- An entry gives way to parts of it: the list's form stands over the records with the lost part given up. -/
theorem listForm_replace {tag : Seg} {records : List SlotRecord} {away : Spot → Prop} {p : Spot} {before after mid : List Entry}
    {e : Entry} {lost : Option Entry} (h : ListForm tag records (fun q => q = p ∨ away q) (before ++ e :: after))
    (hp : e.covers p = true) (hmissing : ∀ q ∈ records, q.addr = p.addr → q.seg = p.seg → q.state ≠ .missing)
    (hlen : (before ++ mid ++ after).length ≤ 32) (hpart : ∀ x ∈ mid, PartOf e p.addr x) (hlost : ∀ y, lost = some y → PartOf e p.addr y)
    (hmid : mid.Pairwise (Before tag)) (hact : (mid.filter (·.active)).length ≤ ([e].filter (·.active)).length)
    (hall : ∀ q, e.covers q = true → q.addr ≠ p.addr → (∃ x ∈ mid, x.covers q = true) ∨ ∃ y, lost = some y ∧ y.covers q = true)
    (hdis : ∀ y, lost = some y → ∀ x ∈ mid, ∀ q, y.covers q = true → x.covers q = false) :
    ListForm tag (retired lost records) away (before ++ mid ++ after) := by
  obtain ⟨-, hslots, horder, hone, hcov⟩ := h
  obtain ⟨hbefore, hafter⟩ := covers_unique horder hp
  have hes : e.seg = p.seg := ((covers_iff e p).1 hp).1
  have hsub : ∀ x, PartOf e p.addr x → ∀ q, x.covers q = true → e.covers q = true ∧ q ≠ p := by
    intro x hx q hq
    obtain ⟨q1, q2, q3⟩ := (covers_iff x q).1 hq
    refine ⟨(covers_iff e q).2 ⟨hx.seg.symm.trans q1, by have := hx.start; omega, by have := hx.stop; omega⟩, ?_⟩
    rintro rfl
    have := hx.without
    rw [show (⟨q.addr, e.seg⟩ : Spot) = q by rw [← hx.seg, q1]] at this
    rw [this] at hq; cases hq
  obtain ⟨hob, hright, hcross⟩ := List.pairwise_append.1 horder
  obtain ⟨hea, hoa⟩ := List.pairwise_cons.1 hright
  have hmem : ∀ f, f ∈ before ++ mid ++ after → f ∈ mid ∨ (f ∈ before ++ e :: after ∧ f.covers p = false ∧
      ∀ y, lost = some y → ∀ q, y.covers q = true → f.covers q = false) := by
    intro f hf
    have hfar : ∀ q, e.covers q = true → (∀ f ∈ before, f.covers q = false) ∧ ∀ f ∈ after, f.covers q = false :=
      fun q hq => covers_unique horder hq
    rcases List.mem_append.1 hf with hf | hf
    · rcases List.mem_append.1 hf with hf | hf
      · exact .inr ⟨List.mem_append_left _ hf, hbefore f hf, fun y hy q hq => (hfar q (hsub y (hlost y hy) q hq).1).1 f hf⟩
      · exact .inl hf
    · exact .inr ⟨List.mem_append_right _ (List.mem_cons_of_mem _ hf), hafter f hf,
        fun y hy q hq => (hfar q (hsub y (hlost y hy) q hq).1).2 f hf⟩
  refine ⟨hlen, fun f hf => ?_, ?_, ?_, fun q hq hm => ?_⟩
  · rcases hmem f hf with hf | ⟨hf, hfp, hdisf⟩
    · have hx := hpart f hf
      refine ⟨hx.pos, Nat.le_trans hx.le (hslots e (by simp)).le, fun q hq => ?_⟩
      obtain ⟨heq, hne⟩ := hsub f hx q hq
      rcases (hslots e (by simp)).held q heq with (h | h) | h
      · exact absurd h hne
      · exact .inl h
      · refine .inr (held_retired h fun y hy => ?_)
        refine Bool.eq_false_iff.2 fun hc => ?_
        have := hdis y hy f hf q hc
        rw [this] at hq; cases hq
    · refine ⟨(hslots f hf).pos, (hslots f hf).le, fun q hq => ?_⟩
      rcases (hslots f hf).held q hq with (h | h) | h
      · rw [h, hfp] at hq; cases hq
      · exact .inl h
      · refine .inr (held_retired h fun y hy => ?_)
        refine Bool.eq_false_iff.2 fun hc => ?_
        have := hdisf y hy q hc
        rw [this] at hq; cases hq
  · rw [List.append_assoc, List.pairwise_append, List.pairwise_append]
    have hbx : ∀ f ∈ before, ∀ x ∈ mid, Before tag f x := by
      intro f hf x hx
      have hfe := hcross f hf e List.mem_cons_self
      have := hpart x hx
      unfold Before at hfe ⊢
      rw [this.seg]
      split at hfe
      · next hs => rw [if_pos hs]; exact Nat.le_trans hfe this.start
      · next hs => rw [if_neg hs]; exact hfe
    have hxa : ∀ x ∈ mid, ∀ f ∈ after, Before tag x f := by
      intro x hx f hf
      have hfe := hea f hf
      have := hpart x hx
      unfold Before at hfe ⊢
      rw [this.seg]
      split at hfe
      · next hs => rw [if_pos hs]; exact Nat.le_trans this.stop hfe
      · next hs => rw [if_neg hs]; exact hfe
    refine ⟨hob, ⟨hmid, hoa, hxa⟩, fun f hf x hx => ?_⟩
    rcases List.mem_append.1 hx with hx | hx
    · exact hbx f hf x hx
    · exact hcross f hf x (List.mem_cons_of_mem _ hx)
  · unfold OneActive at hone ⊢
    rw [List.filter_append, List.filter_append, List.length_append, List.length_append]
    rw [List.filter_append, ← List.singleton_append, List.filter_append, List.length_append, List.length_append] at hone
    omega
  · obtain ⟨hq, hql⟩ := missing_retired hq hm
    obtain ⟨f, hf, hfc⟩ := hcov q hq hm
    rcases List.mem_append.1 hf with hf | hf
    · exact ⟨f, by simp [hf], hfc⟩
    · rcases List.mem_cons.1 hf with rfl | hf
      · have hne : q.addr ≠ p.addr := fun ha =>
          hmissing q hq ha (((covers_iff f _).1 hfc).1.symm.trans hes) hm
        rcases hall _ hfc hne with ⟨x, hx, hxc⟩ | ⟨y, hy, hyc⟩
        · exact ⟨x, by simp [hx], hxc⟩
        · rw [hql y hy] at hyc; cases hyc
      · exact ⟨f, by simp [hf], hfc⟩

/-- A slot has left the list (R87): the form stands over the records with the lost part of a split given up. -/
theorem listForm_leaveList {tag : Seg} {records : List SlotRecord} {away : Spot → Prop} {p : Spot} {es : List Entry}
    (h : ListForm tag records (fun q => q = p ∨ away q) es)
    (hmissing : ∀ q ∈ records, q.addr = p.addr → q.seg = p.seg → q.state ≠ .missing) :
    ListForm tag (retired (leaveList p es).2 records) away (leaveList p es).1 ∧
      ∀ x ∈ (leaveList p es).1, ∃ e ∈ es, x.attempts = e.attempts := by
  rcases leaveList_cases tag p es h.order with ⟨hnone, heq⟩ | ⟨before, e, after, rfl, hp, hcases⟩
  · rw [heq]
    refine ⟨⟨h.length, fun e he => ?_, h.order, h.active, h.covered⟩, fun x hx => ⟨x, hx, rfl⟩⟩
    refine ⟨(h.slots e he).pos, (h.slots e he).le, fun q hq => ?_⟩
    rcases (h.slots e he).held q hq with (hqp | ha) | hh
    · rw [hqp, hnone e he] at hq; cases hq
    · exact .inl ha
    · exact .inr hh
  · have hes : e.seg = p.seg := ((covers_iff e p).1 hp).1
    have hparts := parts_without (e := e) (a := p.addr) (by rw [hes]; exact hp)
    have hattempts : ∀ mid, (∀ x ∈ mid, PartOf e p.addr x) → ∀ x ∈ before ++ mid ++ after, ∃ f ∈ before ++ e :: after,
        x.attempts = f.attempts := by
      intro mid hmid x hx
      rcases List.mem_append.1 hx with hx | hx
      · rcases List.mem_append.1 hx with hx | hx
        · exact ⟨x, by simp [hx], rfl⟩
        · exact ⟨e, by simp, (hmid x hx).attempts⟩
      · exact ⟨x, by simp [hx], rfl⟩
    have hactive : ((e.without p.addr).1.toList.filter (·.active)).length ≤ ([e].filter (·.active)).length := by
      cases hx : (e.without p.addr).1 with
      | none => simp
      | some x => 
        simp only [Option.toList, List.filter_cons, (hparts.first x hx).2]
        split <;> exact Nat.le_refl _
    have hfirst : ∀ x ∈ (e.without p.addr).1.toList, PartOf e p.addr x := fun x hx => (hparts.first x (by simpa using hx)).1
    have hdisj : ∀ x y, (e.without p.addr).1 = some x → (e.without p.addr).2 = some y → ∀ q, y.covers q = true → x.covers q = false := by
      intro x y hx hy q hq
      obtain ⟨-, -, x', hx', hle⟩ := hparts.second y hy
      rw [hx] at hx'; cases hx'
      refine Bool.eq_false_iff.2 fun hc => ?_
      have c1 := (covers_iff y q).1 hq
      have c2 := (covers_iff x q).1 hc
      omega
    rcases hcases with ⟨hfull, heq⟩ | ⟨hroom, heq⟩
    · rw [heq]
      refine ⟨listForm_replace h hp hmissing ?_ hfirst (fun y hy => (hparts.second y hy).1) ?_ hactive ?_ ?_, hattempts _ hfirst⟩
      · have := h.length
        simp only [List.length_append, List.length_cons] at this ⊢
        cases (e.without p.addr).1 <;> simp <;> omega
      · cases (e.without p.addr).1 <;> simp
      · intro q hq hne
        rcases hparts.all q hq hne with ⟨x, hx, hc⟩ | h
        · exact .inl ⟨x, by simp [hx], hc⟩
        · exact .inr h
      · intro y hy x hx
        exact hdisj x y (by simpa using hx) hy
    · rw [heq]
      have hboth : ∀ x ∈ (e.without p.addr).1.toList ++ (e.without p.addr).2.toList, PartOf e p.addr x := by
        intro x hx
        rcases List.mem_append.1 hx with hx | hx
        · exact hfirst x hx
        · exact (hparts.second x (by simpa using hx)).1
      refine ⟨listForm_replace (lost := none) h hp hmissing ?_ hboth (by simp) ?_ ?_ ?_ (by simp), hattempts _ hboth⟩
      · simp only [List.length_append, List.length_cons] at hroom ⊢
        cases (e.without p.addr).1 <;> cases (e.without p.addr).2 <;> simp <;> omega
      · rw [List.pairwise_append]
        refine ⟨by cases (e.without p.addr).1 <;> simp, by cases (e.without p.addr).2 <;> simp, fun x hx y hy => ?_⟩
        obtain ⟨hy1, -, x', hx', hle⟩ := hparts.second y (by simpa using hy)
        rw [show (e.without p.addr).1 = some x by simpa using hx] at hx'; cases hx'
        unfold Before
        rw [if_pos ((hfirst x hx).seg.trans hy1.seg.symm)]; exact hle
      · rw [List.filter_append, List.length_append]
        have : ((e.without p.addr).2.toList.filter (·.active)).length = 0 := by
          cases hy : (e.without p.addr).2 with
          | none => simp
          | some y => simp [(hparts.second y hy).2.1]
        omega
      · intro q hq hne
        rcases hparts.all q hq hne with ⟨x, hx, hc⟩ | ⟨y, hy, hc⟩
        · exact .inl ⟨x, by simp [hx], hc⟩
        · exact .inl ⟨y, by simp [hy], hc⟩

/-! ## An entry abandoned (R90) -/

/-- Two entries of a list in form that begin at one place are one. -/
theorem eq_of_spot {es : List Entry} (h : SpotsDistinct es) {e f : Entry} (he : e ∈ es) (hf : f ∈ es) (hs : e.spot = f.spot) : e = f :=
  eq_of_nodup_map h he hf hs

theorem ListForm.spots {tag : Seg} {records : List SlotRecord} {away : Spot → Prop} {es : List Entry}
    (h : ListForm tag records away es) : SpotsDistinct es :=
  spotsDistinct_of_ordered (fun e he => (h.slots e he).pos) h.order

/-- Two different entries of a list in form share no slot (R84). -/
theorem ListForm.disjoint {tag : Seg} {records : List SlotRecord} {away : Spot → Prop} {es : List Entry}
    (h : ListForm tag records away es) {e f : Entry} (he : e ∈ es) (hf : f ∈ es) (hne : f ≠ e) {p : Spot} (hp : e.covers p = true) :
    f.covers p = false := by
  obtain ⟨before, after, rfl⟩ := List.append_of_mem he
  obtain ⟨hb, ha⟩ := covers_unique h.order hp
  rcases List.mem_append.1 hf with hf | hf
  · exact hb f hf
  · rcases List.mem_cons.1 hf with rfl | hf
    · exact absurd rfl hne
    · exact ha f hf

/-- An abandoned entry leaves the list, and its slots are given up (R90). -/
theorem listForm_abandon {tag : Seg} {records : List SlotRecord} {es : List Entry} {e : Entry}
    (h : ListForm tag records nowhere es) (he : e ∈ es) :
    ListForm tag (records.map (retire e)) nowhere (es.filter fun x => x.spot != e.spot) := by
  have hkept : ∀ f ∈ es.filter (fun x => x.spot != e.spot), f ∈ es ∧ f ≠ e := by
    intro f hf
    obtain ⟨hf, hne⟩ := List.mem_filter.1 hf
    refine ⟨hf, ?_⟩
    rintro rfl
    simp at hne
  refine ⟨Nat.le_trans (List.length_filter_le _ _) h.length, fun f hf => ?_, h.order.filter _, ?_, fun q hq hm => ?_⟩
  · obtain ⟨hf, hne⟩ := hkept f hf
    refine ⟨(h.slots f hf).pos, (h.slots f hf).le, fun p hp => .inr ?_⟩
    refine held_retired (lost := some e) (((h.slots f hf).held p hp).resolve_left id) ?_
    rintro _ ⟨⟩
    refine Bool.eq_false_iff.2 fun hc => ?_
    have := h.disjoint he hf hne (p := p) hc
    rw [this] at hp; cases hp
  · refine Nat.le_trans (List.Sublist.length_le ?_) h.active
    exact List.filter_sublist.filter _
  · obtain ⟨hq, hql⟩ := missing_retired (lost := some e) hq hm
    obtain ⟨f, hf, hfc⟩ := h.covered q hq hm
    refine ⟨f, List.mem_filter.2 ⟨hf, ?_⟩, hfc⟩
    rw [bne_iff_ne]
    intro hs
    have := eq_of_spot h.spots hf he hs
    rw [this, hql e rfl] at hfc; cases hfc

/-- The holds-missing flag of an entry does not depend on slots that it does not cover (R87). -/
theorem coversMissing_retire {tag : Seg} {records : List SlotRecord} {es : List Entry} {e f : Entry}
    (h : ListForm tag records nowhere es) (he : e ∈ es) (hf : f ∈ es) (hne : f ≠ e) :
    CoversMissing (records.map (retire e)) f ↔ CoversMissing records f := by
  constructor
  · rintro ⟨q, hq, hm, hc⟩
    exact ⟨q, (missing_retired (lost := some e) hq hm).1, hm, hc⟩
  · rintro ⟨q, hq, hm, hc⟩
    have hec : e.covers ⟨q.addr, q.seg⟩ = false := by
      refine Bool.eq_false_iff.2 fun hx => ?_
      have := h.disjoint he hf hne (p := ⟨q.addr, q.seg⟩) hx
      rw [this] at hc; cases hc
    exact ⟨q, by rw [← retire_of_not_covers hec]; exact List.mem_map_of_mem hq, hm, hc⟩

end Sys2Proof.Proofs
end


section
/-!
PROOFS. A deck's ring and repair list together (R84 to R90): leaving slots, abandoned entries, new records, covered gaps and attempts.
-/

namespace Sys2Proof.Proofs

open Sys2Proof.Machine

variable {D : Deck → Prop}

/-! ## The parts of a repair list's form -/

/-- A deck's repair list in its form but for the holds-missing flags, with slots that are about to leave or to come (R84). -/
structure Loose (away : Spot → Prop) (u : DeckUnit) : Prop where
  list     : ListForm u.ring.tag u.ring.records away u.plan.entries
  attempts : ∀ e ∈ u.plan.entries, e.attempts < u.plan.limit
  gap      : u.intake.gapLimit ≤ 8

/-- The holds-missing flags are as the slots have it (R84, R87). -/
def Flagged (u : DeckUnit) : Prop := ∀ e ∈ u.plan.entries, e.missing = true ↔ CoversMissing u.ring.records e

theorem repairForm_iff_loose (u : DeckUnit) : RepairForm u ↔ Loose nowhere u ∧ Flagged u := by
  rw [repairForm_iff]
  constructor
  · rintro ⟨h1, h2, h3, h4⟩; exact ⟨⟨h1, h2, h4⟩, h3⟩
  · rintro ⟨⟨h1, h2, h4⟩, h3⟩; exact ⟨h1, h2, h3, h4⟩

/-- The slots of an entry. -/
def entrySlots (e : Entry) : Nat × Seg × Nat := (e.first, e.seg, e.count)

/-- A list's form is about the entries' slots, but for their one ACTIVE entry (R84). -/
theorem ListForm.congr {tag : Seg} {records : List SlotRecord} {away : Spot → Prop} {es fs : List Entry}
    (h : ListForm tag records away es) (heq : fs.map entrySlots = es.map entrySlots) (hact : OneActive fs) :
    ListForm tag records away fs := by
  have hto : ∀ f ∈ fs, ∃ e ∈ es, entrySlots e = entrySlots f := fun f hf => by
    have := List.mem_map_of_mem (f := entrySlots) hf
    rw [heq] at this; exact List.mem_map.1 this
  have hfrom : ∀ e ∈ es, ∃ f ∈ fs, entrySlots f = entrySlots e := fun e he => by
    have := List.mem_map_of_mem (f := entrySlots) he
    rw [← heq] at this; exact List.mem_map.1 this
  have hcov : ∀ {e f : Entry}, entrySlots e = entrySlots f → ∀ p, e.covers p = f.covers p := by
    intro e f hef p
    simp only [entrySlots, Prod.mk.injEq] at hef
    obtain ⟨h1, h2, h3⟩ := hef
    unfold Entry.covers; rw [h1, h2, h3]
  refine ⟨?_, fun f hf => ?_, ?_, hact, fun q hq hm => ?_⟩
  · have := congrArg List.length heq
    rw [List.length_map, List.length_map] at this
    rw [this]; exact h.length
  · obtain ⟨e, he, hef⟩ := hto f hf
    obtain ⟨hp, hl, hh⟩ := h.slots e he
    have hcount : e.count = f.count := congrArg (·.2.2) hef
    exact ⟨hcount ▸ hp, hcount ▸ hl, fun p hpc => hh p (by rw [hcov hef]; exact hpc)⟩
  · let P (a b : Nat × Seg × Nat) : Prop := if a.2.1 = b.2.1 then a.1 + a.2.2 ≤ b.1 else a.2.1 = tag
    have hP : ∀ l : List Entry, l.Pairwise (Before tag) ↔ (l.map entrySlots).Pairwise P := fun l => by
      rw [List.pairwise_map]; rfl
    rw [hP, heq, ← hP]; exact h.order
  · obtain ⟨e, he, hec⟩ := h.covered q hq hm
    obtain ⟨f, hf, hfe⟩ := hfrom e he
    exact ⟨f, hf, by rw [hcov hfe]; exact hec⟩

theorem syncMissing_slots (r : Ring) (es : List Entry) : (syncMissing r es).map entrySlots = es.map entrySlots := by
  unfold syncMissing; rw [List.map_map]; rfl

theorem syncMissing_active (r : Ring) (es : List Entry) (h : OneActive es) : OneActive (syncMissing r es) := by
  unfold OneActive syncMissing at *
  rw [List.filter_map, List.length_map]; exact h

/-- A deck with the flags of its list set again (R87). -/
def synced (u : DeckUnit) : DeckUnit := { u with plan := { u.plan with entries := syncMissing u.ring u.plan.entries } }

theorem flagged_synced (u : DeckUnit) : Flagged (synced u) := by
  intro e he
  obtain ⟨f, -, rfl⟩ := List.mem_map.1 he
  simp [CoversMissing, Entry.covers, synced]

theorem Loose.synced {away : Spot → Prop} {u : DeckUnit} (h : Loose away u) : Loose away (synced u) := by
  refine ⟨h.list.congr (syncMissing_slots _ _) (syncMissing_active _ _ h.list.active), fun e he => ?_, h.gap⟩
  obtain ⟨f, hf, rfl⟩ := List.mem_map.1 he
  exact h.attempts f hf

theorem repairForm_synced {u : DeckUnit} (h : Loose nowhere u) : RepairForm (synced u) :=
  (repairForm_iff_loose _).2 ⟨h.synced, flagged_synced u⟩

theorem refreshEntries_deck (d : Deck) (s : State) : (refreshEntries d s).deck d = synced (s.deck d) := by
  unfold refreshEntries; simp [synced]

/-! ## Slots given up (R87, R90) -/

/-- A deck with the slots of an entry given up, whatever its statistics. -/
def gaveUp (lost : Option Entry) (t : IntakeStats) (u : DeckUnit) : DeckUnit :=
  { u with ring := { u.ring with records := retired lost u.ring.records }, intake := { u.intake with stats := t } }

theorem retireSlots_deck (d : Deck) (e : Entry) (s : State) :
    ∃ t, (retireSlots d e s).deck d = gaveUp (some e) t (s.deck d) := by
  unfold retireSlots; simp [gaveUp, retired]

@[simp] theorem retired_length (lost : Option Entry) (records : List SlotRecord) : (retired lost records).length = records.length := by
  cases lost <;> simp [retired]

theorem ringForm_retired {r : Ring} (lost : Option Entry) (h : RingForm r) :
    RingForm { r with records := retired lost r.records } := by
  cases lost with
  | none => exact h
  | some e => exact ringForm_map (retire e) (retire_addr e) (retire_seg e) h

theorem framed_retireSlots {d : Deck} (hD : D d) (e : Entry) (s : State) : Framed D s (retireSlots d e s) := by
  unfold retireSlots
  refine Framed.trans ?_ (kept_reportGoodDepth d _).toFramed
  refine Framed.trans ?_ (Kept.intakeStats _ hD _).toFramed
  exact .ring s hD (fun r => { r with records := r.records.map (retire e) }) rfl (by unfold Roomy; simp)

theorem framed_refreshEntries {d : Deck} (hD : D d) (s : State) : Framed D s (refreshEntries d s) :=
  .plan s hD (fun p => { p with entries := syncMissing (s.deck d).ring p.entries }) rfl

/-! ## A slot leaves the list (R87 to R89) -/

/-- A deck whose list a slot has left, with the lost part of a split given up. -/
def leftBy (p : Spot) (t : IntakeStats) (u : DeckUnit) : DeckUnit :=
  synced (gaveUp (leaveList p u.plan.entries).2 t { u with plan := { u.plan with entries := (leaveList p u.plan.entries).1 } })

theorem leaveEntry_deck (d : Deck) (p : Spot) (s : State) : ∃ t, (leaveEntry d p s).deck d = leftBy p t (s.deck d) := by
  unfold leaveEntry leftBy
  dsimp only
  simp only [refreshEntries_deck]
  cases (leaveList p (s.deck d).plan.entries).2 with
  | none => exact ⟨(s.deck d).intake.stats, by simp [gaveUp, retired]⟩
  | some e =>
    obtain ⟨t, ht⟩ := retireSlots_deck d e (onPlan d (fun q => { q with entries := (leaveList p (s.deck d).plan.entries).1 }) s)
    exact ⟨t, by dsimp only; rw [ht]; simp⟩

theorem framed_leaveEntry {d : Deck} (hD : D d) (p : Spot) (s : State) : Framed D s (leaveEntry d p s) := by
  unfold leaveEntry
  dsimp only
  refine Framed.trans ?_ (framed_refreshEntries hD _)
  have h : Framed D s (onPlan d (fun q => { q with entries := (leaveList p (s.deck d).plan.entries).1 }) s) :=
    .plan s hD (fun q => { q with entries := (leaveList p (s.deck d).plan.entries).1 }) rfl
  split
  · exact h.trans (framed_retireSlots hD _ _)
  · exact h

theorem loose_left {away : Spot → Prop} {u : DeckUnit} {p : Spot} (t : IntakeStats) (h : Loose (fun q => q = p ∨ away q) u)
    (hmissing : ∀ q ∈ u.ring.records, q.addr = p.addr → q.seg = p.seg → q.state ≠ .missing) : Loose away (leftBy p t u) := by
  obtain ⟨hlist, hattempts⟩ := listForm_leaveList h.list hmissing
  refine Loose.synced ⟨hlist, fun x hx => ?_, h.gap⟩
  obtain ⟨e, he, hxe⟩ := hattempts x hx
  rw [hxe]; exact h.attempts e he

theorem repairForm_left {u : DeckUnit} {p : Spot} (t : IntakeStats) (h : Loose (fun q => q = p ∨ nowhere q) u)
    (hmissing : ∀ q ∈ u.ring.records, q.addr = p.addr → q.seg = p.seg → q.state ≠ .missing) : RepairForm (leftBy p t u) :=
  (repairForm_iff_loose _).2 ⟨loose_left t h hmissing, flagged_synced _⟩

theorem ringForm_left {u : DeckUnit} (p : Spot) (t : IntakeStats) (h : RingForm u.ring) : RingForm (leftBy p t u).ring :=
  ringForm_retired _ h

/-! ## Entries abandoned (R90) -/

/-- A list in form but for attempts, which some of the entries of `es` may have used up. -/
structure Counted (es : List Entry) (u : DeckUnit) : Prop where
  list     : ListForm u.ring.tag u.ring.records nowhere u.plan.entries
  attempts : ∀ e ∈ u.plan.entries, e.attempts < u.plan.limit ∨ e ∈ es
  flags    : Flagged u
  gap      : u.intake.gapLimit ≤ 8
  members  : ∀ e ∈ es, e ∈ u.plan.entries
  nodup    : es.Nodup

/-- A deck from which an entry has been abandoned. -/
def withoutEntry (e : Entry) (t : IntakeStats) (k : PlannerStats) (u : DeckUnit) : DeckUnit :=
  gaveUp (some e) t { u with plan := { u.plan with entries := u.plan.entries.filter (fun x => x.spot != e.spot), stats := k } }

theorem abandonEntry_deck (d : Deck) (e : Entry) (s : State) :
    ∃ t k, (abandonEntry d e s).deck d = withoutEntry e t k (s.deck d) := by
  unfold abandonEntry
  obtain ⟨t, ht⟩ := retireSlots_deck d e (onPlan d (fun p => { p with entries := p.entries.filter (fun x => x.spot != e.spot) }) s)
  exact ⟨t, _, by simp only [raiseNotice_deck, onPlanStats_same, ht]; simp [withoutEntry, gaveUp]; rfl⟩

theorem framed_abandonEntry {d : Deck} (hD : D d) (e : Entry) (s : State) : Framed D s (abandonEntry d e s) := by
  unfold abandonEntry
  refine Framed.trans ?_ (Kept.notice _ (.deck d) (.repairAbandoned e.first e.count) rfl).toFramed
  refine Framed.trans (.trans ?_ (framed_retireSlots hD e _)) (Framed.plan _ hD _ rfl)
  exact .plan s hD (fun p => { p with entries := p.entries.filter (fun x => x.spot != e.spot) }) rfl

theorem framed_abandonAll {d : Deck} (hD : D d) (es : List Entry) (s : State) : Framed D s (abandonAll d es s) := by
  induction es generalizing s with
  | nil => exact .refl s
  | cons e rest ih => exact (framed_abandonEntry hD e s).trans (ih _)

theorem counted_withoutEntry {e : Entry} {rest : List Entry} {u : DeckUnit} (t : IntakeStats) (k : PlannerStats)
    (h : Counted (e :: rest) u) : Counted rest (withoutEntry e t k u) := by
  have he := h.members e List.mem_cons_self
  obtain ⟨hne, hrest⟩ := List.nodup_cons.1 h.nodup
  have hmem : ∀ x, x ∈ u.plan.entries.filter (fun x => x.spot != e.spot) → x ∈ u.plan.entries ∧ x ≠ e := by
    intro x hx
    obtain ⟨hx, hs⟩ := List.mem_filter.1 hx
    refine ⟨hx, ?_⟩
    rintro rfl
    simp at hs
  refine ⟨listForm_abandon h.list he, fun x hx => ?_, fun x hx => ?_, h.gap, fun x hx => ?_, hrest⟩
  · obtain ⟨hx, hxe⟩ := hmem x hx
    rcases h.attempts x hx with hlt | hin
    · exact .inl hlt
    · exact .inr ((List.mem_cons.1 hin).resolve_left hxe)
  · obtain ⟨hx, hxe⟩ := hmem x hx
    exact (h.flags x hx).trans (coversMissing_retire h.list he hx hxe).symm
  · refine List.mem_filter.2 ⟨h.members x (List.mem_cons_of_mem _ hx), ?_⟩
    rw [bne_iff_ne]
    intro hs
    have := eq_of_spot h.list.spots (h.members x (List.mem_cons_of_mem _ hx)) he hs
    exact hne (this ▸ hx)

theorem repairForm_of_counted {u : DeckUnit} (h : Counted [] u) : RepairForm u :=
  (repairForm_iff_loose u).2 ⟨⟨h.list, fun e he => (h.attempts e he).resolve_right (by simp), h.gap⟩, h.flags⟩

/-- Abandoning every entry that has used up its attempts leaves a list in its form (R90). -/
theorem abandonAll_form (d : Deck) (es : List Entry) (s : State) (h : Counted es (s.deck d)) (hr : RingForm (s.deck d).ring) :
    RepairForm ((abandonAll d es s).deck d) ∧ RingForm ((abandonAll d es s).deck d).ring := by
  induction es generalizing s with
  | nil => exact ⟨repairForm_of_counted h, hr⟩
  | cons e rest ih =>
    obtain ⟨t, k, he⟩ := abandonEntry_deck d e s
    exact ih (abandonEntry d e s) (he ▸ counted_withoutEntry t k h) (he ▸ ringForm_retired _ hr)

theorem abandonAll_ring (d : Deck) (es : List Entry) (s : State) (hr : RingForm (s.deck d).ring) :
    RingForm ((abandonAll d es s).deck d).ring := by
  induction es generalizing s with
  | nil => exact hr
  | cons e rest ih =>
    obtain ⟨t, k, he⟩ := abandonEntry_deck d e s
    exact ih (abandonEntry d e s) (he ▸ ringForm_retired _ hr)

/-- A list in form but for attempts. -/
structure Tallied (u : DeckUnit) : Prop where
  list  : ListForm u.ring.tag u.ring.records nowhere u.plan.entries
  flags : Flagged u
  gap   : u.intake.gapLimit ≤ 8

theorem tallied_of_repairForm {u : DeckUnit} (h : RepairForm u) : Tallied u := by
  obtain ⟨⟨h1, -, h3⟩, h2⟩ := (repairForm_iff_loose u).1 h
  exact ⟨h1, h2, h3⟩

theorem abandonReached_form (d : Deck) (s : State) (h : Tallied (s.deck d)) (hr : RingForm (s.deck d).ring) :
    RepairForm ((abandonReached d s).deck d) := by
  refine (abandonAll_form d _ s ⟨h.list, fun e he => ?_, h.flags, h.gap, fun e he => (List.mem_filter.1 he).1, ?_⟩ hr).1
  · by_cases hlt : e.attempts < (s.deck d).plan.limit
    · exact .inl hlt
    · exact .inr (List.mem_filter.2 ⟨he, by simpa using hlt⟩)
  · exact (List.Pairwise.of_map _ (fun _ _ hne heq => hne (congrArg _ heq)) h.list.spots).filter _

theorem framed_abandonReached {d : Deck} (hD : D d) (s : State) : Framed D s (abandonReached d s) := framed_abandonAll hD _ s

/-- One deck alone. -/
def Only (d e : Deck) : Prop := e = d

theorem Only.self (d : Deck) : Only d d := rfl

/-- A walk of one deck that is framed and keeps its deck's forms. -/
theorem Kept.ofDeck {d : Deck} {s t : State} (h : Framed (Only d) s t) {D : Deck → Prop} (hD : D d)
    (hr : RingKept (s.deck d) (t.deck d)) : Kept D s t where
  toFramed :=
    { part := h.part, port := h.port, queue := h.queue, tray := h.tray, table := h.table, zone := h.zone, deck := h.deck
      other := fun e he => h.other e (fun hed => he (hed ▸ hD)) }
  rings e := by
    by_cases he : e = d
    · exact he ▸ hr
    · rw [h.other e he]; exact .refl _

theorem counted_slots (es : List Entry) : (es.map Entry.counted).map entrySlots = es.map entrySlots := by
  rw [List.map_map]
  refine List.map_congr_left fun e _ => ?_
  simp only [Function.comp_apply, Entry.counted]
  split <;> rfl

theorem counted_active (es : List Entry) (h : OneActive es) : OneActive (es.map Entry.counted) := by
  unfold OneActive at *
  refine Nat.le_trans ?_ h
  rw [List.filter_map, List.length_map, ← List.countP_eq_length_filter, ← List.countP_eq_length_filter]
  refine List.countP_mono_left fun e _ he => ?_
  simp only [Function.comp_apply, Entry.counted] at he
  split at he
  · simp at he
  · exact he

/-- The end of a REPAIR run (R90). -/
theorem kept_countAttempts {d : Deck} (hD : D d) (s : State) : Kept D s (countAttempts d s) := by
  have hfr : Framed (Only d) s (onPlan d (fun p => { p with entries := p.entries.map Entry.counted }) s) :=
    Framed.plan s (.self d) (fun p => { p with entries := p.entries.map Entry.counted }) rfl
  refine .ofDeck (hfr.trans (framed_abandonReached (.self d) _)) hD ⟨fun hr => ?_, fun hr hp => ?_⟩
  · exact abandonAll_ring d _ _ (by simpa using hr)
  · obtain ⟨hl, hf, hg⟩ := tallied_of_repairForm hp
    refine abandonReached_form d _ ?_ (by simpa using hr)
    rw [onPlan_same]
    refine ⟨hl.congr (counted_slots _) (counted_active _ hl.active), fun e he => ?_, hg⟩
    obtain ⟨f, hf', rfl⟩ := List.mem_map.1 he
    have := hf f hf'
    unfold Entry.counted
    split <;> exact this

/-! ## A slot that leaves the ring, and truncation (R69, R73, R88, R89) -/

theorem leaveEntry_ringKept (d : Deck) (p : Spot) (s : State) (h : RingForm (s.deck d).ring) :
    RingForm ((leaveEntry d p s).deck d).ring := by
  obtain ⟨t, ht⟩ := leaveEntry_deck d p s
  rw [ht]; exact ringForm_left p t h

theorem framed_dropSlots {d : Deck} (hD : D d) (gone : List SlotRecord) (s : State) : Framed D s (dropSlots d gone s) := by
  induction gone generalizing s with
  | nil => exact .refl s
  | cons q rest ih => exact (framed_leaveEntry hD _ s).trans (ih _)

theorem dropSlots_ring (d : Deck) (gone : List SlotRecord) (s : State) (h : RingForm (s.deck d).ring) :
    RingForm ((dropSlots d gone s).deck d).ring := by
  induction gone generalizing s with
  | nil => exact h
  | cons q rest ih => exact ih _ (leaveEntry_ringKept d _ s h)

/-- The places of records. -/
def placesOf (gone : List SlotRecord) (p : Spot) : Prop := ∃ q ∈ gone, p = ⟨q.addr, q.seg⟩

theorem mem_retired_seg {lost : Option Entry} {records : List SlotRecord} {q : SlotRecord} (h : q ∈ retired lost records) :
    ∃ p ∈ records, q.addr = p.addr ∧ q.seg = p.seg := by
  cases lost with
  | none => exact ⟨q, h, rfl, rfl⟩
  | some e =>
    obtain ⟨p, hp, rfl⟩ := List.mem_map.1 h
    exact ⟨p, hp, retire_addr e p, retire_seg e p⟩

theorem loose_mono {away away' : Spot → Prop} {u : DeckUnit} (h : Loose away u) (hsub : ∀ p, away p → away' p) : Loose away' u :=
  ⟨⟨h.list.length, fun e he => ⟨(h.list.slots e he).pos, (h.list.slots e he).le, fun p hp =>
    ((h.list.slots e he).held p hp).imp_left (hsub p)⟩, h.list.order, h.list.active, h.list.covered⟩, h.attempts, h.gap⟩

/-- The truncated slots leave the list one by one (R89). -/
theorem loose_dropSlots (d : Deck) (gone : List SlotRecord) (s : State) (h : Loose (placesOf gone) (s.deck d))
    (hf : gone = [] → Flagged (s.deck d))
    (hseg : ∀ q ∈ (s.deck d).ring.records, ∀ g ∈ gone, q.seg ≠ g.seg) : RepairForm ((dropSlots d gone s).deck d) := by
  induction gone generalizing s with
  | nil =>
    refine (repairForm_iff_loose _).2 ⟨loose_mono h ?_, hf rfl⟩
    rintro p ⟨q, hq, -⟩; cases hq
  | cons g rest ih =>
    obtain ⟨t, ht⟩ := leaveEntry_deck d ⟨g.addr, g.seg⟩ s
    have hloose : Loose (placesOf rest) ((leaveEntry d ⟨g.addr, g.seg⟩ s).deck d) := by
      rw [ht]
      refine loose_left t (loose_mono h ?_) fun q hq _ hs => absurd hs (hseg q hq g List.mem_cons_self)
      rintro p ⟨q, hq, rfl⟩
      rcases List.mem_cons.1 hq with rfl | hq
      · exact .inl rfl
      · exact .inr ⟨q, hq, rfl⟩
    refine ih (leaveEntry d ⟨g.addr, g.seg⟩ s) hloose (fun _ => ht ▸ flagged_synced _) fun q hq x hx => ?_
    rw [ht] at hq
    obtain ⟨p, hp, -, hps⟩ := mem_retired_seg (lost := (leaveList ⟨g.addr, g.seg⟩ (s.deck d).plan.entries).2) hq
    rw [hps]; exact hseg p hp x (List.mem_cons_of_mem _ hx)

/-- The ring of a deck without its cue segment (R73). -/
def truncated (r : Ring) : Ring :=
  { r with records := r.records.filter (fun q => q.seg == r.tag), truncations := bump 1 r.truncations }

/-- A ring without its cue segment keeps its form while it still fetches that segment nowhere but at its start (R73). -/
theorem truncated_segment (r : Ring) (g : Seg) :
    Ring.segment (truncated r) g = if g = r.tag then r.segment r.tag else [] := by
  obtain ⟨h1, h2⟩ := segment_truncated r
  by_cases hg : g = r.tag
  · rw [if_pos hg, hg]; exact h1
  · have : g = !r.tag := by cases g <;> cases ht : r.tag <;> simp_all
    rw [if_neg hg, this]; exact h2

end Sys2Proof.Proofs
end


section
/-!
PROOFS. The repair list over its ring, continued: truncation and takes (R69, R73), additions and new records (R67, R85), covered gaps
(R86), and merges (R56, R57).
-/

namespace Sys2Proof.Proofs

open Sys2Proof.Machine

variable {D : Deck → Prop}

/-! ## Forms that look at the records alone -/

/-- A repair list's form looks at the ring's tag and records alone. -/
theorem repairForm_of_records {u v : DeckUnit} (htag : v.ring.tag = u.ring.tag) (hrec : v.ring.records = u.ring.records)
    (hplan : v.plan.entries = u.plan.entries) (hlimit : v.plan.limit = u.plan.limit) (hgap : v.intake.gapLimit = u.intake.gapLimit)
    (h : RepairForm u) : RepairForm v := by
  rw [repairForm_iff] at h ⊢
  rw [htag, hrec, hplan, hlimit, hgap]; exact h

/-- Every record is of the current segment. -/
def AllCurrent (r : Ring) : Prop := ∀ q ∈ r.records, q.seg = r.tag

theorem segment_of_allCurrent {r : Ring} (h : AllCurrent r) : r.segment r.tag = r.records ∧ r.segment (!r.tag) = [] := by
  refine ⟨List.filter_eq_self.2 fun q hq => by simp [h q hq], List.filter_eq_nil_iff.2 fun q hq => ?_⟩
  rw [h q hq]; cases r.tag <;> simp

/-! ## Truncation (R73) -/

theorem allCurrent_truncated (r : Ring) : AllCurrent (truncated r) := by
  intro q hq
  have : q.seg = r.tag := by simpa using (List.mem_filter.1 hq).2
  exact this

/-- A ring without its cue segment keeps its form (R73). -/
theorem ringForm_truncated {r : Ring} (h : RingForm r) : RingForm (truncated r) := by
  obtain ⟨hcur, hnone⟩ := segment_of_allCurrent (allCurrent_truncated r)
  have hcur' : Ring.segment (truncated r) r.tag = r.segment r.tag := by rw [truncated_segment, if_pos rfl]
  have htag : (truncated r).tag = r.tag := rfl
  obtain ⟨-, h1, -, -, hphase⟩ := h
  refine ⟨by rw [hcur, hnone, List.append_nil], by rw [htag, hcur']; exact h1, by rw [hnone]; trivial, fun hne => absurd hnone hne, ?_⟩
  have hph : (truncated r).phase = r.phase := rfl
  rw [hph]
  cases hp : r.phase <;> rw [hp] at hphase
  · refine ⟨?_, hphase.2⟩
    simp [truncated, hphase.1]
  · refine ⟨hnone, hphase.2.1, ?_⟩
    rw [htag, hcur']; exact hphase.2.2
  · refine ⟨hphase.1, hphase.2.1, ?_⟩
    obtain ⟨-, -, f, hf, -⟩ := hphase
    refine ⟨f, hf, fun q hq => ?_⟩
    rw [hnone] at hq; cases hq
  · exact hphase

theorem mem_cueRecords {r : Ring} {q : SlotRecord} : q ∈ r.cueRecords ↔ q ∈ r.records ∧ q.seg ≠ r.tag := by
  simp [Ring.cueRecords]

theorem loose_truncated {u : DeckUnit} (h : RepairForm u) :
    Loose (placesOf u.ring.cueRecords.reverse) { u with ring := truncated u.ring } := by
  obtain ⟨⟨hl, ha, hg⟩, -⟩ := (repairForm_iff_loose u).1 h
  refine ⟨⟨hl.length, fun e he => ⟨(hl.slots e he).pos, (hl.slots e he).le, fun p hp => ?_⟩, hl.order, hl.active, fun q hq hm => ?_⟩,
    ha, hg⟩
  · obtain ⟨q, hq, hqa, hqs, hst⟩ := ((hl.slots e he).held p hp).resolve_left id
    by_cases hs : q.seg = u.ring.tag
    · exact .inr ⟨q, List.mem_filter.2 ⟨hq, by simp [hs]⟩, hqa, hqs, hst⟩
    · exact .inl ⟨q, List.mem_reverse.2 (mem_cueRecords.2 ⟨hq, hs⟩), by cases p; simp_all⟩
  · exact hl.covered q (List.mem_filter.1 hq).1 hm

/-- The ring of a deck as `truncateCue` cuts it. -/
theorem truncateCue_eq (d : Deck) (s : State) :
    truncateCue d s = if (s.deck d).ring.cueRecords.isEmpty = true then s
      else onLow d (reportGoodDepth d (dropSlots d (s.deck d).ring.cueRecords.reverse (onRing d truncated s))) := rfl

theorem dropSlots_tag_segs (d : Deck) (gone : List SlotRecord) (s : State) :
    ((dropSlots d gone s).deck d).ring.tag = (s.deck d).ring.tag ∧
      ∀ q ∈ ((dropSlots d gone s).deck d).ring.records, ∃ p ∈ (s.deck d).ring.records, q.addr = p.addr ∧ q.seg = p.seg := by
  induction gone generalizing s with
  | nil => exact ⟨rfl, fun q hq => ⟨q, hq, rfl, rfl⟩⟩
  | cons g rest ih =>
    obtain ⟨t, ht⟩ := leaveEntry_deck d ⟨g.addr, g.seg⟩ s
    obtain ⟨h1, h2⟩ := ih (leaveEntry d ⟨g.addr, g.seg⟩ s)
    rw [ht] at h1 h2
    refine ⟨h1, fun q hq => ?_⟩
    obtain ⟨p, hp, ha, hs⟩ := h2 q hq
    obtain ⟨o, ho, hpa, hps⟩ := mem_retired_seg (lost := (leaveList ⟨g.addr, g.seg⟩ (s.deck d).plan.entries).2) hp
    exact ⟨o, ho, ha.trans hpa, hs.trans hps⟩

theorem kept_truncateCue {d : Deck} (hD : D d) (s : State) :
    Kept D s (truncateCue d s) ∧ AllCurrent ((truncateCue d s).deck d).ring := by
  rw [truncateCue_eq]
  split
  · next he =>
    refine ⟨.refl s, fun q hq => ?_⟩
    refine Decidable.byContradiction fun hs => ?_
    have : q ∈ (s.deck d).ring.cueRecords := mem_cueRecords.2 ⟨hq, hs⟩
    rw [List.isEmpty_iff.1 he] at this; cases this
  · next hne =>
    have hcut : Framed (Only d) s (onRing d truncated s) :=
      Framed.ring s (.self d) truncated rfl
        (fun h => Nat.le_trans (List.length_filter_le _ _) h)
    have hdrop := hcut.trans (framed_dropSlots (.self d) (s.deck d).ring.cueRecords.reverse (onRing d truncated s))
    have hdeck : (onRing d truncated s).deck d = { s.deck d with ring := truncated (s.deck d).ring } := by simp
    have hkept : Kept D s (dropSlots d (s.deck d).ring.cueRecords.reverse (onRing d truncated s)) := by
      refine .ofDeck hdrop hD ⟨fun hr => ?_, fun hr hp => ?_⟩
      · exact dropSlots_ring d _ _ (by rw [hdeck]; exact ringForm_truncated hr)
      · refine loose_dropSlots d _ _ (by rw [hdeck]; exact loose_truncated hp) (fun hnil => absurd ?_ hne) ?_
        · rw [List.reverse_eq_nil_iff.1 hnil]; rfl
        · intro q hq g hg
          rw [hdeck] at hq
          rw [allCurrent_truncated _ q hq]
          exact fun hs => (mem_cueRecords.1 (List.mem_reverse.1 hg)).2 hs.symm
    have hlow := planned_onLow d (reportGoodDepth d (dropSlots d (s.deck d).ring.cueRecords.reverse (onRing d truncated s)))
    refine ⟨(hkept.trans (kept_reportGoodDepth d _)).trans (hlow.kept hD), ?_⟩
    have hshape := congrArg (fun u => ringShape u.ring) hlow.fixed
    simp only [ringShape, deckFixed, Prod.mk.injEq, reportGoodDepth_deck] at hshape
    intro q hq
    rw [hshape.1] at hq
    obtain ⟨ht, hq'⟩ := dropSlots_tag_segs d (s.deck d).ring.cueRecords.reverse (onRing d truncated s)
    obtain ⟨p, hp, -, hs⟩ := hq' q hq
    rw [hshape.2.1, ht, hs]
    rw [hdeck] at hp ⊢
    exact allCurrent_truncated _ p hp

/-- A ring of the current segment alone, told of a cue (R73, R100). -/
theorem ringForm_cued {r : Ring} (h : RingForm r) (hall : AllCurrent r) (c : Option PlayRange) (hp : r.phase = .idle ∨ r.phase = .current) :
    RingForm { r with cueCopy := c } := by
  obtain ⟨hcur, hnone⟩ := segment_of_allCurrent hall
  obtain ⟨h0, h1, h2, -, hphase⟩ := h
  refine ⟨h0, h1, h2, fun hne => absurd hnone hne, ?_⟩
  dsimp only
  rcases hp with hp | hp <;> rw [hp] at hphase ⊢ <;> exact hphase

/-- A ring of the current segment alone that begins a cue segment, or none (R73, R100). -/
theorem ringForm_toCue {r : Ring} (h : RingForm r) (hall : AllCurrent r) (c : PlayRange) :
    RingForm { r with cueCopy := some c, phase := .cue, fetchAddr := some c.first, fetchEnd := some c.last } := by
  obtain ⟨hcur, hnone⟩ := segment_of_allCurrent hall
  obtain ⟨h0, h1, h2, -, -⟩ := h
  refine ⟨h0, h1, h2, fun hne => absurd hnone hne, by simp, ⟨_, rfl⟩, _, rfl, fun q hq => ?_⟩
  have : q ∈ r.segment (!r.tag) := List.mem_of_getLast? hq
  rw [hnone] at this; cases this

theorem ringForm_toDone {r : Ring} (h : RingForm r) (hall : AllCurrent r) :
    RingForm { r with cueCopy := none, phase := .done, fetchAddr := none, fetchEnd := none } := by
  obtain ⟨hcur, hnone⟩ := segment_of_allCurrent hall
  obtain ⟨h0, h1, h2, -, -⟩ := h
  exact ⟨h0, h1, h2, fun hne => absurd hnone hne, rfl, rfl⟩

/-- A ring changed but for its tag and records, with its form kept. -/
theorem Kept.ringFetch {d : Deck} (hD : D d) (s : State) (f : Ring → Ring) (hs : ringSize (f (s.deck d).ring) = ringSize (s.deck d).ring)
    (htag : (f (s.deck d).ring).tag = (s.deck d).ring.tag) (hrec : (f (s.deck d).ring).records = (s.deck d).ring.records)
    (hform : RingForm (s.deck d).ring → RingForm (f (s.deck d).ring)) : Kept D s (onRing d f s) := by
  refine .ofDeck (Framed.ring s (.self d) f hs ?_) hD ?_
  · have hcap : (f (s.deck d).ring).cap = (s.deck d).ring.cap := congrArg (·.1) hs
    unfold Roomy; rw [hrec, hcap]; exact id
  · rw [onRing_same]
    exact ⟨hform, fun _ => repairForm_of_records htag hrec rfl rfl rfl⟩

theorem onRing_onRing (d : Deck) (f g : Ring → Ring) (s : State) : onRing d f (onRing d g s) = onRing d (fun r => f (g r)) s := by
  cases d <;> rfl

/-- A zone's CUE, told to its ring (R73, R100, R123). -/
theorem kept_cueRing {d : Deck} (hD : D d) (c : Option PlayRange) (s : State) : Kept D s (cueRing d c s) := by
  obtain ⟨hcut, hall⟩ := kept_truncateCue hD s
  unfold cueRing
  dsimp only
  generalize truncateCue d s = t at hcut hall
  refine hcut.trans ?_
  have htold : ∀ w, Kept D w (onTargetMoved d w) := fun w => (planned_onTargetMoved d w).kept hD
  cases hp : (t.deck d).ring.phase with
  | idle => exact .ringFetch hD t _ rfl rfl rfl fun h => ringForm_cued h hall c (.inl hp)
  | current => exact .ringFetch hD t _ rfl rfl rfl fun h => ringForm_cued h hall c (.inr hp)
  | cue =>
    cases c with
    | some c =>
      dsimp only
      rw [onRing_onRing]
      exact (Kept.ringFetch hD t _ rfl rfl rfl fun h => ringForm_toCue h hall c).trans (htold _)
    | none =>
      dsimp only
      rw [onRing_onRing]
      exact (Kept.ringFetch hD t _ rfl rfl rfl fun h => ringForm_toDone h hall).trans (htold _)
  | done =>
    cases c with
    | some c =>
      dsimp only
      rw [onRing_onRing]
      exact (Kept.ringFetch hD t _ rfl rfl rfl fun h => ringForm_toCue h hall c).trans (htold _)
    | none =>
      refine (Kept.ringFetch hD t _ rfl rfl rfl fun h => ?_).trans (htold _)
      have := ringForm_toDone h hall
      obtain ⟨-, -, -, -, hphase⟩ := h
      rw [hp] at hphase
      obtain ⟨h0, h1, h2, h3, -⟩ := this
      refine ⟨h0, h1, h2, h3, ?_⟩
      dsimp only
      rw [hp]; exact hphase

/-! ## Flush (R79) -/

theorem ringForm_flushed (r : Ring) : RingForm r.flushed := ⟨rfl, trivial, trivial, fun h => absurd rfl h, rfl, rfl, rfl⟩

end Sys2Proof.Proofs
end


section
/-!
PROOFS. A deck's ring and repair list under takes (R69, R88), additions and new records (R67, R85), covered gaps (R86), and merges
(R56, R57).
-/

namespace Sys2Proof.Proofs

open Sys2Proof.Machine

variable {D : Deck → Prop}

/-! ## A take (R69, R88) -/

theorem taken_records (r : Ring) (q : SlotRecord) : (r.taken q).records = r.records.tail := by
  unfold Ring.taken; dsimp only; split <;> rfl
theorem taken_tag (r : Ring) (q : SlotRecord) : (r.taken q).tag = q.seg := by
  unfold Ring.taken; dsimp only; split
  · next h => exact h.symm
  · rfl
theorem taken_size (r : Ring) (q : SlotRecord) : ringSize (r.taken q) = ringSize r := by
  unfold Ring.taken; dsimp only; split <;> rfl

/-- No record behind the play edge stands at the edge's place (R65). -/
theorem ringForm_edge_alone {r : Ring} (h : RingForm r) {q : SlotRecord} {rest : List SlotRecord} (hr : r.records = q :: rest)
    {p : SlotRecord} (hp : p ∈ rest) : ¬ (p.addr = q.addr ∧ p.seg = q.seg) := by
  rintro ⟨ha, hs⟩
  have hord := ascendByOne_pairwise _ (ringForm_ascends h q.seg)
  unfold Ring.segment at hord
  rw [hr, segment_cons, if_pos rfl] at hord
  have := (List.pairwise_cons.1 hord).1 p (List.mem_filter.2 ⟨hp, by simp [hs]⟩)
  omega

/-- Every entry of a list in form has a slot in the ring, of its own segment (R84). -/
theorem ListForm.seg_held {tag : Seg} {records : List SlotRecord} {es : List Entry} (h : ListForm tag records nowhere es)
    {e : Entry} (he : e ∈ es) : ∃ q ∈ records, q.seg = e.seg := by
  have hpos := (h.slots e he).pos
  obtain ⟨q, hq, -, hs, -⟩ := ((h.slots e he).held ⟨e.first, e.seg⟩
    ((covers_iff _ _).2 ⟨rfl, Nat.le_refl _, by dsimp only; omega⟩)).resolve_left id
  exact ⟨q, hq, hs⟩

/-- A take leaves the list's form over the ring's rest, but for the slot taken (R88). -/
theorem loose_taken {u : DeckUnit} {q : SlotRecord} {rest : List SlotRecord} (hr : u.ring.records = q :: rest)
    (hring : RingForm u.ring) (h : Loose nowhere u) :
    Loose (fun p => p = ⟨q.addr, q.seg⟩ ∨ nowhere p) { u with ring := u.ring.taken q } := by
  obtain ⟨hl, ha, hg⟩ := h
  have hrec : (u.ring.taken q).records = rest := by rw [taken_records, hr]; rfl
  refine ⟨⟨hl.length, fun e he => ⟨(hl.slots e he).pos, (hl.slots e he).le, fun p hp => ?_⟩, ?_, hl.active, fun x hx hm => ?_⟩, ha, hg⟩
  · obtain ⟨x, hx, hxa, hxs, hst⟩ := ((hl.slots e he).held p hp).resolve_left id
    rw [hr] at hx
    rcases List.mem_cons.1 hx with rfl | hx
    · exact .inl (.inl (by rw [hxa, hxs]))
    · exact .inr ⟨x, by dsimp only; rw [hrec]; exact hx, hxa, hxs, hst⟩
  · dsimp only
    rw [taken_tag]
    by_cases hs : q.seg = u.ring.tag
    · rw [hs]; exact hl.order
    · have hall := ringForm_all_cue hring hr hs
      have hseg : ∀ e ∈ u.plan.entries, e.seg = !u.ring.tag := fun e he => by
        obtain ⟨x, hx, hxs⟩ := hl.seg_held he
        rw [← hxs]; exact hall x hx
      refine hl.order.imp_of_mem fun {e f} he hf hef => ?_
      unfold Before at hef ⊢
      rw [if_pos ((hseg e he).trans (hseg f hf).symm)] at hef ⊢
      exact hef
  · dsimp only at hx
    rw [hrec] at hx
    exact hl.covered x (hr ▸ List.mem_cons_of_mem _ hx) hm

/-- The planner told of a take (R69, R88, R97). -/
theorem kept_plannerTaken {d : Deck} (hD : D d) (s : State) {q : SlotRecord} {rest : List SlotRecord}
    (hr : (s.deck d).ring.records = q :: rest) (before : DeckUnit) :
    Kept D s (plannerTaken d ⟨q.addr, q.seg⟩ before (onRing d (fun r => r.taken q) s)) := by
  have hcut : Framed (Only d) s (onRing d (fun r => r.taken q) s) := by
    refine Framed.ring s (.self d) (fun r => r.taken q) (taken_size _ _) fun h => ?_
    have hcap : ((s.deck d).ring.taken q).cap = (s.deck d).ring.cap := congrArg (·.1) (taken_size _ _)
    unfold Roomy at h ⊢
    rw [taken_records, hcap, List.length_tail]; omega
  have hdeck : (onRing d (fun r => r.taken q) s).deck d = { s.deck d with ring := (s.deck d).ring.taken q } := by simp
  unfold plannerTaken
  dsimp only
  generalize hs₁ : (if ((onRing d (fun r => r.taken q) s).deck d).plan.entries.any (·.covers ⟨q.addr, q.seg⟩) = true then
    leaveEntry d ⟨q.addr, q.seg⟩ (onPlanStats d (fun t => { t with overtaken := bump 1 t.overtaken }) (onRing d (fun r => r.taken q) s))
    else onRing d (fun r => r.taken q) s) = s₁
  have h₁ : Kept D s s₁ := by
    subst hs₁
    split
    · next hany =>
      have hstat : Framed (Only d) (onRing d (fun r => r.taken q) s)
          (onPlanStats d (fun t => { t with overtaken := bump 1 t.overtaken }) (onRing d (fun r => r.taken q) s)) :=
        Framed.plan _ (.self d) _ rfl
      refine .ofDeck ((hcut.trans hstat).trans (framed_leaveEntry (.self d) _ _)) hD ⟨fun hf => ?_, fun hf hp => ?_⟩
      · refine leaveEntry_ringKept d _ _ ?_
        rw [onPlanStats_same, hdeck]; exact ringForm_taken hr hf
      · obtain ⟨t, ht⟩ := leaveEntry_deck d ⟨q.addr, q.seg⟩
          (onPlanStats d (fun t => { t with overtaken := bump 1 t.overtaken }) (onRing d (fun r => r.taken q) s))
        rw [ht, onPlanStats_same, hdeck]
        obtain ⟨hl, ha, hg⟩ := loose_taken hr hf ((repairForm_iff_loose _).1 hp).1
        refine repairForm_left t ⟨hl, ha, hg⟩ fun x hx hxa hxs => ?_
        dsimp only at hx
        rw [taken_records, hr] at hx
        exact absurd ⟨hxa, hxs⟩ (ringForm_edge_alone hf hr hx)
    · next hnone =>
      refine .ofDeck hcut hD ⟨fun hf => by rw [hdeck]; exact ringForm_taken hr hf, fun hf hp => ?_⟩
      rw [hdeck] at hnone ⊢
      obtain ⟨hloose, hflag⟩ := (repairForm_iff_loose _).1 hp
      obtain ⟨hl, ha, hg⟩ := loose_taken hr hf hloose
      have hno : ∀ e ∈ (s.deck d).plan.entries, e.covers ⟨q.addr, q.seg⟩ = false := by simpa using hnone
      refine (repairForm_iff_loose _).2 ⟨⟨⟨hl.length, fun e he => ⟨(hl.slots e he).pos, (hl.slots e he).le, fun p hpc => ?_⟩, hl.order,
        hl.active, hl.covered⟩, ha, hg⟩, fun e he => (hflag e he).trans ?_⟩
      · rcases (hl.slots e he).held p hpc with (heq | hn) | hh
        · rw [heq, hno e he] at hpc; cases hpc
        · exact hn.elim
        · exact .inr hh
      · constructor
        · rintro ⟨x, hx, hm, hc⟩
          rw [hr] at hx
          rcases List.mem_cons.1 hx with rfl | hx
          · rw [hno e he] at hc; cases hc
          · exact ⟨x, by dsimp only; rw [taken_records, hr]; exact hx, hm, hc⟩
        · rintro ⟨x, hx, hm, hc⟩
          dsimp only at hx
          rw [taken_records] at hx
          exact ⟨x, List.mem_of_mem_tail hx, hm, hc⟩
  split
  · exact h₁.trans ((planned_breakPoint d _).kept hD)
  · exact h₁

/-! ## Additions (R67) -/

theorem mem_append_records {r : Ring} {t : Spot} {st : SlotState} {doubt : Nat} {data : Block} {q : SlotRecord} :
    q ∈ (r.append t st doubt data).records ↔
      q ∈ r.records ∨ q = { addr := t.addr, seg := t.seg, state := st, doubt := doubt, data := data } := by
  rw [append_records]; simp

theorem append_size (r : Ring) (t : Spot) (st : SlotState) (doubt : Nat) (data : Block) :
    ringSize (r.append t st doubt data) = ringSize r := by
  unfold Ring.append; dsimp only; rw [advance_size]; rfl

/-- A record that is not MISSING joins the ring: the list keeps its form (R67, R84). -/
theorem repairForm_append {u : DeckUnit} (t : Spot) {st : SlotState} (hst : st ≠ .missing) (doubt : Nat) (data : Block)
    (h : RepairForm u) : RepairForm { u with ring := u.ring.append t st doubt data } := by
  obtain ⟨⟨hl, ha, hg⟩, hf⟩ := (repairForm_iff_loose _).1 h
  have hmiss : ∀ q ∈ (u.ring.append t st doubt data).records, q.state = .missing → q ∈ u.ring.records := by
    intro q hq hm
    rcases mem_append_records.1 hq with hq | rfl
    · exact hq
    · exact absurd hm hst
  refine (repairForm_iff_loose _).2 ⟨⟨⟨hl.length, fun e he => ⟨(hl.slots e he).pos, (hl.slots e he).le, fun p hp => ?_⟩, ?_, hl.active,
    fun q hq hm => hl.covered q (hmiss q hq hm) hm⟩, ha, hg⟩, fun e he => (hf e he).trans ⟨?_, ?_⟩⟩
  · obtain ⟨q, hq, hr⟩ := ((hl.slots e he).held p hp).resolve_left id
    exact .inr ⟨q, mem_append_records.2 (.inl hq), hr⟩
  · dsimp only; rw [append_tag]; exact hl.order
  · rintro ⟨q, hq, hm, hc⟩; exact ⟨q, mem_append_records.2 (.inl hq), hm, hc⟩
  · rintro ⟨q, hq, hm, hc⟩; exact ⟨q, hmiss q hq hm, hm, hc⟩

theorem addRecord_deck (d : Deck) (t : Spot) (st : SlotState) (doubt : Nat) (data : Block) (s : State) :
    (addRecord d t st doubt data s).deck d = { s.deck d with ring := (s.deck d).ring.append t st doubt data } := by
  unfold addRecord; simp

theorem framed_addRecord {d : Deck} (hD : D d) (t : Spot) (st : SlotState) (doubt : Nat) (data : Block) (s : State)
    (hroom : (s.deck d).ring.records.length < (s.deck d).ring.cap) : Framed D s (addRecord d t st doubt data s) := by
  refine Framed.ring s hD (fun r => r.append t st doubt data) (append_size _ _ _ _ _) fun _ => ?_
  have hcap : ((s.deck d).ring.append t st doubt data).cap = (s.deck d).ring.cap := congrArg (·.1) (append_size _ _ _ _ _)
  unfold Roomy
  rw [append_records, hcap, List.length_append]; exact hroom

/-- An addition at the fetch address that is not MISSING (R67, R72). -/
theorem kept_addRecord {d : Deck} (hD : D d) {t : Spot} {st : SlotState} (hst : st ≠ .missing) (doubt : Nat) (data : Block) (s : State)
    (hj : JoinsAt (s.deck d).ring t) (hroom : (s.deck d).ring.records.length < (s.deck d).ring.cap) :
    Kept D s (addRecord d t st doubt data s) := by
  refine .ofDeck (framed_addRecord (.self d) t st doubt data s hroom) hD ?_
  rw [addRecord_deck]
  exact ⟨ringForm_append hj st doubt data, fun _ => repairForm_append t hst doubt data⟩

theorem kept_reportAdded {d : Deck} (hD : D d) (s : State) : Kept D s (reportAdded d s) :=
  (kept_reportGoodDepth d s).trans ((planned_onHigh d _).kept hD)

/-! ## New records (R85) -/

/-- What `newRecord` finds: a list in form over a ring whose record at `p`, the last of its segment, is DOUBTFUL (R85). -/
structure Fresh (p : Spot) (u : DeckUnit) : Prop where
  form : RepairForm u
  ring : RingForm u.ring
  last : ∀ e ∈ u.plan.entries, Before u.ring.tag e (.single p)
  held : ∃ q ∈ u.ring.records, q.addr = p.addr ∧ q.seg = p.seg ∧ q.state = .doubtful

/-- An entry of a list in form ends before the fetch address (R65, R84). -/
theorem before_fetch {u : DeckUnit} (h : ListForm u.ring.tag u.ring.records nowhere u.plan.entries) (hr : RingForm u.ring) {p : Spot}
    (hj : JoinsAt u.ring p) {e : Entry} (he : e ∈ u.plan.entries) : if e.seg = p.seg then e.first + e.count ≤ p.addr else e.seg = u.ring.tag := by
  have hpos := (h.slots e he).pos
  obtain ⟨q, hq, hqa, hqs, -⟩ := ((h.slots e he).held ⟨e.first + e.count - 1, e.seg⟩
    ((covers_iff _ _).2 ⟨rfl, by dsimp only; omega, by dsimp only; omega⟩)).resolve_left id
  dsimp only at hqa hqs
  split
  · next hs =>
    have := ringForm_below_fetch hr hj hq (hqs.trans hs)
    omega
  · next hs => rw [← hqs]; exact ringForm_seg_of_ne hr hj hq (hqs.symm ▸ hs)

/-- A DOUBTFUL record that has joined at the fetch address is new to the list (R85). -/
theorem fresh_append {u : DeckUnit} {p : Spot} (doubt : Nat) (data : Block) (h : RepairForm u) (hr : RingForm u.ring)
    (hj : JoinsAt u.ring p) : Fresh p { u with ring := u.ring.append p .doubtful doubt data } where
  form := repairForm_append p (by simp) doubt data h
  ring := ringForm_append hj _ doubt data hr
  last e he := by
    have := before_fetch ((repairForm_iff_loose _).1 h).1.list hr hj he
    dsimp only
    rw [append_tag]; exact this
  held := ⟨_, mem_append_records.2 (.inr rfl), rfl, rfl, rfl⟩

/-- The planner's work between the addition and the new record changes nothing of it. -/
theorem Fresh.planned {d : Deck} {s t : State} {p : Spot} (h : Fresh p (s.deck d)) (g : Planned d s t) : Fresh p (t.deck d) := by
  have hshape : ringShape (t.deck d).ring = ringShape (s.deck d).ring := congrArg (fun u => ringShape u.ring) g.fixed
  have hk := (g.kept (D := Only d) (.self d)).rings d
  have hrec : (t.deck d).ring.records = (s.deck d).ring.records := congrArg (·.1) hshape
  have htag : (t.deck d).ring.tag = (s.deck d).ring.tag := congrArg (·.2.1) hshape
  refine ⟨hk.repair h.ring h.form, hk.ring h.ring, fun e he => ?_, by rw [hrec]; exact h.held⟩
  have hmem := List.mem_map_of_mem (f := idleEntry) he
  rw [g.entries] at hmem
  obtain ⟨f, hf, hfe⟩ := List.mem_map.1 hmem
  have := h.last f hf
  have hfirst : f.first = e.first := congrArg (·.first) hfe
  have hseg : f.seg = e.seg := congrArg (·.seg) hfe
  have hcount : f.count = e.count := congrArg (·.count) hfe
  unfold Before at this ⊢
  rw [hfirst, hseg, hcount] at this
  rw [htag]; exact this

theorem Fresh.of_fields {u v : DeckUnit} {p : Spot} (h : Fresh p u) (hr : v.ring = u.ring) (he : v.plan.entries = u.plan.entries)
    (hl : v.plan.limit = u.plan.limit) (hg : v.intake.gapLimit = u.intake.gapLimit) : Fresh p v :=
  ⟨repairForm_of_records (by rw [hr]) (by rw [hr]) he hl hg h.form, hr ▸ h.ring, by rw [he, hr]; exact h.last, by rw [hr]; exact h.held⟩

/-- A new entry of one slot takes its place at the list's end (R85). -/
theorem repairForm_single {u : DeckUnit} {p : Spot} (h : Fresh p u) (hlen : u.plan.entries.length < 32) (hlimit : u.plan.limit ≠ 0) :
    RepairForm { u with plan := { u.plan with entries := u.plan.entries ++ [Entry.single p] } } := by
  obtain ⟨⟨hl, ha, hg⟩, hf⟩ := (repairForm_iff_loose _).1 h.form
  obtain ⟨q, hq, hqa, hqs, hst⟩ := h.held
  have hcov : ∀ r : Spot, (Entry.single p).covers r = true → r = p := by
    intro r hr
    obtain ⟨h1, h2, h3⟩ := (covers_iff _ _).1 hr
    simp only [Entry.single] at h1 h2 h3
    cases r; cases p
    simp only [Spot.mk.injEq]
    exact ⟨by dsimp only at *; omega, h1.symm⟩
  refine (repairForm_iff_loose _).2 ⟨⟨⟨by simp; omega, fun e he => ?_, ?_, ?_, fun x hx hm => ?_⟩, fun e he => ?_, hg⟩, fun e he => ?_⟩
  · rcases List.mem_append.1 he with he | he
    · exact hl.slots e he
    · rw [List.mem_singleton.1 he]
      refine ⟨by simp [Entry.single], by simp [Entry.single], fun r hr => .inr ?_⟩
      rw [hcov r hr]; exact ⟨q, hq, hqa, hqs, .inl hst⟩
  · refine List.pairwise_append.2 ⟨hl.order, List.pairwise_singleton _ _, fun e he f hf => ?_⟩
    rw [List.mem_singleton.1 hf]; exact h.last e he
  · have := hl.active
    unfold OneActive at this ⊢
    rw [List.filter_append]; simpa [Entry.single] using this
  · obtain ⟨e, he, hc⟩ := hl.covered x hx hm
    exact ⟨e, List.mem_append_left _ he, hc⟩
  · rcases List.mem_append.1 he with he | he
    · exact ha e he
    · rw [List.mem_singleton.1 he]; exact Nat.pos_of_ne_zero hlimit
  · rcases List.mem_append.1 he with he | he
    · exact hf e he
    · rw [List.mem_singleton.1 he]
      refine ⟨by simp [Entry.single], ?_⟩
      rintro ⟨x, hx, hm, hc⟩
      have hxp := hcov _ hc
      have : x = q := ringForm_unique h.ring hx hq (by rw [hqa, ← hxp]) (by rw [hqs, ← hxp])
      rw [this, hst] at hm; cases hm

/-- The last entry takes the new record by joining (R85). -/
theorem repairForm_joined {u : DeckUnit} {p : Spot} (h : Fresh p u) {e : Entry} (he : u.plan.entries.getLast? = some e)
    (hj : e.joins p = true) :
    RepairForm { u with plan := { u.plan with entries := u.plan.entries.dropLast ++ [{ e with count := e.count + 1 }] } } := by
  obtain ⟨⟨hl, ha, hg⟩, hf⟩ := (repairForm_iff_loose _).1 h.form
  obtain ⟨q, hq, hqa, hqs, hst⟩ := h.held
  obtain ⟨init, hes⟩ := List.getLast?_eq_some_iff.1 he
  have hinit : u.plan.entries.dropLast = init := by rw [hes, List.dropLast_concat]
  rw [hinit]
  have hmem : e ∈ u.plan.entries := by rw [hes]; simp
  have hpos := (hl.slots e hmem).pos
  simp only [Entry.joins, Entry.last, Bool.and_eq_true, Bool.not_eq_true', decide_eq_true_eq, beq_iff_eq] at hj
  obtain ⟨⟨⟨hidle, hcount⟩, hseg⟩, hnext⟩ := hj
  have hcov : ∀ r : Spot, ({ e with count := e.count + 1 } : Entry).covers r = true → r = p ∨ e.covers r = true := by
    intro r hr
    obtain ⟨h1, h2, h3⟩ := (covers_iff _ _).1 hr
    dsimp only at h1 h2 h3
    by_cases hlt : r.addr < e.first + e.count
    · exact .inr ((covers_iff _ _).2 ⟨h1, h2, hlt⟩)
    · left; cases r; cases p; simp only [Spot.mk.injEq] at *; exact ⟨by omega, h1.symm.trans hseg⟩
  have hsub : ∀ r : Spot, e.covers r = true → ({ e with count := e.count + 1 } : Entry).covers r = true := by
    intro r hr
    obtain ⟨h1, h2, h3⟩ := (covers_iff _ _).1 hr
    exact (covers_iff _ _).2 ⟨h1, h2, by dsimp only; omega⟩
  have hold : ∀ x ∈ init, x ∈ u.plan.entries := fun x hx => by rw [hes]; exact List.mem_append_left _ hx
  refine (repairForm_iff_loose _).2 ⟨⟨⟨?_, fun x hx => ?_, ?_, ?_, fun x hx hm => ?_⟩, fun x hx => ?_, hg⟩, fun x hx => ?_⟩
  · have := hl.length; rw [hes] at this; simpa using this
  · rcases List.mem_append.1 hx with hx | hx
    · exact hl.slots x (hold x hx)
    · rw [List.mem_singleton.1 hx]
      refine ⟨by dsimp only; omega, by dsimp only; omega, fun r hr => ?_⟩
      rcases hcov r hr with rfl | hr
      · exact .inr ⟨q, hq, hqa, hqs, .inl hst⟩
      · exact (hl.slots e hmem).held r hr
  · have := hl.order
    rw [hes] at this
    obtain ⟨h1, -, h3⟩ := List.pairwise_append.1 this
    refine List.pairwise_append.2 ⟨h1, List.pairwise_singleton _ _, fun x hx y hy => ?_⟩
    rw [List.mem_singleton.1 hy]; exact h3 x hx e List.mem_cons_self
  · have := hl.active
    unfold OneActive at this ⊢
    rw [hes] at this
    rw [List.filter_append] at this ⊢
    simpa [hidle] using this
  · obtain ⟨f, hfm, hc⟩ := hl.covered x hx hm
    rw [hes] at hfm
    rcases List.mem_append.1 hfm with hfm | hfm
    · exact ⟨f, List.mem_append_left _ hfm, hc⟩
    · rw [List.mem_singleton.1 hfm] at hc
      exact ⟨_, List.mem_append_right _ (List.mem_singleton.2 rfl), hsub _ hc⟩
  · rcases List.mem_append.1 hx with hx | hx
    · exact ha x (hold x hx)
    · rw [List.mem_singleton.1 hx]; exact ha e hmem
  · rcases List.mem_append.1 hx with hx | hx
    · exact hf x (hold x hx)
    · rw [List.mem_singleton.1 hx]
      refine (hf e hmem).trans ⟨?_, ?_⟩
      · rintro ⟨y, hy, hm, hc⟩; exact ⟨y, hy, hm, hsub _ hc⟩
      · rintro ⟨y, hy, hm, hc⟩
        rcases hcov _ hc with hyp | hc
        · have : y = q := ringForm_unique h.ring hy hq (by rw [hqa, ← hyp]) (by rw [hqs, ← hyp])
          rw [this, hst] at hm; cases hm
        · exact ⟨y, hy, hm, hc⟩

end Sys2Proof.Proofs
end


section
/-!
PROOFS. The Intake Unit's changes of a ring and its repair list: a block placed (R43), a gap covered and filled (R45, R86), a merge
(R56, R57).
-/

namespace Sys2Proof.Proofs

open Sys2Proof.Machine

variable {D : Deck → Prop}

/-! ## A new record, and a block placed (R43, R85) -/

theorem changeRecord_deck (d : Deck) (p : Spot) (f : SlotRecord → SlotRecord) (s : State) :
    (changeRecord d p f s).deck d = { s.deck d with ring := { (s.deck d).ring with
      records := (s.deck d).ring.records.map fun q => if q.at_ p then f q else q } } := by
  unfold changeRecord; simp

theorem framed_changeRecord {d : Deck} (hD : D d) (p : Spot) (f : SlotRecord → SlotRecord) (s : State) :
    Framed D s (changeRecord d p f s) := by
  unfold changeRecord
  refine Framed.trans ?_ (kept_reportGoodDepth d _).toFramed
  exact .ring s hD (fun r => { r with records := r.records.map fun q => if q.at_ p then f q else q }) rfl (by unfold Roomy; simp)

theorem at_iff (q : SlotRecord) (p : Spot) : q.at_ p = true ↔ q.addr = p.addr ∧ q.seg = p.seg := by simp [SlotRecord.at_]

theorem ringForm_changed {r : Ring} {p : Spot} {f : SlotRecord → SlotRecord} (ha : ∀ q, q.at_ p = true → (f q).addr = q.addr)
    (hs : ∀ q, q.at_ p = true → (f q).seg = q.seg) (h : RingForm r) :
    RingForm { r with records := r.records.map fun q => if q.at_ p then f q else q } :=
  ringForm_map (fun q => if q.at_ p then f q else q) (fun q => by split <;> simp_all) (fun q => by split <;> simp_all) h

/-- With the attempt limit 0 the list is empty, and no slot is MISSING (R84). -/
theorem entries_of_limit_zero {u : DeckUnit} (h : RepairForm u) (h0 : u.plan.limit = 0) : u.plan.entries = [] := by
  obtain ⟨⟨-, ha, -⟩, -⟩ := (repairForm_iff_loose _).1 h
  refine List.eq_nil_iff_forall_not_mem.2 fun e he => ?_
  have := ha e he
  omega

/-- Over an empty list the form asks for no MISSING slot (R84). -/
theorem repairForm_of_nil {u : DeckUnit} (he : u.plan.entries = []) (hg : u.intake.gapLimit ≤ 8)
    (hm : ∀ q ∈ u.ring.records, q.state ≠ .missing) : RepairForm u := by
  refine (repairForm_iff_loose _).2 ⟨⟨⟨by rw [he]; simp, ?_, by rw [he]; exact .nil, by rw [he]; simp [OneActive], fun q hq hs => absurd hs (hm q hq)⟩,
    ?_, hg⟩, ?_⟩ <;> · intro e hmem; rw [he] at hmem; cases hmem

theorem no_missing_of_nil {u : DeckUnit} (h : RepairForm u) (he : u.plan.entries = []) : ∀ q ∈ u.ring.records, q.state ≠ .missing := by
  intro q hq hm
  obtain ⟨e, hmem, -⟩ := ((repairForm_iff_loose _).1 h).1.list.covered q hq hm
  rw [he] at hmem; cases hmem

theorem framed_newRecord {d : Deck} (hD : D d) (p : Spot) (doubt : Nat) (s : State) : Framed D s (newRecord d p doubt s) := by
  unfold newRecord
  dsimp only
  have hadd : Framed D s (if (s.deck d).plan.entries.length < Config.repairEntries then
      onPlan d (fun q => { q with entries := q.entries ++ [Entry.single p] }) s
      else onIntakeStats d (fun t => { t with listFull := bump 1 t.listFull }) s) := by
    split
    · exact .plan s hD (fun q => { q with entries := q.entries ++ [Entry.single p] }) rfl
    · exact (Kept.intakeStats s hD _).toFramed
  split
  · exact .refl s
  · split
    · exact framed_changeRecord hD p _ s
    · split
      · exact .refl s
      · split
        · split
          · exact .plan s hD _ rfl
          · exact hadd
        · exact hadd

theorem newRecord_zero (d : Deck) (p : Spot) (s : State) : newRecord d p 0 s = s := rfl

theorem newRecord_ring (d : Deck) (p : Spot) (doubt : Nat) (s : State) (h : RingForm (s.deck d).ring) :
    RingForm ((newRecord d p doubt s).deck d).ring := by
  unfold newRecord
  dsimp only
  have hadd : RingForm ((if (s.deck d).plan.entries.length < Config.repairEntries then
      onPlan d (fun q => { q with entries := q.entries ++ [Entry.single p] }) s
      else onIntakeStats d (fun t => { t with listFull := bump 1 t.listFull }) s).deck d).ring := by
    split
    · rw [onPlan_same]; exact h
    · rw [onIntakeStats_same]; exact h
  split
  · exact h
  · split
    · rw [changeRecord_deck]
      exact ringForm_changed (f := fun r => { r with state := .final }) (fun _ _ => rfl) (fun _ _ => rfl) h
    · split
      · exact h
      · split
        · split
          · rw [onPlan_same]; exact h
          · exact hadd
        · exact hadd

/-- The list takes a DOUBTFUL record that has just joined the ring, or lets it be (R85). -/
theorem newRecord_form (d : Deck) (p : Spot) (doubt : Nat) (s : State) (h : Fresh p (s.deck d)) :
    RepairForm ((newRecord d p doubt s).deck d) := by
  have hsame := h.form
  unfold newRecord
  dsimp only
  split
  · exact hsame
  · split
    · next h0 =>
      rw [changeRecord_deck]
      have hnil := entries_of_limit_zero h.form h0
      refine repairForm_of_nil hnil ((repairForm_iff_loose _).1 h.form).1.gap fun q hq => ?_
      obtain ⟨x, hx, rfl⟩ := List.mem_map.1 hq
      split
      · simp
      · exact no_missing_of_nil h.form hnil x hx
    · next hlimit =>
      have hadd : RepairForm ((if (s.deck d).plan.entries.length < Config.repairEntries then
          onPlan d (fun q => { q with entries := q.entries ++ [Entry.single p] }) s
          else onIntakeStats d (fun t => { t with listFull := bump 1 t.listFull }) s).deck d) := by
        split
        · next hlen => rw [onPlan_same]; exact repairForm_single h hlen hlimit
        · rw [onIntakeStats_same]; exact hsame
      split
      · exact hsame
      · split
        · next e he =>
          split
          · next hj => rw [onPlan_same]; exact repairForm_joined h he hj
          · exact hadd
        · exact hadd

/-- The room that a placement needs (R43, R63). -/
def HasRoom (r : Ring) : Prop := r.records.length < r.cap

theorem Planned.ringShape {d : Deck} {s t : State} (h : Planned d s t) : ringShape (t.deck d).ring = ringShape (s.deck d).ring :=
  congrArg (fun u => Proofs.ringShape u.ring) h.fixed

/-- The planner's part of a placement, and its reports, before the list takes the new record (R43, R67, R73). -/
def placed (d : Deck) (a : Nat) (phase : FetchPhase) (s : State) : State :=
  onIntakeStats d (fun t => { t with placedNew := bump 1 t.placedNew })
    (reportAdded d (if (s.deck d).ring.phase = phase then s else onFetched d a s))

theorem placeBlock_eq (d : Deck) (a : Nat) (g : Seg) (b : Block) (s : State) :
    placeBlock d a g b s = newRecord d ⟨a, g⟩ (doubtCount b.marks) (placed d a (s.deck d).ring.phase
      (addRecord d ⟨a, g⟩ (if doubtCount b.marks = 0 then .good else .doubtful) (doubtCount b.marks) b s)) := rfl

theorem kept_placed {d : Deck} (hD : D d) (a : Nat) (phase : FetchPhase) (s : State) : Kept D s (placed d a phase s) := by
  unfold placed
  refine (Kept.trans ?_ (kept_reportAdded hD _)).trans (Kept.intakeStats _ hD _)
  split
  · exact .refl s
  · exact (planned_onFetched d a s).kept hD

theorem Fresh.placed {d : Deck} {s : State} {p : Spot} (h : Fresh p (s.deck d)) (a : Nat) (phase : FetchPhase) :
    Fresh p ((Proofs.placed d a phase s).deck d) := by
  unfold Proofs.placed
  have h₁ : Fresh p ((if (s.deck d).ring.phase = phase then s else onFetched d a s).deck d) := by
    split
    · exact h
    · exact h.planned (planned_onFetched d a s)
  generalize (if (s.deck d).ring.phase = phase then s else onFetched d a s) = t at h₁
  have h₂ : Fresh p ((reportAdded d t).deck d) := by
    refine Fresh.planned ?_ (planned_onHigh d (reportGoodDepth d t))
    rw [reportGoodDepth_deck]; exact h₁
  refine h₂.of_fields ?_ ?_ ?_ ?_ <;> rw [onIntakeStats_same]

/-- A block placed at the fetch address (R43, R67, R85). -/
theorem kept_placeBlock {d : Deck} (hD : D d) (a : Nat) (g : Seg) (b : Block) (s : State) (hj : JoinsAt (s.deck d).ring ⟨a, g⟩)
    (hroom : HasRoom (s.deck d).ring) : Kept D s (placeBlock d a g b s) := by
  rw [placeBlock_eq]
  by_cases h0 : doubtCount b.marks = 0
  · rw [if_pos h0, h0, newRecord_zero]
    exact (kept_addRecord hD (by simp) 0 b s hj hroom).trans (kept_placed hD _ _ _)
  · rw [if_neg h0]
    refine .ofDeck (Framed.trans (.trans (framed_addRecord (.self d) _ _ _ _ s hroom) (kept_placed (.self d) _ _ _).toFramed)
      (framed_newRecord (.self d) _ _ _)) hD ?_
    have hkept : RingForm (s.deck d).ring → RingForm ((Proofs.placed d a (s.deck d).ring.phase
        (addRecord d ⟨a, g⟩ .doubtful (doubtCount b.marks) b s)).deck d).ring := fun hr =>
      ((kept_placed (D := Only d) (.self d) a (s.deck d).ring.phase _).rings d).ring
        (by rw [addRecord_deck]; exact ringForm_append hj _ _ _ hr)
    refine ⟨fun hr => ?_, fun hr hp => ?_⟩
    · exact newRecord_ring d _ _ _ (hkept hr)
    · exact (newRecord_form d _ _ _ (Fresh.placed (by rw [addRecord_deck]; exact fresh_append _ b hp hr hj) a _))

/-! ## A gap covered, and its placeholders (R45, R58, R86) -/

/-- A list in form but for slots that placeholders are about to take: each is covered, and marks its entry as holding a MISSING slot. -/
structure Coming (away : Spot → Prop) (u : DeckUnit) : Prop where
  loose : Loose away u
  cover : ∀ p, away p → ∃ e ∈ u.plan.entries, e.covers p = true
  flags : ∀ e ∈ u.plan.entries, e.missing = true ↔ CoversMissing u.ring.records e ∨ ∃ p, away p ∧ e.covers p = true

/-- The slots from address `f` to below `a` of a segment. -/
def slotsFrom (f a : Nat) (g : Seg) (p : Spot) : Prop := p.seg = g ∧ f ≤ p.addr ∧ p.addr < a

theorem repairForm_of_coming {u : DeckUnit} {a : Nat} {g : Seg} (h : Coming (slotsFrom a a g) u) : RepairForm u := by
  have hno : ∀ p, ¬ slotsFrom a a g p := fun p hp => by have h1 := hp.2.1; have h2 := hp.2.2; omega
  refine (repairForm_iff_loose _).2 ⟨loose_mono h.loose fun p hp => absurd hp (hno p), fun e he => (h.flags e he).trans ⟨?_, .inl⟩⟩
  rintro (hm | ⟨p, hp, -⟩)
  · exact hm
  · exact absurd hp (hno p)

/-- One of the slots comes (R45, R58). -/
theorem coming_append {u : DeckUnit} {f a : Nat} {g : Seg} (hf : f < a) (h : Coming (slotsFrom f a g) u) (doubt : Nat) (data : Block) :
    Coming (slotsFrom (f + 1) a g) { u with ring := u.ring.append ⟨f, g⟩ .missing doubt data } := by
  obtain ⟨⟨hl, ha, hg⟩, hc, hflag⟩ := h
  have hfirst : slotsFrom f a g ⟨f, g⟩ := ⟨rfl, Nat.le_refl _, hf⟩
  have hsub : ∀ p, slotsFrom (f + 1) a g p → slotsFrom f a g p := fun p hp => ⟨hp.1, by have := hp.2.1; omega, hp.2.2⟩
  have hsplit : ∀ p, slotsFrom f a g p → p = ⟨f, g⟩ ∨ slotsFrom (f + 1) a g p := by
    rintro ⟨x, y⟩ ⟨h1, h2, h3⟩
    dsimp only at h1 h2 h3
    by_cases hx : x = f
    · exact .inl (by rw [hx, h1])
    · exact .inr ⟨h1, by dsimp only; omega, h3⟩
  refine ⟨⟨⟨hl.length, fun e he => ⟨(hl.slots e he).pos, (hl.slots e he).le, fun p hp => ?_⟩, ?_, hl.active, fun q hq hm => ?_⟩, ha, hg⟩,
    fun p hp => hc p (hsub p hp), fun e he => (hflag e he).trans ⟨?_, ?_⟩⟩
  · rcases (hl.slots e he).held p hp with haway | ⟨q, hq, hr⟩
    · rcases hsplit p haway with rfl | haway
      · exact .inr ⟨_, mem_append_records.2 (.inr rfl), rfl, rfl, .inr rfl⟩
      · exact .inl haway
    · exact .inr ⟨q, mem_append_records.2 (.inl hq), hr⟩
  · dsimp only; rw [append_tag]; exact hl.order
  · rcases mem_append_records.1 hq with hq | rfl
    · exact hl.covered q hq hm
    · exact hc _ hfirst
  · rintro (⟨q, hq, hm, hcov⟩ | ⟨p, hp, hcov⟩)
    · exact .inl ⟨q, mem_append_records.2 (.inl hq), hm, hcov⟩
    · rcases hsplit p hp with rfl | hp
      · exact .inl ⟨_, mem_append_records.2 (.inr rfl), rfl, hcov⟩
      · exact .inr ⟨p, hp, hcov⟩
  · rintro (⟨q, hq, hm, hcov⟩ | ⟨p, hp, hcov⟩)
    · rcases mem_append_records.1 hq with hq | rfl
      · exact .inl ⟨q, hq, hm, hcov⟩
      · exact .inr ⟨_, hfirst, hcov⟩
    · exact .inr ⟨p, hsub p hp, hcov⟩

/-- The planner's work leaves the slots to come as they are. -/
theorem Coming.planned {d : Deck} {s t : State} {away : Spot → Prop} (h : Coming away (s.deck d)) (g : Planned d s t) :
    Coming away (t.deck d) := by
  have hrec : (t.deck d).ring.records = (s.deck d).ring.records := congrArg (·.1) g.ringShape
  have htag : (t.deck d).ring.tag = (s.deck d).ring.tag := congrArg (·.2.1) g.ringShape
  have hlimit : (t.deck d).plan.limit = (s.deck d).plan.limit := congrArg (·.plan.limit) g.fixed
  have hgap : (t.deck d).intake.gapLimit = (s.deck d).intake.gapLimit := congrArg (·.intake.gapLimit) g.fixed
  have hslots : (t.deck d).plan.entries.map entrySlots = (s.deck d).plan.entries.map entrySlots := by
    have : ∀ es : List Entry, es.map entrySlots = (es.map idleEntry).map entrySlots := fun es => by rw [List.map_map]; rfl
    rw [this, g.entries, ← this]
  have hto : ∀ e ∈ (t.deck d).plan.entries, ∃ f ∈ (s.deck d).plan.entries, idleEntry f = idleEntry e := fun e he => by
    have := List.mem_map_of_mem (f := idleEntry) he
    rw [g.entries] at this; exact List.mem_map.1 this
  have hcov : ∀ {e f : Entry}, idleEntry f = idleEntry e → ∀ p, f.covers p = e.covers p := by
    intro e f hef p
    have h1 : f.first = e.first := congrArg (·.first) hef
    have h2 : f.seg = e.seg := congrArg (·.seg) hef
    have h3 : f.count = e.count := congrArg (·.count) hef
    unfold Entry.covers; rw [h1, h2, h3]
  refine ⟨⟨?_, fun e he => ?_, by rw [hgap]; exact h.loose.gap⟩, fun p hp => ?_, fun e he => ?_⟩
  · rw [htag, hrec]
    exact h.loose.list.congr hslots (g.active h.loose.list.spots h.loose.list.active)
  · obtain ⟨f, hf, hfe⟩ := hto e he
    have hat : f.attempts = e.attempts := congrArg (·.attempts) hfe
    rw [hlimit, ← hat]; exact h.loose.attempts f hf
  · obtain ⟨f, hf, hc⟩ := h.cover p hp
    have hm := List.mem_map_of_mem (f := idleEntry) hf
    rw [← g.entries] at hm
    obtain ⟨e, he, hef⟩ := List.mem_map.1 hm
    exact ⟨e, he, by rw [hcov hef]; exact hc⟩
  · obtain ⟨f, hf, hfe⟩ := hto e he
    have hmiss : f.missing = e.missing := congrArg (·.missing) hfe
    have := h.flags f hf
    unfold CoversMissing at this ⊢
    rw [← hmiss, hrec]
    simp only [← hcov hfe]
    exact this

/-- The fetch address after an addition that is not at the range's end (R72). -/
theorem joinsAt_append {r : Ring} {f : Nat} {g : Seg} (hj : JoinsAt r ⟨f, g⟩) {e : Nat} (he : r.fetchEnd = some e) (hlt : f < e)
    (st : SlotState) (doubt : Nat) (data : Block) :
    JoinsAt (r.append ⟨f, g⟩ st doubt data) ⟨f + 1, g⟩ ∧ (r.append ⟨f, g⟩ st doubt data).fetchEnd = some e := by
  obtain ⟨-, hs⟩ := hj
  unfold Ring.append Ring.advance
  dsimp only
  rw [he]
  simp only [if_pos hlt]
  exact ⟨⟨rfl, hs⟩, trivial⟩

theorem joinsAt_congr {q r : Ring} (h : ringShape r = ringShape q) {p : Spot} (hj : JoinsAt q p) : JoinsAt r p := by
  simp only [Proofs.ringShape, Prod.mk.injEq] at h
  obtain ⟨-, h2, h3, h4, -, -⟩ := h
  refine ⟨h4.trans hj.addr, ?_⟩
  have := hj.seg
  unfold Ring.fetchSeg at this ⊢
  rw [h2, h3]; exact this

/-- What `n` placeholders need: the fetch address, an end beyond them, and room (R45). -/
structure GapOpen (f n : Nat) (g : Seg) (r : Ring) : Prop where
  joins : JoinsAt r ⟨f, g⟩
  stop  : ∃ e, r.fetchEnd = some e ∧ f + n ≤ e
  room  : r.records.length + n < r.cap

theorem gapOpen_congr {f n : Nat} {g : Seg} {q r : Ring} (h : ringShape r = ringShape q) (hc : r.cap = q.cap) (ho : GapOpen f n g q) :
    GapOpen f n g r := by
  refine ⟨joinsAt_congr h ho.joins, ?_, ?_⟩
  · have : r.fetchEnd = q.fetchEnd := congrArg (·.2.2.2.2.1) h
    rw [this]; exact ho.stop
  · have : r.records = q.records := congrArg (·.1) h
    rw [this, hc]; exact ho.room

theorem gapOpen_append {f n : Nat} {g : Seg} {r : Ring} (h : GapOpen f (n + 1) g r) (st : SlotState) (doubt : Nat) (data : Block) :
    GapOpen (f + 1) n g (r.append ⟨f, g⟩ st doubt data) := by
  obtain ⟨e, he, hle⟩ := h.stop
  obtain ⟨hj, he'⟩ := joinsAt_append h.joins he (by omega) st doubt data
  refine ⟨hj, ⟨e, he', by omega⟩, ?_⟩
  have hcap : (r.append ⟨f, g⟩ st doubt data).cap = r.cap := congrArg (·.1) (append_size _ _ _ _ _)
  have := h.room
  rw [append_records, hcap, List.length_append, List.length_singleton]; omega

/-- One placeholder, with its reports (R58, R67). -/
def holder (d : Deck) (g : Seg) (st : SlotState) (f : Nat) (s : State) : State :=
  reportAdded d (addRecord d ⟨f, g⟩ st Config.samplesPerBlock placeholder s)

theorem addPlaceholders_succ (d : Deck) (g : Seg) (st : SlotState) (f n : Nat) (s : State) :
    addPlaceholders d g st f (n + 1) s = addPlaceholders d g st (f + 1) n (holder d g st f s) := rfl

theorem holder_planned (d : Deck) (g : Seg) (st : SlotState) (f : Nat) (s : State) :
    ∃ t, Planned d t (holder d g st f s) ∧ t.deck d = (addRecord d ⟨f, g⟩ st Config.samplesPerBlock placeholder s).deck d :=
  ⟨_, planned_onHigh d _, by rw [reportGoodDepth_deck]⟩

theorem gapOpen_holder {d : Deck} {g : Seg} {f n : Nat} {s : State} (st : SlotState) (h : GapOpen f (n + 1) g (s.deck d).ring) :
    GapOpen (f + 1) n g ((holder d g st f s).deck d).ring := by
  obtain ⟨t, ht, hd⟩ := holder_planned d g st f s
  refine gapOpen_congr ht.ringShape (congrArg (·.ring.cap) ht.fixed) ?_
  rw [hd, addRecord_deck]
  exact gapOpen_append h _ _ _

theorem framed_addPlaceholders {d : Deck} (hD : D d) (g : Seg) (st : SlotState) (f n : Nat) (s : State)
    (h : GapOpen f n g (s.deck d).ring) :
    Framed D s (addPlaceholders d g st f n s) ∧ GapOpen (f + n) 0 g ((addPlaceholders d g st f n s).deck d).ring := by
  induction n generalizing f s with
  | zero => exact ⟨.refl s, h⟩
  | succ n ih =>
    rw [addPlaceholders_succ]
    have hroom := h.room
    have hone : Framed D s (holder d g st f s) :=
      (framed_addRecord hD _ _ _ _ s (by omega)).trans (kept_reportAdded hD _).toFramed
    obtain ⟨h1, h2⟩ := ih (f + 1) _ (gapOpen_holder st h)
    exact ⟨hone.trans h1, by rw [show f + (n + 1) = f + 1 + n by omega]; exact h2⟩

theorem addPlaceholders_ring (d : Deck) (g : Seg) (st : SlotState) (f n : Nat) (s : State) (h : GapOpen f n g (s.deck d).ring)
    (hr : RingForm (s.deck d).ring) : RingForm ((addPlaceholders d g st f n s).deck d).ring := by
  induction n generalizing f s with
  | zero => exact hr
  | succ n ih =>
    rw [addPlaceholders_succ]
    refine ih (f + 1) _ (gapOpen_holder st h) ?_
    obtain ⟨t, ht, hd⟩ := holder_planned d g st f s
    refine ringForm_congr ht.ringShape ?_
    rw [hd, addRecord_deck]
    exact ringForm_append h.joins _ _ _ hr

/-- The placeholders of a covered gap (R45, R86). -/
theorem coming_addPlaceholders (d : Deck) (g : Seg) (f n : Nat) (s : State) (h : Coming (slotsFrom f (f + n) g) (s.deck d)) :
    RepairForm ((addPlaceholders d g .missing f n s).deck d) := by
  induction n generalizing f s with
  | zero => exact repairForm_of_coming h
  | succ n ih =>
    rw [addPlaceholders_succ]
    refine ih (f + 1) _ ?_
    obtain ⟨t, ht, hd⟩ := holder_planned d g .missing f s
    rw [show f + 1 + n = f + (n + 1) by omega]
    refine Coming.planned ?_ ht
    rw [hd, addRecord_deck]
    exact coming_append (by omega) h _ _

/-- Placeholders given up at once (R45 with the attempt limit 0). -/
theorem kept_addPlaceholders_void {d : Deck} (hD : D d) (g : Seg) (f n : Nat) (s : State) (h : GapOpen f n g (s.deck d).ring) :
    Kept D s (addPlaceholders d g .void f n s) := by
  induction n generalizing f s with
  | zero => exact .refl s
  | succ n ih =>
    rw [addPlaceholders_succ]
    have hroom := h.room
    exact ((kept_addRecord hD (by simp) _ _ s h.joins (by omega)).trans (kept_reportAdded hD _)).trans
      (ih (f + 1) _ (gapOpen_holder .void h))

end Sys2Proof.Proofs
end


section
/-!
PROOFS. The Intake Unit's changes of a ring and its repair list, continued: the cover of a gap (R45, R86) and a merge (R56, R57).
-/

namespace Sys2Proof.Proofs

open Sys2Proof.Machine

variable {D : Deck → Prop}

/-! ## The cover of a gap (R45, R86) -/

/-- A deck with another repair list. -/
def withEntries (es : List Entry) (u : DeckUnit) : DeckUnit := { u with plan := { u.plan with entries := es } }

/-- A list in form over a ring, before any slot is to come. -/
theorem coming_of_repairForm {u : DeckUnit} (h : RepairForm u) (f : Nat) (g : Seg) : Coming (slotsFrom f f g) u := by
  obtain ⟨hl, hf⟩ := (repairForm_iff_loose _).1 h
  have hno : ∀ p, ¬ slotsFrom f f g p := fun p hp => by have h1 := hp.2.1; have h2 := hp.2.2; omega
  refine ⟨loose_mono hl fun p hp => hp.elim, fun p hp => absurd hp (hno p), fun e he => (hf e he).trans ⟨.inl, ?_⟩⟩
  rintro (hm | ⟨p, hp, -⟩)
  · exact hm
  · exact absurd hp (hno p)

/-- The last entry of the list ends where the ring's tail does, and can take `j` slots more (R45, R86). -/
structure CanJoin (f j : Nat) (g : Seg) (e : Entry) : Prop where
  idle  : e.active = false
  seg   : e.seg = g
  stop  : e.first + e.count = f
  room  : e.count + j ≤ 8

/-- The last entry of the list takes the slots that are to come (R86). -/
def joinedEntry (j : Nat) (e : Entry) : Entry := { e with count := e.count + j, missing := true }

theorem coming_join {u : DeckUnit} {init : List Entry} {e : Entry} {f j : Nat} {g : Seg} (h : RepairForm u)
    (hr : RingForm u.ring) (hfetch : JoinsAt u.ring ⟨f, g⟩) (hes : u.plan.entries = init ++ [e]) (hj : CanJoin f j g e) (hpos : 1 ≤ j) :
    Coming (slotsFrom f (f + j) g) (withEntries (init ++ [joinedEntry j e]) u) := by
  obtain ⟨⟨hl, ha, hg⟩, hf⟩ := (repairForm_iff_loose _).1 h
  obtain ⟨hidle, hseg, hstop, hroom⟩ := hj
  have hmem : e ∈ u.plan.entries := by rw [hes]; simp
  have hold : ∀ x ∈ init, x ∈ u.plan.entries := fun x hx => by rw [hes]; exact List.mem_append_left _ hx
  have hcov : ∀ p : Spot, (joinedEntry j e).covers p = true ↔ e.covers p = true ∨ slotsFrom f (f + j) g p := by
    intro p
    rw [covers_iff, covers_iff]
    simp only [joinedEntry, slotsFrom]
    constructor
    · rintro ⟨h1, h2, h3⟩
      by_cases hlt : p.addr < e.first + e.count
      · exact .inl ⟨h1, h2, hlt⟩
      · exact .inr ⟨h1.symm.trans hseg, by omega, by omega⟩
    · rintro (⟨h1, h2, h3⟩ | ⟨h1, h2, h3⟩)
      · exact ⟨h1, h2, by omega⟩
      · exact ⟨hseg.trans h1.symm, by omega, by omega⟩
  have hfar : ∀ x ∈ init, ∀ p, slotsFrom f (f + j) g p → x.covers p = false := by
    intro x hx p hp
    refine Bool.eq_false_iff.2 fun hc => ?_
    obtain ⟨c1, c2, c3⟩ := (covers_iff x p).1 hc
    have := before_fetch hl hr hfetch (hold x hx)
    rw [if_pos (c1.trans hp.1)] at this
    have := hp.2.1
    dsimp only at *
    omega
  refine ⟨⟨⟨?_, fun x hx => ?_, ?_, ?_, fun x hx hm => ?_⟩, fun x hx => ?_, hg⟩, fun p hp => ?_, fun x hx => ?_⟩
  · have := hl.length; rw [hes] at this; simpa [withEntries] using this
  · rcases List.mem_append.1 hx with hx | hx
    · have := hl.slots x (hold x hx)
      exact ⟨this.pos, this.le, fun p hp => .inr ((this.held p hp).resolve_left id)⟩
    · rw [List.mem_singleton.1 hx]
      refine ⟨?_, hroom, fun p hp => ?_⟩
      · have := (hl.slots e hmem).pos
        simp only [joinedEntry]; omega
      · rcases (hcov p).1 hp with hc | hc
        · exact .inr (((hl.slots e hmem).held p hc).resolve_left id)
        · exact .inl hc
  · have := hl.order
    rw [hes] at this
    obtain ⟨h1, -, h3⟩ := List.pairwise_append.1 this
    refine List.pairwise_append.2 ⟨h1, List.pairwise_singleton _ _, fun x hx y hy => ?_⟩
    rw [List.mem_singleton.1 hy]; exact h3 x hx e List.mem_cons_self
  · have := hl.active
    unfold OneActive at this ⊢
    rw [hes] at this
    simp only [withEntries]
    rw [List.filter_append] at this ⊢
    simpa [hidle, joinedEntry] using this
  · obtain ⟨y, hy, hc⟩ := hl.covered x hx hm
    rw [hes] at hy
    rcases List.mem_append.1 hy with hy | hy
    · exact ⟨y, List.mem_append_left _ hy, hc⟩
    · rw [List.mem_singleton.1 hy] at hc
      exact ⟨_, List.mem_append_right _ (List.mem_singleton.2 rfl), (hcov _).2 (.inl hc)⟩
  · rcases List.mem_append.1 hx with hx | hx
    · exact ha x (hold x hx)
    · rw [List.mem_singleton.1 hx]; exact ha e hmem
  · exact ⟨_, List.mem_append_right _ (List.mem_singleton.2 rfl), (hcov p).2 (.inr hp)⟩
  · rcases List.mem_append.1 hx with hx | hx
    · refine (hf x (hold x hx)).trans ⟨.inl, ?_⟩
      rintro (hm | ⟨p, hp, hc⟩)
      · exact hm
      · rw [hfar x hx p hp] at hc; cases hc
    · rw [List.mem_singleton.1 hx]
      refine ⟨fun _ => .inr ⟨⟨f, g⟩, ?_, ?_⟩, fun _ => rfl⟩
      · exact ⟨rfl, Nat.le_refl _, by dsimp only; omega⟩
      · exact (hcov _).2 (.inr ⟨rfl, Nat.le_refl _, by dsimp only; omega⟩)

/-- A new entry of slots that are to come (R86). -/
def comingEntry (a m : Nat) (g : Seg) : Entry :=
  { first := a, seg := g, count := m, missing := true, attempts := 0, active := false, ofRun := false }

theorem coming_new {u : DeckUnit} {f a m : Nat} {g : Seg} (hr : RingForm u.ring) (hfetch : JoinsAt u.ring ⟨f, g⟩) (hfa : f ≤ a)
    (h : Coming (slotsFrom f a g) u) (hlen : u.plan.entries.length < 32) (hm : 1 ≤ m ∧ m ≤ 8) (hlimit : u.plan.limit ≠ 0) :
    Coming (slotsFrom f (a + m) g) (withEntries (u.plan.entries ++ [comingEntry a m g]) u) := by
  obtain ⟨⟨hl, ha, hg⟩, hc, hflag⟩ := h
  have hcov : ∀ p : Spot, (comingEntry a m g).covers p = true ↔ slotsFrom a (a + m) g p := by
    intro p
    rw [covers_iff]
    simp only [comingEntry, slotsFrom]
    exact ⟨fun ⟨h1, h2, h3⟩ => ⟨h1.symm, h2, h3⟩, fun ⟨h1, h2, h3⟩ => ⟨h1.symm, h2, h3⟩⟩
  have hsplit : ∀ p, slotsFrom f (a + m) g p ↔ slotsFrom f a g p ∨ slotsFrom a (a + m) g p := by
    intro p
    simp only [slotsFrom]
    constructor
    · rintro ⟨h1, h2, h3⟩
      by_cases hlt : p.addr < a
      · exact .inl ⟨h1, h2, hlt⟩
      · exact .inr ⟨h1, by omega, h3⟩
    · rintro (⟨h1, h2, h3⟩ | ⟨h1, h2, h3⟩)
      · exact ⟨h1, h2, by omega⟩
      · exact ⟨h1, by omega, h3⟩
  have hbefore : ∀ e ∈ u.plan.entries, if e.seg = g then e.first + e.count ≤ a else e.seg = u.ring.tag := by
    intro e he
    have hpos := (hl.slots e he).pos
    have := (hl.slots e he).held ⟨e.first + e.count - 1, e.seg⟩ ((covers_iff _ _).2 ⟨rfl, by dsimp only; omega, by dsimp only; omega⟩)
    split
    · next hs =>
      rcases this with hw | ⟨q, hq, hqa, hqs, -⟩
      · have := hw.2.2; dsimp only at this; omega
      · have := ringForm_below_fetch hr hfetch hq (hqs.trans hs)
        dsimp only at this hqa; omega
    · next hs =>
      rcases this with hw | ⟨q, hq, hqa, hqs, -⟩
      · exact absurd hw.1 hs
      · dsimp only at hqs
        rw [← hqs]; exact ringForm_seg_of_ne hr hfetch hq (hqs.symm ▸ hs)
  refine ⟨⟨⟨by simp [withEntries]; omega, fun x hx => ?_, ?_, ?_, fun x hx hm => ?_⟩, fun x hx => ?_, hg⟩, fun p hp => ?_, fun x hx => ?_⟩
  · rcases List.mem_append.1 hx with hx | hx
    · have := hl.slots x hx
      exact ⟨this.pos, this.le, fun p hp => (this.held p hp).imp_left fun hw => (hsplit p).2 (.inl hw)⟩
    · rw [List.mem_singleton.1 hx]
      exact ⟨hm.1, hm.2, fun p hp => .inl ((hsplit p).2 (.inr ((hcov p).1 hp)))⟩
  · refine List.pairwise_append.2 ⟨hl.order, List.pairwise_singleton _ _, fun x hx y hy => ?_⟩
    rw [List.mem_singleton.1 hy]; exact hbefore x hx
  · have := hl.active
    unfold OneActive at this ⊢
    simp only [withEntries]
    rw [List.filter_append]
    simpa [comingEntry] using this
  · obtain ⟨y, hy, hyc⟩ := hl.covered x hx hm
    exact ⟨y, List.mem_append_left _ hy, hyc⟩
  · rcases List.mem_append.1 hx with hx | hx
    · exact ha x hx
    · rw [List.mem_singleton.1 hx]; exact Nat.pos_of_ne_zero hlimit
  · rcases (hsplit p).1 hp with hp | hp
    · obtain ⟨e, he, hec⟩ := hc p hp
      exact ⟨e, List.mem_append_left _ he, hec⟩
    · exact ⟨_, List.mem_append_right _ (List.mem_singleton.2 rfl), (hcov p).2 hp⟩
  · rcases List.mem_append.1 hx with hx | hx
    · refine (hflag x hx).trans ⟨?_, ?_⟩
      · rintro (hw | ⟨p, hp, hpc⟩)
        · exact .inl hw
        · exact .inr ⟨p, (hsplit p).2 (.inl hp), hpc⟩
      · rintro (hw | ⟨p, hp, hpc⟩)
        · exact .inl hw
        · rcases (hsplit p).1 hp with hp | hp
          · exact .inr ⟨p, hp, hpc⟩
          · obtain ⟨c1, c2, c3⟩ := (covers_iff x p).1 hpc
            have := hbefore x hx
            rw [if_pos (c1.trans hp.1)] at this
            have := hp.2.1
            omega
    · rw [List.mem_singleton.1 hx]
      have hone : slotsFrom a (a + m) g ⟨a, g⟩ := ⟨rfl, Nat.le_refl _, by dsimp only; omega⟩
      exact ⟨fun _ => .inr ⟨_, (hsplit _).2 (.inr hone), (hcov _).2 hone⟩, fun _ => rfl⟩

/-- Where there is room to join, the last entry can join (R45, R86). -/
theorem canJoin_of_room {u : DeckUnit} {f : Nat} {g : Seg} (h : RepairForm u) (hr : RingForm u.ring) (hfetch : JoinsAt u.ring ⟨f, g⟩)
    {j : Nat} (hpos : 1 ≤ j) (hj : j ≤ roomToJoin u.ring u.plan.entries) :
    ∃ init e, u.plan.entries = init ++ [e] ∧ CanJoin f j g e ∧ roomToJoin u.ring u.plan.entries = 8 - e.count := by
  unfold roomToJoin at hj ⊢
  rw [hfetch.seg] at hj ⊢
  cases hlast : u.plan.entries.getLast? with
  | none => rw [hlast] at hj; dsimp only at hj; omega
  | some e =>
    cases hq : u.ring.records.getLast? with
    | none => rw [hlast, hq] at hj; dsimp only at hj; omega
    | some q =>
      rw [hlast, hq] at hj
      dsimp only at hj ⊢
      split at hj
      · next hcond =>
        rw [if_pos hcond]
        simp only [Bool.and_eq_true, Bool.not_eq_true', beq_iff_eq] at hcond
        obtain ⟨⟨⟨hidle, hqs⟩, hes⟩, hend⟩ := hcond
        obtain ⟨init, hinit⟩ := List.getLast?_eq_some_iff.1 hlast
        obtain ⟨recs, hrecs⟩ := List.getLast?_eq_some_iff.1 hq
        have hmem : e ∈ u.plan.entries := by rw [hinit]; simp
        have hpe := (((repairForm_iff_loose _).1 h).1.list.slots e hmem).pos
        have hf : f = q.addr + 1 := by
          have hseglast : (u.ring.segment g).getLast? = some q := by
            unfold Ring.segment
            rw [hrecs, List.filter_append, List.filter_cons, if_pos (by simp [hqs])]; simp
          obtain ⟨-, -, -, -, hphase⟩ := hr
          obtain ⟨hc, hg⟩ | ⟨hc, hg⟩ := fetchSeg_cases hfetch.seg <;> rw [hc] at hphase <;>
            obtain ⟨-, -, x, hx, hl⟩ := hphase <;> rw [hfetch.addr] at hx <;> cases hx <;> dsimp only at hg <;>
            exact hl q (hg ▸ hseglast)
        unfold Entry.last at hend
        exact ⟨init, e, hinit, ⟨hidle, hes, by omega, by omega⟩, rfl⟩
      · omega

/-- The cover of an accepted gap (R45, R86). -/
theorem coming_coverGap {u : DeckUnit} {f n : Nat} {g : Seg} (h : RepairForm u) (hr : RingForm u.ring) (hfetch : JoinsAt u.ring ⟨f, g⟩)
    (hpos : 1 ≤ n) (hle : n ≤ 8) (hcover : canCover u.ring u.plan.entries n = true) (hlimit : u.plan.limit ≠ 0) :
    Coming (slotsFrom f (f + n) g)
      (withEntries (coverGap f g n (min n (roomToJoin u.ring u.plan.entries)) u.plan.entries) u) := by
  have hcan : n ≤ roomToJoin u.ring u.plan.entries ∨ u.plan.entries.length < 32 := by
    simp only [canCover, Bool.or_eq_true, decide_eq_true_eq] at hcover
    exact hcover
  by_cases hroom : roomToJoin u.ring u.plan.entries = 0
  · have hlen : u.plan.entries.length < 32 := hcan.resolve_left (by omega)
    rw [hroom, Nat.min_zero]
    have hjoined : coverGap f g n 0 u.plan.entries = u.plan.entries ++ [comingEntry f n g] := by
      unfold coverGap
      rw [if_pos (by omega)]
      cases u.plan.entries.getLast? <;> rfl
    rw [hjoined]
    exact coming_new hr hfetch (Nat.le_refl _) (coming_of_repairForm h f g) hlen ⟨hpos, hle⟩ hlimit
  · obtain ⟨init, e, hes, hj, heq⟩ := canJoin_of_room h hr hfetch (j := min n (roomToJoin u.ring u.plan.entries)) (by omega) (by omega)
    generalize hjv : min n (roomToJoin u.ring u.plan.entries) = j at hj ⊢
    have hjoin := coming_join h hr hfetch hes hj (by omega)
    have hj0 : j ≠ 0 := by omega
    have hlist : coverGap f g n j u.plan.entries =
        if j < n then init ++ [joinedEntry j e] ++ [comingEntry (f + j) (n - j) g] else init ++ [joinedEntry j e] := by
      unfold coverGap
      rw [hes, List.getLast?_concat]
      dsimp only
      rw [List.dropLast_concat, if_neg hj0]
      rfl
    rw [hlist]
    split
    · next hlt =>
      have hlen : u.plan.entries.length < 32 := hcan.resolve_left (by omega)
      have := coming_new (u := withEntries (init ++ [joinedEntry j e]) u) (m := n - j) hr hfetch (by omega) hjoin
        (by rw [hes] at hlen; simpa [withEntries] using hlen) ⟨by omega, by omega⟩ hlimit
      rw [show f + n = f + j + (n - j) by omega]
      exact this
    · rw [show n = j by omega]; exact hjoin

/-! ## A gap taken (R45, R58) -/

/-- A positioned delivery changes nothing that the forms are about (R42). -/
theorem positioned_fields (d : Deck) (a : Nat) (s : State) :
    ((positioned d a s).deck d).ring = (s.deck d).ring ∧ ((positioned d a s).deck d).plan.entries = (s.deck d).plan.entries ∧
      ((positioned d a s).deck d).plan.limit = (s.deck d).plan.limit ∧
      ((positioned d a s).deck d).intake.gapLimit = (s.deck d).intake.gapLimit := by
  unfold positioned positionedTold
  dsimp only
  split <;> simp

theorem kept_positioned {d : Deck} (hD : D d) (a : Nat) (s : State) : Kept D s (positioned d a s) := by
  unfold positioned
  dsimp only
  refine Kept.trans ?_ ((planned_positionedTold d _).kept hD)
  refine Kept.trans ?_ (.ctx _ hD _)
  split
  · exact .intake s hD _ rfl
  · exact .refl s

theorem planned_afterPlacement (d : Deck) (before : DeckUnit) (s : State) : Planned d s (afterPlacement d before s) := by
  unfold afterPlacement
  dsimp only
  split
  · exact planned_breakPoint d s
  · split
    · exact planned_decisionPoint d s
    · exact .refl d s

theorem kept_placeNew {d : Deck} (hD : D d) (a : Nat) (g : Seg) (b : Block) (s : State) (hj : JoinsAt (s.deck d).ring ⟨a, g⟩)
    (hroom : HasRoom (s.deck d).ring) : Kept D s (placeNew d a g b s) := by
  unfold placeNew
  have hr := (positioned_fields d a s).1
  exact ((kept_positioned hD a s).trans (kept_placeBlock hD a g b _ (hr ▸ hj) (hr ▸ hroom))).trans
    ((planned_afterPlacement d _ _).kept hD)

/-- What an accepted gap needs of its deck (R45). -/
theorem gapTaken_parts {u : DeckUnit} {n : Nat} (h : gapTaken u n = true) :
    n ≤ u.intake.gapLimit ∧ u.ring.records.length + n + 1 ≤ u.ring.cap ∧
      (u.plan.limit = 0 ∨ canCover u.ring u.plan.entries n = true) := by
  simp only [gapTaken, Bool.and_eq_true, decide_eq_true_eq, Bool.or_eq_true, beq_iff_eq] at h
  exact ⟨h.1.1, h.1.2, h.2⟩

theorem onPlan_entries_deck (d : Deck) (f : List Entry → List Entry) (s : State) :
    (onPlan d (fun p => { p with entries := f p.entries }) s).deck d = withEntries (f (s.deck d).plan.entries) (s.deck d) := by
  simp [withEntries]

theorem withEntries_congr {u v : DeckUnit} {away : Spot → Prop} {es : List Entry} (hr : v.ring = u.ring)
    (hl : v.plan.limit = u.plan.limit) (hg : v.intake.gapLimit = u.intake.gapLimit) (h : Coming away (withEntries es u)) :
    Coming away (withEntries es v) := by
  obtain ⟨⟨h1, h2, h3⟩, h4, h5⟩ := h
  simp only [withEntries] at h1 h2 h3 h4 h5 ⊢
  exact ⟨⟨by rw [hr]; exact h1, by rw [hl]; exact h2, by rw [hg]; exact h3⟩, h4, by rw [hr]; exact h5⟩

theorem kept_placeGap {d : Deck} (hD : D d) (f a : Nat) (g : Seg) (b : Block) (s : State) (hj : JoinsAt (s.deck d).ring ⟨f, g⟩)
    {e : Nat} (he : (s.deck d).ring.fetchEnd = some e) (hfa : f < a) (hae : a ≤ e) (htaken : gapTaken (s.deck d) (a - f) = true) :
    Kept D s (placeGap d f a g b s) := by
  obtain ⟨hgap, hroom, hcover⟩ := gapTaken_parts htaken
  obtain ⟨hring, hentries, hlimit, hgapLimit⟩ := positioned_fields d a s
  have hopen : GapOpen f (a - f) g ((positioned d a s).deck d).ring := by
    rw [hring]; exact ⟨hj, ⟨e, he, by omega⟩, by omega⟩
  have hend : ∀ w : State, GapOpen (f + (a - f)) 0 g (w.deck d).ring → JoinsAt (w.deck d).ring ⟨a, g⟩ ∧ HasRoom (w.deck d).ring := by
    intro w hw
    rw [show f + (a - f) = a by omega] at hw
    exact ⟨hw.joins, by have := hw.room; unfold HasRoom; omega⟩
  unfold placeGap
  dsimp only
  by_cases h0 : (s.deck d).plan.limit = 0
  · rw [if_pos h0]
    refine Kept.trans ?_ ((planned_afterPlacement d _ _).kept hD)
    refine (kept_positioned hD a s).trans ?_
    refine Kept.trans ?_ (kept_placeBlock hD a g b _ ?_ ?_)
    · exact (kept_addPlaceholders_void hD g f _ _ hopen).trans (.intakeStats _ hD _)
    all_goals
      obtain ⟨h1, h2⟩ := hend _ (framed_addPlaceholders hD g .void f (a - f) _ hopen).2
      rw [onIntakeStats_same]
      assumption
  · rw [if_neg h0]
    generalize hes : coverGap f g (a - f) (min (a - f) (roomToJoin (s.deck d).ring (s.deck d).plan.entries)) = cover
    have hdeck := onPlan_entries_deck d cover (positioned d a s)
    have hopen' : GapOpen f (a - f) g ((onPlan d (fun p => { p with entries := cover p.entries }) (positioned d a s)).deck d).ring := by
      rw [hdeck]; exact hopen
    have hcovered : Framed (Only d) (positioned d a s) (onPlan d (fun p => { p with entries := cover p.entries }) (positioned d a s)) :=
      Framed.plan _ (.self d) (fun p => { p with entries := cover p.entries }) rfl
    obtain ⟨hadd, hfull⟩ := framed_addPlaceholders (Only.self d) g .missing f (a - f) _ hopen'
    obtain ⟨hjoin, hhas⟩ := hend _ hfull
    refine Kept.trans ?_ ((planned_afterPlacement d _ _).kept hD)
    have hfill : Kept D s (addPlaceholders d g .missing f (a - f)
        (onPlan d (fun p => { p with entries := cover p.entries }) (positioned d a s))) := by
      refine .ofDeck (((kept_positioned (.self d) a s).toFramed.trans hcovered).trans hadd) hD ⟨fun hr => ?_, fun hr hp => ?_⟩
      · exact addPlaceholders_ring d g .missing f _ _ hopen' (by rw [hdeck]; exact hring ▸ hr)
      · refine coming_addPlaceholders d g f (a - f) _ ?_
        rw [hdeck, hentries, ← hes]
        have hle := ((repairForm_iff_loose _).1 hp).1.gap
        exact withEntries_congr hring hlimit hgapLimit
          (coming_coverGap hp hr hj (by omega) (by omega) (hcover.resolve_left h0) h0)
    exact hfill.trans (kept_placeBlock hD a g b _ hjoin hhas)

/-! ## A merge (R56, R57) -/

theorem find_some {r : Ring} {p : Spot} {q : SlotRecord} (h : r.find p = some q) : q ∈ r.records ∧ q.addr = p.addr ∧ q.seg = p.seg := by
  unfold Ring.find at h
  exact ⟨List.mem_of_find?_eq_some h, (at_iff q p).1 (List.find?_some h)⟩

theorem mergeRecord_place (q : SlotRecord) (b : Block) : (mergeRecord q b).1.addr = q.addr ∧ (mergeRecord q b).1.seg = q.seg := ⟨rfl, rfl⟩

/-- What a merge makes of a slot that is not doubt-free (R57): REPAIRED, or of the same standing with the repair list. -/
theorem mergeRecord_state {q : SlotRecord} (b : Block) (h : isAnchor q = false) :
    (mergeRecord q b).1.state = .repaired ∨
      ((q.state = .doubtful ∨ q.state = .missing) ∧ (mergeRecord q b).1.state = .doubtful) ∨
      ((q.state = .final ∨ q.state = .void) ∧ ((mergeRecord q b).1.state = .final ∨ (mergeRecord q b).1.state = .void)) := by
  unfold mergeRecord
  dsimp only
  generalize doubtCount _ = n
  unfold mergedState
  split
  · exact .inl rfl
  · simp only [isAnchor, Bool.or_eq_false_iff, beq_eq_false_iff_ne] at h
    cases hs : q.state <;> simp_all
    split <;> simp_all

/-- A ring after a merge (R56). -/
def mergedRing (q q' : SlotRecord) (r : Ring) : Ring :=
  { r with records := r.records.map fun x => if x.at_ ⟨q.addr, q.seg⟩ then q' else x }

theorem mem_mergedRing {r : Ring} {q q' x : SlotRecord} (hq : q ∈ r.records) :
    x ∈ (mergedRing q q' r).records ↔ x = q' ∨ (x ∈ r.records ∧ ¬ (x.addr = q.addr ∧ x.seg = q.seg)) := by
  simp only [mergedRing, List.mem_map]
  constructor
  · rintro ⟨y, hy, rfl⟩
    split
    · exact .inl rfl
    · next hne => exact .inr ⟨hy, fun h => hne ((at_iff y _).2 h)⟩
  · rintro (rfl | ⟨hx, hne⟩)
    · exact ⟨q, hq, by rw [if_pos ((at_iff q _).2 ⟨rfl, rfl⟩)]⟩
    · exact ⟨x, hx, by rw [if_neg fun h => hne ((at_iff x _).1 h)]⟩

theorem ringForm_merged {r : Ring} {q q' : SlotRecord} (hp : q'.addr = q.addr ∧ q'.seg = q.seg) (hr : RingForm r) :
    RingForm (mergedRing q q' r) :=
  ringForm_changed (f := fun _ => q') (fun x hx => hp.1.trans ((at_iff x _).1 hx).1.symm) (fun x hx => hp.2.trans ((at_iff x _).1 hx).2.symm) hr

/-- A merge keeps the list's form but for a slot that is REPAIRED by it (R56, R57). -/
theorem loose_merged {u : DeckUnit} {q q' : SlotRecord} (h : RepairForm u) (hr : RingForm u.ring) (hq : q ∈ u.ring.records)
    (hp : q'.addr = q.addr ∧ q'.seg = q.seg) (away : Spot → Prop)
    (hstate : away ⟨q.addr, q.seg⟩ ∧ q'.state ≠ .missing ∨
      ((q.state = .doubtful ∨ q.state = .missing) ∧ q'.state = .doubtful) ∨
      ((q.state = .final ∨ q.state = .void) ∧ (q'.state = .final ∨ q'.state = .void))) :
    Loose away { u with ring := mergedRing q q' u.ring } := by
  obtain ⟨⟨hl, ha, hg⟩, -⟩ := (repairForm_iff_loose _).1 h
  have hnm : q'.state ≠ .missing := by
    rcases hstate with ⟨-, h⟩ | ⟨-, h⟩ | ⟨-, h | h⟩
    · exact h
    all_goals rw [h]; simp
  refine ⟨⟨hl.length, fun e he => ⟨(hl.slots e he).pos, (hl.slots e he).le, fun p hc => ?_⟩, hl.order, hl.active, fun x hx hm => ?_⟩, ha, hg⟩
  · obtain ⟨x, hx, hxa, hxs, hst⟩ := ((hl.slots e he).held p hc).resolve_left id
    by_cases hxq : x.addr = q.addr ∧ x.seg = q.seg
    · have hxe : x = q := ringForm_unique hr hx hq hxq.1 hxq.2
      have hpq : p = ⟨q.addr, q.seg⟩ := by cases p; simp_all
      rcases hstate with ⟨haway, -⟩ | ⟨-, hd⟩ | ⟨hfin, -⟩
      · exact .inl (hpq ▸ haway)
      · exact .inr ⟨q', (mem_mergedRing hq).2 (.inl rfl), by rw [hp.1, hpq], by rw [hp.2, hpq], .inl hd⟩
      · rw [hxe] at hst
        rcases hfin with hfin | hfin <;> rw [hfin] at hst <;> simp at hst
    · exact .inr ⟨x, (mem_mergedRing hq).2 (.inr ⟨hx, hxq⟩), hxa, hxs, hst⟩
  · rcases (mem_mergedRing hq).1 hx with rfl | ⟨hx, -⟩
    · exact absurd hm hnm
    · exact hl.covered x hx hm

/-- A merge (R56, R57). -/
theorem kept_mergeInto {d : Deck} (hD : D d) (q : SlotRecord) (b : Block) (s : State) (hq : q ∈ (s.deck d).ring.records)
    (hanchor : isAnchor q = false) : Kept D s (mergeInto d q b s) := by
  have hcases := mergeRecord_state b hanchor
  have hplace := mergeRecord_place q b
  unfold mergeInto
  dsimp only
  generalize mergeRecord q b = m at hcases hplace
  obtain ⟨q', c⟩ := m
  dsimp only at hcases hplace ⊢
  generalize hw : onIntakeStats d _ _ = w
  have hfr : Framed (Only d) s w := by
    subst hw
    exact (framed_changeRecord (.self d) _ _ s).trans (Kept.intakeStats _ (.self d) _).toFramed
  have hdeck : ∃ t, w.deck d = { s.deck d with ring := mergedRing q q' (s.deck d).ring, intake := { (s.deck d).intake with stats := t } } := by
    subst hw
    exact ⟨_, by rw [onIntakeStats_same, changeRecord_deck]; rfl⟩
  obtain ⟨t, ht⟩ := hdeck
  have hring : RingForm (s.deck d).ring → RingForm (w.deck d).ring := fun hr => by rw [ht]; exact ringForm_merged hplace hr
  have hstats : ∀ away : Spot → Prop, Loose away { s.deck d with ring := mergedRing q q' (s.deck d).ring } → Loose away (w.deck d) :=
    fun away h => by rw [ht]; exact ⟨h.list, h.attempts, h.gap⟩
  split
  · next hrep =>
    refine .ofDeck (hfr.trans (framed_leaveEntry (.self d) _ w)) hD ⟨fun hr => leaveEntry_ringKept d _ w (hring hr), fun hr hp => ?_⟩
    obtain ⟨t', ht'⟩ := leaveEntry_deck d ⟨q.addr, q.seg⟩ w
    rw [ht']
    refine repairForm_left t' (hstats _ (loose_merged hp hr hq hplace _ (.inl ⟨.inl rfl, by rw [hrep]; simp⟩))) fun x hx hxa hxs => ?_
    rw [ht] at hx
    rcases (mem_mergedRing hq).1 hx with rfl | ⟨-, hne⟩
    · rw [hrep]; simp
    · exact absurd ⟨hxa, hxs⟩ hne
  · next hrep =>
    refine .ofDeck (hfr.trans (framed_refreshEntries (.self d) w)) hD ⟨fun hr => ?_, fun hr hp => ?_⟩
    · rw [refreshEntries_deck]; exact hring hr
    · rw [refreshEntries_deck]
      exact repairForm_synced (hstats _ (loose_merged hp hr hq hplace _ (.inr (hcases.resolve_left hrep))))

end Sys2Proof.Proofs
end


section
/-!
PROOFS. What the operations of links and zones keep (R13 to R23, R111 to R132), each as `Kept`.
-/

namespace Sys2Proof.Proofs

open Sys2Proof.Machine

variable {D : Deck → Prop} {d : Deck} (hD : D d)

/-! ## Notes and records (R174 to R177) -/

/-- A write keeps the table's form (R175). -/
theorem tableForm_placeRecord (r : ResumeRecord) {table : List ResumeRecord} (h : TableForm table) : TableForm (placeRecord r table) := by
  have hfull : ((r :: table.filter fun q => q.fingerprint != r.fingerprint).map (·.fingerprint)).Nodup := by
    rw [List.map_cons, List.nodup_cons]
    refine ⟨?_, ?_⟩
    · rw [List.mem_map]
      rintro ⟨q, hq, hf⟩
      have := (List.mem_filter.1 hq).2
      simp [hf] at this
    · exact h.2.sublist (List.filter_sublist.map _)
  refine ⟨?_, ?_⟩
  · unfold placeRecord; rw [List.length_take]; exact Nat.min_le_left _ _
  · unfold placeRecord
    exact hfull.sublist ((List.take_sublist _ _).map _)

theorem kept_writeRecord (r : ResumeRecord) (s : State) : Kept D s (writeRecord r s) :=
  .onTray s (fun t => { t with table := placeRecord r t.table }) rfl (tableForm_placeRecord r)

theorem kept_writeZoneRecord (d : Deck) (why : ResumeReason) (s : State) : Kept D s (writeZoneRecord d why s) := by
  unfold writeZoneRecord
  split
  · split
    · exact .refl s
    · split
      · exact kept_writeRecord _ s
      · exact .refl s
  · exact .refl s

theorem kept_consumeNote (z : ZoneId) (why : ResumeReason) (m : StopNote) (s : State) : Kept D s (consumeNote z why m s) :=
  (kept_writeRecord _ s).trans (.note _ z none)

theorem kept_takeNote (z : ZoneId) (why : StopReason) (s : State) : Kept D s (takeNote z why s) := by
  unfold takeNote
  dsimp only
  split
  · split
    · split
      · exact .note s z _
      · exact .refl s
    · exact .refl s
  · exact .refl s

/-! ## Links (R13 to R23, R35) -/

theorem kept_announce (d : Deck) (s : State) : Kept D s (announce d s) := by
  unfold announce
  dsimp only
  split
  · split <;> exact .notice s _ _ rfl
  · exact .notice s _ _ rfl
  any_goals exact .notice s _ _ rfl
  all_goals exact .refl s

include hD

theorem kept_discardDisc (s : State) : Kept D s (discardDisc d s) :=
  (Kept.onTray s (fun t => { t with noteOne := keepNote d t.noteOne, noteTwo := keepNote d t.noteTwo }) rfl id).trans
    (.link _ hD (fun l => { l with disc := .absent }) rfl)

theorem kept_toNoDisc (r : DeckReason) (s : State) : Kept D s (toNoDisc d r s) :=
  (kept_discardDisc hD s).trans (.link _ hD _ rfl)

theorem kept_tellDropped (r : Request) (s : State) : Kept D s (tellDropped d r s) := by
  unfold tellDropped
  split
  · exact .plan s hD (fun p => { p with phase := .idle }) rfl rfl
  · split
    · exact .side s d _
    · exact .refl s
  all_goals exact .refl s

theorem kept_displace (r : Request) (s : State) : Kept D s (displace d r s) := by
  unfold displace
  split
  · exact .notice s _ _ rfl
  · exact kept_tellDropped hD r s

theorem kept_placeWaiting (r : Request) (s : State) : Kept D s (placeWaiting d r s).1 := by
  unfold placeWaiting
  split
  · exact .link s hD (fun l => { l with waiting := some r }) rfl
  · split
    · exact (kept_displace hD _ s).trans (.link _ hD (fun l => { l with waiting := some r }) rfl)
    · exact kept_tellDropped hD r s

theorem kept_mergePark (p : Purpose) (s : State) : Kept D s (mergePark d p s) := by
  unfold mergePark
  split
  · exact .refl s
  · exact .link s hD _ rfl

theorem kept_sentEffect (tag : Tag) (c : DeckCommand) (s : State) : Kept D s (sentEffect d tag c s) := by
  have hmech : ∀ st, Kept D s (announce d (onLink d (fun l => { l with state := st, runTag := none, gapTimer := false }) s)) :=
    fun st => (Kept.link s hD _ rfl).trans (kept_announce d _)
  unfold sentEffect
  dsimp only
  split
  · exact .link s hD _ rfl
  · exact .refl s
  · exact .link s hD _ rfl
  any_goals exact hmech _
  · exact .refl s

theorem kept_send (r : Request) (s : State) : Kept D s (send d r s) := by
  unfold send
  dsimp only
  have h := (Kept.link s hD (fun l =>
    { l with
      outstanding := some { command := r.command, tag := (s.deck d).link.nextTag, resends := 0,
                            limit := completionTime l.seekTime r.command, timer := .acknowledge }
      nextTag := l.nextTag + 1
      sent := l.sent ++ [{ command := r.command, tag := (s.deck d).link.nextTag }] }) rfl).trans
    (kept_sentEffect hD (s.deck d).link.nextTag r.command _)
  split
  · exact h.trans ((planned_openRun d _ _ _).kept hD)
  · exact h

theorem kept_request (r : Request) (s : State) : Kept D s (request d r s).1 := by
  have hsend := kept_send hD r s
  have hdrop := kept_tellDropped hD r s
  unfold request
  dsimp only
  split
  · exact hdrop
  · split
    · split
      · exact hsend
      · exact hdrop
    · split
      · split
        · exact hsend
        · exact hdrop
      · split
        · exact kept_mergePark hD _ s
        · exact kept_placeWaiting hD r s

theorem kept_sendLinkReset (s : State) : Kept D s (sendLinkReset d s) := (Kept.link s hD _ rfl).trans (kept_send hD _ _)

theorem kept_sendWaiting (entered : Bool) (s : State) : Kept D s (sendWaiting d entered s) := by
  have hown : ∀ t : State, Kept D t (if entered = true then announce d t else t) := fun t => by
    split
    · exact kept_announce d t
    · exact .refl t
  unfold sendWaiting
  dsimp only
  split
  · exact hown s
  · have h : Kept D s (onLink d (fun l => { l with waiting := none }) s) := .link s hD _ rfl
    split
    · exact (h.trans (kept_tellDropped hD _ _)).trans (hown _)
    · refine h.trans ?_
      split
      · exact (hown _).trans (kept_send hD _ _)
      · exact (hown _).trans (kept_send hD _ _)
      all_goals exact kept_send hD _ _

/-! ## Flush (R79) -/

theorem kept_intakeFlushed (s : State) : Kept D s (intakeFlushed d s) :=
  (Kept.ctx s hD _).trans (.intake _ hD (fun i => { i with abandoned := none, abandonedBy := 0 }) rfl)

omit hD in
theorem kept_zoneFlushed (s : State) : Kept D s (zoneFlushed d s) := by
  unfold zoneFlushed
  split
  · refine .onZone s _ _ ⟨rfl, rfl, id, fun h hs => ?_⟩
    obtain ⟨-, -, -, -, h5, h6, h7, h8⟩ := h hs
    exact ⟨rfl, rfl, rfl, rfl, h5, h6, h7, h8⟩
  · exact .refl s

theorem kept_cancelJob (s : State) : Kept D s (cancelJob d s) := (planned_cancelJob d s).kept hD

omit hD in
/-- The deck as a flush leaves it before its job is cancelled (R79). -/
theorem flushed_deck (s : State) :
    ∃ c, (onPlan d (fun p => { p with entries := [] }) (intakeFlushed d (onRing d Ring.flushed s))).deck d =
      { s.deck d with
        ring := (s.deck d).ring.flushed
        intake := { (s.deck d).intake with ctx := c, abandoned := none, abandonedBy := 0 }
        plan := { (s.deck d).plan with entries := [] } } := by
  unfold intakeFlushed closeRun
  exact ⟨_, by rw [onPlan_same, onIntake_same, onCtx_same, onRing_same]⟩

theorem kept_flush (s : State) : Kept D s (flush d s) := by
  unfold flush plannerFlushed
  refine Kept.trans (Kept.trans ?_ (kept_cancelJob hD _)) (kept_zoneFlushed _)
  have hring : Framed (Only d) s (onRing d Ring.flushed s) := .ring s (.self d) Ring.flushed rfl fun _ => Nat.zero_le _
  have hplan : ∀ t, Framed (Only d) t (onPlan d (fun p => { p with entries := [] }) t) := fun t =>
    .plan t (.self d) (fun p => { p with entries := [] }) rfl
  refine .ofDeck ((hring.trans (kept_intakeFlushed (.self d) _).toFramed).trans (hplan _)) hD ?_
  obtain ⟨c, hc⟩ := flushed_deck s
  rw [hc]
  exact ⟨fun _ => ringForm_flushed _, fun _ hp => repairForm_of_nil rfl ((repairForm_iff_loose _).1 hp).1.gap (by simp [Ring.flushed])⟩

/-- A ring that holds no record and fetches nothing (R79). -/
structure Emptied (r : Ring) : Prop where
  records : r.records = []
  phase   : r.phase = .idle

omit hD in
theorem emptied_flush (s : State) : Emptied ((flush d s).deck d).ring := by
  obtain ⟨c, hc⟩ := flushed_deck (d := d) s
  have hp := planned_cancelJob d (onPlan d (fun p => { p with entries := [] }) (intakeFlushed d (onRing d Ring.flushed s)))
  have hz : (flush d s).deck d = (cancelJob d (onPlan d (fun p => { p with entries := [] }) (intakeFlushed d (onRing d Ring.flushed s)))).deck d :=
    (kept_zoneFlushed (D := fun _ => False) _).toFramed.decks d
  have hshape := hp.ringShape
  rw [hc] at hshape
  simp only [Proofs.ringShape, Prod.mk.injEq] at hshape
  rw [hz]
  exact ⟨hshape.1, hshape.2.2.1⟩

end Sys2Proof.Proofs
end


section
/-!
PROOFS. What the operations of zones keep (R111 to R132), each as `Kept`.
-/

namespace Sys2Proof.Proofs

open Sys2Proof.Machine

variable {D : Deck → Prop}

/-! ## Ranges that begin and end (R113, R121, R122) -/

theorem Plays.deck {z : ZoneId} {s : State} {d : Deck} (h : Plays D z s) (hd : (s.zone z).deck? = some d) : D d := h d hd

theorem kept_enterStopped (z : ZoneId) (s : State) (hD : Plays D z s) : Kept D s (enterStopped z s) := by
  unfold enterStopped
  dsimp only
  refine Kept.trans ?_ (kept_follow z _)
  have h : Kept D s (enterZone z .stopped (onZone z Zone.cleared (takeNote z (s.zone z).stopReason s))) :=
    (kept_takeNote z _ s).trans (enterZone_cleared z _)
  split
  · next hd => exact h.trans (kept_flush (hD _ hd) _)
  · exact h

theorem kept_startRefused (z : ZoneId) (s : State) (hD : Plays D z s) : Kept D s (startRefused z s) := by
  have h : Kept D s (onZone z (fun n => { n with stopReason := .startRefused }) s) := .onZone s z _ ⟨rfl, rfl, id, id⟩
  unfold startRefused
  dsimp only
  cases z with
  | one =>
    have h' := h.trans (kept_mirrorStop .startRefused _)
    exact h'.trans (kept_enterStopped _ _ (h'.toFramed.plays hD))
  | two => exact h.trans (kept_enterStopped _ _ (h.toFramed.plays hD))

theorem setNote_onZone (z : ZoneId) (v : Option StopNote) (f : Zone → Zone) (s : State) :
    setNote z v (onZone z f s) = onZone z f (setNote z v s) := by cases z <;> rfl

theorem onZone_onZone (z : ZoneId) (f g : Zone → Zone) (s : State) : onZone z f (onZone z g s) = onZone z (fun n => f (g n)) s := by
  cases z <;> rfl

/-- A zone changed and at once in a state that is not STOPPED (R111). -/
theorem kept_enterActive (z : ZoneId) (st : ZoneState) (f : Zone → Zone) (s : State) (hst : st ≠ .stopped)
    (hsource : (f (s.zone z)).source = (s.zone z).source) (hset : (f (s.zone z)).set = (s.zone z).set)
    (hform : ZoneForm (s.zone z) → ZoneForm (f (s.zone z))) : Kept D s (enterZone z st (onZone z f s)) := by
  unfold enterZone
  dsimp only
  rw [onZone_onZone]
  exact (Kept.onZone s z (fun n => { f n with state := st }) ⟨hsource, hset, hform, fun _ h => absurd h hst⟩).trans (.notice _ _ _ rfl)

theorem kept_begun (z : ZoneId) (r : PlayRange) (s : State) :
    Kept D s (enterZone z .priming (setNote z none (onZone z (Zone.begun r) s))) := by
  rw [setNote_onZone]
  refine (Kept.note s z none).trans (kept_enterActive z _ _ _ (by simp) rfl rfl ?_)
  rintro ⟨-, h⟩; exact ⟨Nat.zero_le _, h⟩

/-- An empty ring that is told of a cue only copies it (R73). -/
theorem emptied_cueRing {d : Deck} {s : State} (c : Option PlayRange) (h : Emptied (s.deck d).ring) :
    cueRing d c s = onRing d (fun r => { r with cueCopy := c }) s := by
  obtain ⟨hrec, hphase⟩ := h
  have hcut : truncateCue d s = s := by
    rw [truncateCue_eq, if_pos (by simp [Ring.cueRecords, hrec])]
  unfold cueRing
  dsimp only
  rw [hcut, hphase]

/-- PLAY_START over an empty ring (R99). -/
theorem kept_playStart {d : Deck} (hD : D d) (r : PlayRange) (s t : State) (h : playStart d r s = some t)
    (hempty : Emptied (s.deck d).ring) : Kept D s t := by
  unfold playStart at h
  dsimp only at h
  split at h
  · cases h
    refine Kept.trans (.trans ?_ (.plan _ hD _ rfl rfl)) ((planned_seekFor d _ _ _ _).kept hD)
    refine .ringFetch hD s (fun q => { q with phase := .current, fetchAddr := some r.first, fetchEnd := some r.last }) rfl rfl rfl fun _ => ?_
    have hseg : ∀ g, Ring.segment { (s.deck d).ring with phase := .current, fetchAddr := some r.first, fetchEnd := some r.last } g = [] :=
      fun g => by unfold Ring.segment; rw [hempty.records]; rfl
    refine ⟨by rw [hseg, hseg]; exact hempty.records, by rw [hseg]; trivial, by rw [hseg]; trivial, fun hne => absurd (hseg _) hne,
      hseg _, ⟨_, rfl⟩, _, rfl, fun q hq => ?_⟩
    rw [hseg] at hq; cases hq
  · cases h

/-- The mirror's part when zone 1 enters PRIMING (R132). -/
def primed : ZoneId → State → State
  | .one, s => mirrorPrime s
  | .two, s => s

/-- The pending cue, if one is held, becomes the zone's cue (R122). -/
def cued (z : ZoneId) (d : Deck) (c : Option PlayRange) (s : State) : State :=
  c.elim s fun q => cueRing d (some q) (onZone z (fun n => { n with cue := some q }) s)

/-- PLAY_START, or what its refusal does (R122). -/
def started (z : ZoneId) (d : Deck) (r : PlayRange) (s : State) : State := (playStart d r s).getD (startRefused z s)

/-- A zone in PRIMING over its flushed ring (R121, R122). -/
def priming (z : ZoneId) (d : Deck) (r : PlayRange) (s : State) : State :=
  primed z (enterZone z .priming (setNote z none (onZone z (Zone.begun r) (flush d s))))

/-- The beginning of a range, step by step (R121, R122). -/
theorem beginRange_of_deck {z : ZoneId} {d : Deck} {s : State} (hd : (s.zone z).deck? = some d) (r : PlayRange) (c : Option PlayRange) :
    beginRange z r c s = started z d r (cued z d c (priming z d r s)) := by
  have hstart : ∀ w : State, started z d r w = (playStart d r w).getD (startRefused z w) := fun _ => rfl
  unfold beginRange
  rw [hd]
  cases z <;> cases c <;> dsimp only [cued, priming, primed, Option.elim] <;> rw [hstart] <;> split <;> simp_all

theorem kept_primed (z : ZoneId) (s : State) : Kept D s (primed z s) := by
  cases z
  · exact kept_mirrorPrime s
  · exact .refl s

theorem kept_started {z : ZoneId} {d : Deck} (hD : D d) (r : PlayRange) (s : State) (hp : Plays D z s) (he : Emptied (s.deck d).ring) :
    Kept D s (started z d r s) := by
  unfold started
  cases h : playStart d r s with
  | none => exact kept_startRefused z s hp
  | some t => exact kept_playStart hD r s t h he

theorem kept_priming {z : ZoneId} {d : Deck} (hD : D d) (r : PlayRange) (s : State) :
    Kept D s (priming z d r s) ∧ Emptied ((priming z d r s).deck d).ring := by
  have h : ∀ E : Deck → Prop, Kept E (flush d s) (priming z d r s) := fun E => (kept_begun z r _).trans (kept_primed z _)
  refine ⟨(kept_flush hD s).trans (h D), ?_⟩
  rw [(h fun _ => False).toFramed.decks d]
  exact emptied_flush s

theorem kept_cued {z : ZoneId} {d : Deck} (hD : D d) (c : Option PlayRange) (s : State) (he : Emptied (s.deck d).ring) :
    Kept D s (cued z d c s) ∧ Emptied ((cued z d c s).deck d).ring := by
  cases c with
  | none => exact ⟨.refl s, he⟩
  | some q =>
    have he' : Emptied ((onZone z (fun n => { n with cue := some q }) s).deck d).ring := by rw [onZone_deck]; exact he
    refine ⟨(Kept.onZone s z (fun n => { n with cue := some q }) ⟨rfl, rfl, id, id⟩).trans (kept_cueRing hD _ _), ?_⟩
    change Emptied ((cueRing d (some q) _).deck d).ring
    rw [emptied_cueRing _ he', onRing_same]
    exact ⟨he'.records, he'.phase⟩

/-- A range begins (R121, R122). -/
theorem kept_beginRange (z : ZoneId) (r : PlayRange) (c : Option PlayRange) (s : State) (hD : Plays D z s) :
    Kept D s (beginRange z r c s) := by
  cases hd : (s.zone z).deck? with
  | none => unfold beginRange; rw [hd]; exact .refl s
  | some d =>
    rw [beginRange_of_deck hd]
    obtain ⟨h₁, he₁⟩ := kept_priming (z := z) (hD d hd) r s
    obtain ⟨h₂, he₂⟩ := kept_cued (z := z) (hD d hd) c _ he₁
    have h := h₁.trans h₂
    exact h.trans (kept_started (hD d hd) r _ (h.toFramed.plays hD) he₂)

/-- The ramp is at 0 (R113). -/
theorem kept_reachZero (z : ZoneId) (s : State) (hD : Plays D z s) : Kept D s (reachZero z s) := by
  unfold reachZero
  dsimp only
  split
  · exact kept_mirrorZero s
  · split
    · split
      · exact kept_beginRange z _ _ s hD
      · exact .refl s
    · split
      · exact kept_enterStopped z s hD
      · split
        · split
          · exact (kept_enterZone z _ s (by simp)).trans (kept_follow z _)
          · exact .refl s
        · split
          · split
            · exact (kept_enterZone z _ s (by simp)).trans (kept_follow z _)
            · exact .refl s
          · exact .refl s

theorem kept_raised (z : ZoneId) (s : State) (hD : Plays D z s) : Kept D s (raised z s) := by
  have h := kept_follow (D := D) z s
  unfold raised
  dsimp only
  split
  · exact h.trans (kept_reachZero z _ (h.toFramed.plays hD))
  · exact h

/-- The mirror zone's own STOP with zone 1's (R131). -/
def mirrorTold (why : StopReason) : ZoneId → State → State
  | .one, s => mirrorStop why s
  | .two, s => s

/-- The planner of a zone's deck awaits the flush (R106). -/
def flushTold (d : Option Deck) (s : State) : State := d.elim s fun d => awaitFlush d s

theorem kept_mirrorTold (why : StopReason) (z : ZoneId) (s : State) : Kept D s (mirrorTold why z s) := by
  cases z
  · exact kept_mirrorStop why s
  · exact .refl s

theorem kept_flushTold (o : Option Deck) (s : State) (h : ∀ d, o = some d → D d) : Kept D s (flushTold o s) := by
  cases o with
  | none => exact .refl s
  | some d => exact (planned_awaitFlush d s).kept (h d rfl)

/-- A zone asked to stop (R119). -/
def stopping (why : StopReason) (fast : Bool) (n : Zone) : Zone :=
  { n with causes := { n.causes with stop := true, switch := false, protect := n.causes.protect || fast },
           stopReason := why, pendingRange := none, pendingCue := none }

theorem stopRequest_of_active {z : ZoneId} {s : State} (hs : (s.zone z).state ≠ .stopped) (why : StopReason) (fast : Bool) :
    stopRequest z why fast s = raised z (mirrorTold why z (flushTold (s.zone z).deck? (onZone z (stopping why fast) s))) := by
  unfold stopRequest
  dsimp only
  rw [if_neg hs]
  cases z <;> cases hd : (s.zone _).deck? <;> rfl

theorem stopRequest_of_stopped {z : ZoneId} {s : State} (hs : (s.zone z).state = .stopped) (why : StopReason) (fast : Bool) :
    stopRequest z why fast s = s := by
  unfold stopRequest; rw [if_pos hs]

/-- A stop request (R119). -/
theorem kept_stopRequest (z : ZoneId) (why : StopReason) (fast : Bool) (s : State) (hD : Plays D z s) :
    Kept D s (stopRequest z why fast s) := by
  by_cases hs : (s.zone z).state = .stopped
  · rw [stopRequest_of_stopped hs]; exact .refl s
  · rw [stopRequest_of_active hs]
    have h₁ : Kept D s (onZone z (stopping why fast) s) := .onZone s z _ (.active hs rfl rfl id)
    have h₂ := (h₁.trans (kept_flushTold _ _ hD)).trans (kept_mirrorTold why z _)
    exact h₂.trans (kept_raised z _ (h₂.toFramed.plays hD))

theorem kept_stopZoneOf {d : Deck} (hD : D d) (why : StopReason) (fast : Bool) (s : State) : Kept D s (stopZoneOf d why fast s) := by
  unfold stopZoneOf
  split
  · next hz => exact kept_stopRequest _ _ _ s (plays_of_zoneOf hD hz)
  · exact .refl s

/-! ## PLAY, CUE, PAUSE and UNPAUSE (R121 to R125, R132) -/

theorem kept_cueRange (z : ZoneId) (c : Option PlayRange) (s : State) (hD : Plays D z s) : Kept D s (cueRange z c s) := by
  unfold cueRange
  dsimp only
  split
  · exact .onZone s z _ ⟨rfl, rfl, id, id⟩
  · have h : Kept D s (onZone z (fun n => { n with cue := c }) s) := .onZone s z _ ⟨rfl, rfl, id, id⟩
    split
    · next hd => exact h.trans (kept_cueRing (hD _ hd) c _)
    · exact h

/-- A zone told to switch to another range (R122). -/
def switching (r : PlayRange) (stop : Bool) (n : Zone) : Zone :=
  { n with causes := { n.causes with switch := true, stop := stop }, pendingRange := some r, pendingCue := none }

theorem playRange_of_stopped {z : ZoneId} {s : State} {d : Deck} (hd : (s.zone z).deck? = some d) (hs : (s.zone z).state = .stopped)
    (r : PlayRange) : playRange z r s = beginRange z r none s := by
  unfold playRange; dsimp only; rw [hd, hs]

/-- PLAY on an active zone (R121, R122). -/
theorem playRange_of_active {z : ZoneId} {s : State} {d : Deck} (hd : (s.zone z).deck? = some d) (hs : (s.zone z).state ≠ .stopped)
    (r : PlayRange) : playRange z r s = raised z (mirrorTold .host z (awaitFlush d
      (if (s.zone z).ramp = 0 then onZone z (switching r (s.zone z).causes.stop) s
        else cueRing d none (onZone z (fun n => { n with cue := none }) (onZone z (switching r false) s))))) := by
  unfold playRange
  dsimp only
  rw [hd]
  cases hst : (s.zone z).state with
  | stopped => exact absurd hst hs
  | _ => dsimp only; split <;> cases z <;> rfl

theorem kept_playRange (z : ZoneId) (r : PlayRange) (s : State) (hD : Plays D z s) : Kept D s (playRange z r s) := by
  cases hd : (s.zone z).deck? with
  | none => unfold playRange; dsimp only; rw [hd]; exact .refl s
  | some d =>
    have hDd := hD d hd
    by_cases hs : (s.zone z).state = .stopped
    · rw [playRange_of_stopped hd hs]; exact kept_beginRange z r none s hD
    · rw [playRange_of_active hd hs]
      have hswitch : ∀ stop, Kept D s (onZone z (switching r stop) s) := fun stop => .onZone s z _ (.active hs rfl rfl id)
      have h₁ : Kept D s (if (s.zone z).ramp = 0 then onZone z (switching r (s.zone z).causes.stop) s
          else cueRing d none (onZone z (fun n => { n with cue := none }) (onZone z (switching r false) s))) := by
        split
        · exact hswitch _
        · exact ((hswitch _).trans (.onZone _ z _ ⟨rfl, rfl, id, id⟩)).trans (kept_cueRing hDd none _)
      have h₂ := (h₁.trans ((planned_awaitFlush d _).kept hDd)).trans (kept_mirrorTold .host z _)
      exact h₂.trans (kept_raised z _ (h₂.toFramed.plays hD))

theorem kept_raisePause (z : ZoneId) (s : State) (hD : Plays D z s) (hs : (s.zone z).state ≠ .stopped) : Kept D s (raisePause z s) := by
  unfold raisePause
  split
  · exact .refl s
  · have h : Kept D s (onZone z (fun n => { n with causes := { n.causes with pause := true } }) s) :=
      .onZone s z _ (.active hs rfl rfl id)
    exact h.trans (kept_raised z _ (h.toFramed.plays hD))

theorem kept_pauseZone (z : ZoneId) (s : State) (hD : Plays D z s) : Kept D s (pauseZone z s) := by
  unfold pauseZone
  split
  · next hs => exact kept_raisePause z s hD (by rw [hs]; simp)
  · next hs => exact kept_raisePause z s hD (by rw [hs]; simp)
  · next hs =>
    split
    · exact kept_raisePause z s hD (by rw [hs]; simp)
    · exact .refl s
  · exact .refl s
  · exact .refl s

theorem kept_unpauseMirror (s : State) (hs : s.zone2.state ≠ .stopped) : Kept D s (unpauseMirror s) := by
  have h : Kept D s (onZone .two (fun n => { n with causes := { n.causes with pause := false } }) s) :=
    .onZone s .two _ (.active hs rfl rfl id)
  unfold unpauseMirror
  dsimp only
  split
  · refine h.trans (kept_enterZone _ _ _ fun hst => ?_)
    split at hst <;> cases hst
  · exact h.trans (kept_enterZone _ _ _ (by simp))

theorem kept_unpauseZone (z : ZoneId) (s : State) : Kept D s (unpauseZone z s) := by
  unfold unpauseZone
  dsimp only
  split
  · next hs =>
    split
    · exact (Kept.onZone s z _ (.active (by simp [hs]) rfl rfl id)).trans (kept_follow z _)
    · exact .refl s
  · next hs =>
    split
    · split
      · next hz =>
        obtain ⟨rfl, -⟩ := hz
        exact kept_unpauseMirror s (by rw [show s.zone2.state = .paused from hs]; simp)
      · exact .refl s
    · refine Kept.trans (.trans (.onZone s z _ (.active ?_ rfl rfl id)) (kept_enterZone z _ _ fun hst => ?_)) (kept_follow z _)
      · simp [hs]
      · split at hst <;> cases hst
  all_goals exact .refl s

end Sys2Proof.Proofs
end


section
/-!
PROOFS. What the ends of runs, the Intake Unit and the reports of a deck link keep (R15 to R34, R40 to R57, R90 to R105), each as `Kept`.
-/

namespace Sys2Proof.Proofs

open Sys2Proof.Machine

variable {D : Deck → Prop} {d : Deck} (hD : D d)
include hD

/-! ## The ends of runs (R99, R101 to R104) -/

theorem kept_giveUp (why : StopReason) (s : State) : Kept D s (giveUp d why s) := by
  unfold giveUp
  exact ((((planned_release d s).trans (planned_noJob d _)).trans (planned_awaitFlush d _)).kept hD).trans
    (kept_stopZoneOf hD why false _)

theorem kept_completeRepair (sp : Span) (s : State) : Kept D s (completeRepair d sp s).1 := by
  unfold completeRepair
  dsimp only
  have hcount := kept_countAttempts hD s
  generalize hw : (if (s.deck d).plan.entries.any (·.ofRun) = true then startBackoff d ⟨sp.first, sp.seg⟩ (countAttempts d s)
    else countAttempts d s) = w
  have h : Kept D s w := by
    subst hw
    split
    · exact hcount.trans ((planned_startBackoff d _ _).kept hD)
    · exact hcount
  split
  · dsimp only
    exact (h.trans (.ctx _ hD _)).trans (.plan _ hD _ rfl rfl)
  · exact h.trans ((((planned_release d _).trans (planned_endRun d _)).trans (planned_decide d _ _)).kept hD)

theorem kept_voidOver (s : State) : Kept D s (voidOver d s) := by
  unfold voidOver
  dsimp only
  split
  · exact (planned_decide d _ s).kept hD
  · next t ht =>
    split
    · exact (planned_decide d _ s).kept hD
    · next hroom =>
      generalize hw : onPlan d (fun p => { p with voids := min 8 (p.voids + 1) }) _ = w
      have h : Kept D s w := by
        subst hw
        refine Kept.trans (.trans (.trans (kept_addRecord hD (by simp) _ _ s (joinsAt_of_fetchSpot ht) (Nat.lt_of_not_le hroom))
          (kept_reportAdded hD _)) (.intakeStats _ hD _)) (.plan _ hD _ rfl rfl)
      split
      · exact h.trans (kept_giveUp hD _ _)
      · split
        · exact h.trans ((planned_startRun d _ _).kept hD)
        · exact h.trans ((planned_decide d _ _).kept hD)

/-- The slip address recorded (R25). -/
def slipNoted (d : Deck) : Failure → State → State
  | .slip (some a), s => onPlan d (fun p => { p with lastSlip := some a }) s
  | .slip none, s | .seekMiss, s | .refusedGap, s | .abandoned, s => s

/-- The slip address recorded and the backoff timer started (R25, R105). -/
def failNoted (d : Deck) (f : Failure) (s : State) : State :=
  (s.deck d).plan.target.elim (slipNoted d f s) fun t => startBackoff d t (slipNoted d f s)

/-- The recovery flag and the seek-miss streak after a failure of a fetch-type run (R102). -/
def failCounted (d : Deck) (job : Job) (counts : Bool) (s : State) : State :=
  let s := onPlan d (fun p => { p with recovery := p.recovery || job != .playStart }) s
  if counts then
    onPlan d (fun p =>
      { p with seekMisses := min 3 (p.seekMisses + 1), stats := { p.stats with seekMisses := bump 1 p.stats.seekMisses } }) s
  else s

omit hD in
/-- The failure of a run by its job (R102). -/
theorem runFailed_eq (d : Deck) (f : Failure) (s : State) :
    runFailed d f s =
      if (s.deck d).plan.job = .repair then decide_ d .failed (endRun d (release d (countAttempts d (failNoted d f s))))
      else if (s.deck d).plan.job.isFetch then
        let counts := f.counts (s.deck d).plan.job (s.deck d).intake.ctx
        let s' := endRun d (release d (failCounted d (s.deck d).plan.job counts (failNoted d f s)))
        if counts ∧ (s'.deck d).plan.seekMisses = 3 then
          if (s.deck d).plan.job = .playStart then giveUp d .seekFailed s' else voidOver d s'
        else decide_ d .failed s'
      else decide_ d .failed (release d (failNoted d f s)) := by
  unfold runFailed failNoted
  dsimp only
  cases ht : (s.deck d).plan.target with
  | none => cases f with
    | slip a => cases a <;> rfl
    | _ => rfl
  | some t => cases f with
    | slip a => cases a <;> rfl
    | _ => rfl

omit hD in
theorem planned_failNoted (d : Deck) (f : Failure) (s : State) : Planned d s (failNoted d f s) := by
  have h : Planned d s (slipNoted d f s) := by
    unfold slipNoted
    split
    · exact .plan d s _ rfl rfl
    all_goals exact .refl d s
  unfold failNoted
  cases (s.deck d).plan.target with
  | none => exact h
  | some t => exact h.trans (planned_startBackoff d t _)

omit hD in
theorem planned_failCounted (d : Deck) (job : Job) (counts : Bool) (s : State) : Planned d s (failCounted d job counts s) := by
  unfold failCounted
  dsimp only
  have h : Planned d s (onPlan d (fun p => { p with recovery := p.recovery || job != .playStart }) s) := .plan d s _ rfl rfl
  split
  · exact h.trans (.plan d _ _ rfl rfl)
  · exact h

theorem kept_runFailed (f : Failure) (s : State) : Kept D s (runFailed d f s) := by
  have hnoted := planned_failNoted d f s
  rw [runFailed_eq]
  dsimp only
  split
  · refine ((hnoted.kept hD).trans (kept_countAttempts hD _)).trans ?_
    exact (((planned_release d _).trans (planned_endRun d _)).trans (planned_decide d _ _)).kept hD
  · split
    · generalize f.counts (s.deck d).plan.job (s.deck d).intake.ctx = counts
      have h := (((hnoted.trans (planned_failCounted d (s.deck d).plan.job counts _)).trans (planned_release d _)).trans (planned_endRun d _)).kept hD
      split
      · split
        · exact h.trans (kept_giveUp hD _ _)
        · exact h.trans (kept_voidOver hD _)
      · exact h.trans ((planned_decide d _ _).kept hD)
    · exact ((hnoted.trans (planned_release d _)).trans (planned_decide d _ _)).kept hD

/-! ## The Intake Unit (R40 to R57) -/

theorem kept_refuseGap (s : State) : Kept D s (refuseGap d s) := by
  have h : Kept D s (unanchored d s) := .ctx s hD _
  unfold refuseGap
  dsimp only
  split
  · exact h
  · exact (h.trans (.ctx _ hD _)).trans (kept_runFailed hD _ _)

theorem kept_overflow (a : Nat) (s : State) : Kept D s (overflow d a s) :=
  (((Planned.overflow d s true).kept hD).trans (.intakeStats _ hD _)).trans (kept_positioned hD a _)

theorem kept_stray (s : State) : Kept D s (stray d s) := by
  unfold stray unanchored
  exact (Kept.intakeStats s hD _).trans (.ctx _ hD _)

theorem kept_revisit (q : SlotRecord) (b : Block) (s : State) (hq : q ∈ (s.deck d).ring.records) : Kept D s (revisit d q b s) := by
  have h₁ := kept_positioned hD q.addr s
  unfold revisit
  dsimp only
  generalize hw : onCtx d _ _ = w
  have h : Kept D s w := by
    subst hw
    refine Kept.trans ?_ (.ctx _ hD _)
    split
    · exact h₁
    · next ha =>
      exact h₁.trans (kept_mergeInto hD q b _ (by rw [(positioned_fields d q.addr s).1]; exact hq) (by simpa using ha))
  split
  · split
    · exact h.trans (kept_completeRepair hD _ w)
    · exact h
  · exact h

theorem kept_classifyFetch (a : Nat) (b : Block) (s : State) : Kept D s (classifyFetch d a b s) := by
  unfold classifyFetch
  dsimp only
  split
  · next f e g hf he hg =>
    have hj : JoinsAt (s.deck d).ring ⟨f, g⟩ := ⟨hf, hg⟩
    split
    · next h =>
      obtain ⟨rfl, hroom⟩ := h
      exact kept_placeNew hD _ g b s hj hroom
    · split
      · next q hq => exact kept_revisit hD q b s (find_some hq).1
      · split
        · next h =>
          obtain ⟨hfa, hae, -⟩ := h
          split
          · next ht => exact kept_placeGap hD f a g b s hj he hfa hae ht
          · exact kept_refuseGap hD s
        · split
          · exact kept_overflow hD a s
          · exact kept_stray hD s
  · exact kept_stray hD s

theorem kept_classify (a : Nat) (b : Block) (s : State) : Kept D s (classify d a b s) := by
  unfold classify
  dsimp only
  split
  · next sp _ =>
    split
    · have h := kept_completeRepair hD sp s
      split
      · next w hw => rw [hw] at h; exact h.trans (kept_classifyFetch hD a b w)
      · next w hw => rw [hw] at h; exact h
    · split
      · next q hq => exact kept_revisit hD q b s (find_some hq).1
      · exact kept_stray hD s
  · exact kept_classifyFetch hD a b s

theorem kept_unplaced (s : State) : Kept D s (unplaced d s) := by
  have h : Kept D s (unanchored d (onIntakeStats d (fun t => { t with unplaced := bump 1 t.unplaced }) s)) :=
    (Kept.intakeStats s hD _).trans (.ctx _ hD _)
  unfold unplaced
  dsimp only
  split
  · exact h.trans (.ctx _ hD _)
  · refine (h.trans (.ctx _ hD _)).trans (.trans (.intake _ hD _ ?_) (kept_runFailed hD _ _))
    unfold abandonedAfter
    split
    · split <;> rfl
    · rfl

theorem kept_matching (b : Block) (s : State) : Kept D s (matching d b s) := by
  unfold matching
  dsimp only
  split
  · exact (Kept.ctx s hD _).trans (kept_unplaced hD _)
  · exact (Kept.ctx s hD _).trans (kept_classify hD _ _ _)
  · exact (Kept.ctx s hD _).trans (kept_unplaced hD _)

theorem kept_intakeOp (tag : Tag) (v : DeliveryArgs) (s : State) : Kept D s (intake d tag v s) := by
  unfold intake
  dsimp only
  split
  · exact .refl s
  · split
    · exact kept_classify hD _ _ s
    · split
      · exact kept_classify hD _ _ s
      · split
        · exact (Kept.ctx s hD _).trans (kept_classify hD _ _ _)
        · split
          · exact kept_classify hD _ _ s
          · exact kept_matching hD _ s

/-! ## The Tray Supervisor's part (R171 to R173, R178, R179) -/

theorem kept_reload (s : State) : Kept D s (reload d s) := by
  unfold reload
  dsimp only
  split
  · exact kept_request hD _ s
  · exact .refl s

theorem kept_parkDone (s : State) : Kept D s (parkDone d s) := by
  unfold parkDone
  split
  · have h : Kept D s (onSide d (fun t => { t with reload := false }) s) := .side s d _
    dsimp only
    split
    · exact h.trans (kept_reload hD _)
    · exact h
  · exact .refl s

omit hD in
theorem kept_dropRecord (f : BitVec 32) (s : State) : Kept D s (dropRecord f s) :=
  .onTray s (fun t => { t with table := t.table.filter fun r => r.fingerprint != f }) rfl fun h =>
    ⟨Nat.le_trans (List.length_filter_le _ _) h.1, h.2.sublist (List.filter_sublist.map _)⟩

omit hD in
theorem kept_beginResume (z : ZoneId) (r : ResumeRecord) (c : Option Catalogue) (range : PlayRange) (s : State) (hz : Plays D z s) :
    Kept D s (beginResume z r c range s) := by
  have h₁ : Kept D s (dropRecord r.fingerprint s) := kept_dropRecord _ s
  have h := h₁.trans (kept_beginRange z range none _ (h₁.toFramed.plays hz))
  unfold beginResume
  dsimp only
  split
  · split
    · exact h
    · exact h.trans (kept_cueRange z _ _ (h.toFramed.plays hz))
  · exact h
  · exact h

/-- The deck last seen of a fingerprint's record (R178). -/
def seenOn (d : Deck) (r : ResumeRecord) (s : State) : State :=
  { s with tray := { s.tray with table := s.tray.table.map fun q => if q.fingerprint = r.fingerprint then { q with deck := d } else q } }

omit hD in
theorem kept_seenOn (r : ResumeRecord) (s : State) : Kept D s (seenOn d r s) := by
  refine .onTray s (fun t => { t with table := t.table.map fun q =>
    if q.fingerprint = r.fingerprint then { q with deck := d } else q }) rfl fun ht => ⟨by rw [List.length_map]; exact ht.1, ?_⟩
  have : (s.tray.table.map fun q => if q.fingerprint = r.fingerprint then { q with deck := d } else q).map (·.fingerprint)
      = s.tray.table.map (·.fingerprint) := by
    rw [List.map_map]
    refine List.map_congr_left fun q _ => ?_
    simp only [Function.comp_apply]
    split <;> rfl
  dsimp only
  rw [this]; exact ht.2

/-- What the search does with a record found (R178). -/
def foundRecord (d : Deck) (c : Catalogue) (r : ResumeRecord) (s : State) : State :=
  if inStandby s = true ∨ (s.zone r.zone).source ≠ .deck d ∨ s.tray.autoResume = false ∨ (s.zone r.zone).state ≠ .stopped then
    raiseNotice (.deck d) (.resumeMatch r.zone r.position r.fingerprint) s
  else
    match resumeRange r (some c) s with
    | .refused _ => raiseNotice (.deck d) (.resumeMatch r.zone r.position r.fingerprint) s
    | .accepted range _ => beginResume r.zone r (some c) range s

omit hD in
theorem searchResume_found {s : State} {c : Catalogue} {r : ResumeRecord} (hc : (s.deck d).link.usable = some c)
    (hl : (s.side d).level ≠ .opened) (hr : findRecord c.fingerprint s = some r) :
    searchResume d s = foundRecord d c r (seenOn d r s) := by
  unfold searchResume foundRecord
  rw [hc]
  dsimp only
  rw [if_neg hl, hr]
  rfl

theorem kept_foundRecord (c : Catalogue) (r : ResumeRecord) (s : State) : Kept D s (foundRecord d c r s) := by
  have hfound : Kept D s (raiseNotice (.deck d) (.resumeMatch r.zone r.position r.fingerprint) s) := .notice s _ _ rfl
  unfold foundRecord
  split
  · exact hfound
  · next hcond =>
    have hsource : (s.zone r.zone).source = .deck d :=
      Decidable.byContradiction fun hne => hcond (.inr (.inl hne))
    have hz : Plays D r.zone s := by
      intro e he
      unfold Zone.deck? at he
      rw [hsource] at he
      cases he; exact hD
    split
    · exact hfound
    · exact kept_beginResume _ _ _ _ s hz

theorem kept_searchResume (s : State) : Kept D s (searchResume d s) := by
  cases hc : (s.deck d).link.usable with
  | none => unfold searchResume; rw [hc]; exact .refl s
  | some c =>
    by_cases hl : (s.side d).level = .opened
    · unfold searchResume; rw [hc]; dsimp only; rw [if_pos hl]; exact .refl s
    · cases hr : findRecord c.fingerprint s with
      | none => unfold searchResume; rw [hc]; dsimp only; rw [if_neg hl, hr]; exact .refl s
      | some r =>
        rw [searchResume_found hc hl hr]
        exact (kept_seenOn r s).trans (kept_foundRecord hD c r _)

end Sys2Proof.Proofs
end


section
/-!
PROOFS. What the reports and timers of a deck link, the tray lines, standby and the frame event keep, each as `Kept`.
-/

namespace Sys2Proof.Proofs

open Sys2Proof.Machine

variable {D : Deck → Prop} {d : Deck} (hD : D d)

section decks
include hD

/-! ## Tray lines (R169, R172) -/

theorem kept_protect (s : State) : Kept D s (protect d s) := by
  unfold protect
  dsimp only
  generalize hw : stopZoneOf d .trayOpen true _ = w
  have h₁ : Kept D s w := hw ▸ (Kept.side s d _).trans ((kept_writeZoneRecord d _ _).trans (kept_stopZoneOf hD _ _ _))
  have h₂ : ∀ b : Bool, (b = true → mirroring w = true) → Kept D s (if b then stopRequest .two .trayOpen true w else w) := by
    intro b hb
    split
    · next hbt =>
      refine h₁.trans (kept_stopRequest _ _ _ _ fun e he => ?_)
      have hm := hb hbt
      unfold Zone.deck? at he
      simp only [mirroring, beq_iff_eq] at hm
      rw [show (w.zone .two).source = .mirror from hm] at he; cases he
    · exact h₁
  refine Kept.trans (.trans (.trans (.trans (.trans (h₂ _ fun hb => ?_) (kept_request hD _ _)) (kept_cancelJob hD _)) (kept_flush hD _))
    (kept_discardDisc hD _)) (.notice _ _ _ rfl)
  rw [h₁.toFramed.mirroring]
  simp only [Bool.and_eq_true] at hb
  have hside : ∀ f, mirroring (writeZoneRecord d .tray (onSide d f s)) = mirroring s := fun f =>
    ((Kept.side (D := D) s d f).trans (kept_writeZoneRecord d _ _)).toFramed.mirroring
  rw [hside] at hb
  exact hb.2

theorem kept_closing (s : State) : Kept D s (closing d s) := by
  have h : Kept D s (raiseNotice (.deck d) (.trayChanged .closed) s) := .notice s _ _ rfl
  unfold closing
  dsimp only
  split
  · exact h
  · split
    · exact h.trans (.side _ d _)
    · exact h.trans (kept_reload hD _)

theorem kept_trayDebounced (s : State) : Kept D s (trayDebounced d s) := by
  unfold trayDebounced
  dsimp only
  split
  · exact .refl s
  · have h : Kept D s (onSide d (fun t => { t with timer := none, level := t.line }) s) := .side s d _
    split
    · exact h.trans (kept_protect hD _)
    · exact h.trans (kept_closing hD _)

/-! ## Reports (R15 to R34) -/

theorem kept_staleReport (s : State) : Kept D s (staleReport d s) := .link s hD _ rfl
theorem kept_clearOutstanding (s : State) : Kept D s (clearOutstanding d s) := .link s hD _ rfl

theorem kept_enterFault (cause : FaultCause) (s : State) : Kept D s (enterFault d cause s) := by
  unfold enterFault
  dsimp only
  generalize hw : onLink d _ s = w
  have h₁ : Kept D s w := hw ▸ .link s hD _ rfl
  have hend : ∀ v, Kept D s v → Kept D s (announce d (onSide d (fun t => { t with reload := false })
      (cancelJob d (flush d (stopZoneOf d .deckFault true (onLink d (fun l => { l with disc := l.disc.faulted })
        (writeZoneRecord d .fault v))))))) := fun v hv =>
    .trans (.trans (.trans (.trans (.trans (.trans (hv.trans (kept_writeZoneRecord d _ _)) (.link _ hD _ rfl)) (kept_stopZoneOf hD _ _ _))
      (kept_flush hD _)) (kept_cancelJob hD _)) (.side _ d _)) (kept_announce d _)
  cases hwt : (s.deck d).link.waiting with
  | none => exact hend _ h₁
  | some r => exact hend _ (h₁.trans (kept_tellDropped hD r w))

theorem kept_land (a : Option Nat) (s : State) : Kept D s (land d a s) := .link s hD _ rfl
theorem kept_seekMissed (s : State) : Kept D s (seekMissed d s) := (Kept.link s hD _ rfl).trans (kept_runFailed hD _ _)
theorem kept_slipped (a : Option Nat) (s : State) : Kept D s (slipped d a s) := (Kept.link s hD _ rfl).trans (kept_runFailed hD _ _)

theorem kept_acknowledged (o : Outstanding) (s : State) : Kept D s (acknowledged d o s) := by
  unfold acknowledged
  split
  any_goals exact .link s hD _ rfl
  dsimp only
  refine Kept.trans ?_ (kept_sendWaiting hD _ _)
  split
  · exact (kept_clearOutstanding hD s).trans (kept_toNoDisc hD _ _)
  · exact kept_clearOutstanding hD s

theorem kept_takenReport (tag : Tag) (s : State) : Kept D s (takenReport d tag s) := by
  unfold takenReport
  dsimp only
  split
  · split
    · exact kept_acknowledged hD _ s
    · exact .refl s
  · split
    · exact .refl s
    · exact kept_staleReport hD s

theorem kept_fetchEnds (why : DeckReason) (s : State) : Kept D s (fetchEnds d why s) :=
  ((kept_clearOutstanding hD s).trans (kept_toNoDisc hD _ _)).trans (kept_sendWaiting hD _ _)

theorem kept_stowed (byUnload : Bool) (s : State) : Kept D s (stowed d byUnload s) :=
  (((kept_clearOutstanding hD s).trans (.link _ hD _ rfl)).trans (kept_toNoDisc hD _ _)).trans (kept_sendWaiting hD _ _)

theorem kept_unpark (s : State) : Kept D s (unpark d s) := by
  unfold unpark
  split
  · exact (Kept.link s hD _ rfl).trans (.notice _ _ _ rfl)
  · exact .refl s

theorem kept_parkComplete (p : Purpose) (s : State) : Kept D s (parkComplete d p s) := by
  have h := kept_clearOutstanding hD s
  unfold parkComplete
  dsimp only
  split
  · exact ((h.trans (kept_toNoDisc hD _ _)).trans (kept_sendWaiting hD _ _)).trans (kept_parkDone hD _)
  · have h' := (h.trans (.link _ hD (fun l => { l with state := .parked }) rfl)).trans (kept_sendWaiting hD true _)
    split
    · exact h'
    · exact h'.trans (kept_unpark hD _)

theorem kept_ackExpired (s : State) : Kept D s (ackExpired d s) := by
  unfold ackExpired
  split
  · exact .refl s
  · split
    · exact .refl s
    · split
      · exact .link s hD _ rfl
      · exact kept_enterFault hD _ s

theorem kept_completionExpired (s : State) : Kept D s (completionExpired d s) := by
  unfold completionExpired
  split
  · exact .refl s
  · split
    · exact .refl s
    · split
      · exact kept_enterFault hD _ s
      · exact kept_seekMissed hD s

theorem kept_gapExpired (s : State) : Kept D s (gapExpired d s) := by
  unfold gapExpired
  dsimp only
  split
  · exact kept_slipped hD _ s
  · exact .refl s

theorem kept_declinedReport (tag : Tag) (reason : Nat) (s : State) : Kept D s (declinedReport d tag reason s) := by
  unfold declinedReport
  split
  · exact kept_staleReport hD s
  · dsimp only
    refine Kept.trans (.link s hD (fun l => { l with decline := some reason, declines := bump 1 l.declines }) rfl) ?_
    split
    · exact kept_seekMissed hD _
    · exact (kept_clearOutstanding hD _).trans ((planned_onStallDeclined d _).kept hD)
    · exact (kept_clearOutstanding hD _).trans ((planned_onProceedDeclined d _).kept hD)
    · exact kept_fetchEnds hD _ _
    · exact kept_stowed hD _ _
    · exact kept_enterFault hD _ _
    · exact kept_enterFault hD _ _
    · exact kept_ackExpired hD _

theorem kept_landedReport (tag : Tag) (a : Nat) (s : State) : Kept D s (landedReport d tag a s) := by
  unfold landedReport
  dsimp only
  split
  · split
    · exact kept_land hD _ s
    · exact kept_staleReport hD s
  · split
    · exact .link s hD _ rfl
    · exact kept_staleReport hD s

theorem kept_seekMissReport (tag : Tag) (s : State) : Kept D s (seekMissReport d tag s) := by
  unfold seekMissReport
  split
  · split
    · exact kept_seekMissed hD s
    · exact kept_staleReport hD s
  · exact kept_staleReport hD s

theorem kept_trackSlipReport (tag : Tag) (a : Nat) (s : State) : Kept D s (trackSlipReport d tag a s) := by
  unfold trackSlipReport
  dsimp only
  split
  · split
    · exact kept_seekMissed hD s
    · exact kept_slipped hD _ s
    · split
      · exact kept_slipped hD _ s
      · exact .refl s
    · exact kept_staleReport hD s
  · exact kept_staleReport hD s

theorem kept_discInReport (tag : Tag) (s : State) : Kept D s (discInReport d tag s) := by
  unfold discInReport
  split
  · split
    · exact (((kept_clearOutstanding hD s).trans (.link _ hD _ rfl)).trans (kept_placeWaiting hD _ _)).trans (kept_sendWaiting hD _ _)
    · exact kept_staleReport hD s
  · exact kept_staleReport hD s

theorem kept_slotEmptyReport (tag : Tag) (s : State) : Kept D s (slotEmptyReport d tag s) := by
  unfold slotEmptyReport
  split
  · split
    · exact (Kept.link s hD _ rfl).trans (kept_fetchEnds hD _ _)
    · exact kept_staleReport hD s
  · exact kept_staleReport hD s

theorem kept_indexReport (tag : Tag) (count : Byte) (leadOut : BitVec 24) (entries : List TrackField) (ragged : Bool) (s : State) :
    Kept D s (indexReport d tag count leadOut entries ragged s) := by
  unfold indexReport
  split
  · split
    · dsimp only
      split
      · exact ((((kept_clearOutstanding hD s).trans (.link _ hD _ rfl)).trans (.notice _ _ _ rfl)).trans
          (kept_sendWaiting hD _ _)).trans (kept_searchResume hD _)
      · exact ((kept_clearOutstanding hD s).trans (kept_toNoDisc hD _ _)).trans (kept_sendWaiting hD _ _)
    · exact kept_staleReport hD s
  · exact kept_staleReport hD s

theorem kept_stowedReport (tag : Tag) (s : State) : Kept D s (stowedReport d tag s) := by
  unfold stowedReport
  split
  · split
    · exact kept_stowed hD _ s
    · exact kept_staleReport hD s
  · exact kept_staleReport hD s

theorem kept_parkedReport (tag : Tag) (s : State) : Kept D s (parkedReport d tag s) := by
  unfold parkedReport
  split
  · split
    · exact kept_parkComplete hD _ s
    · exact kept_staleReport hD s
  · exact kept_staleReport hD s

theorem kept_deckTroubleReport (code : Nat) (s : State) : Kept D s (deckTroubleReport d code s) := by
  unfold deckTroubleReport
  split
  · exact .refl s
  · exact (Kept.link s hD _ rfl).trans (kept_enterFault hD _ _)

theorem kept_deliver (tag : Tag) (v : DeliveryArgs) (s : State) : Kept D s (deliver d tag v s) := by
  have h : Kept D s (deliveryOnLink d tag s) := by
    unfold deliveryOnLink
    dsimp only
    split
    · split
      · exact kept_land hD _ s
      · exact .link s hD _ rfl
      · exact .refl s
    · exact .refl s
  unfold deliver
  split
  · exact h.trans (kept_intakeOp hD tag v _)
  · exact .refl s

/-! ## Standby's work on a deck (R204, R206) -/

theorem kept_standbyPark (s : State) : Kept D s (standbyPark d s) := by
  unfold standbyPark
  split
  · exact kept_request hD _ s
  · exact .refl s

theorem kept_discSuspect (s : State) : Kept D s (discSuspect d s) := by
  unfold discSuspect
  dsimp only
  split
  · exact (kept_toNoDisc hD _ s).trans (kept_announce d _)
  · split
    · split
      · exact (Kept.link s hD _ rfl).trans (kept_discardDisc hD _)
      · exact .refl s
    · exact .refl s
  · exact .refl s

end decks

/-- The two records of standby entry, in the order of a free value (R204, log entry 11). -/
theorem kept_standbyRecords (s : State) : Kept D s (standbyRecords s) := by
  unfold standbyRecords
  dsimp only
  split
  · split
    · exact (Kept.drawn s _).trans ((kept_consumeNote .two _ _ _).trans (kept_consumeNote .one _ _ _))
    · exact (Kept.drawn s _).trans ((kept_consumeNote .one _ _ _).trans (kept_consumeNote .two _ _ _))
  · exact kept_consumeNote _ _ _ s
  · exact kept_consumeNote _ _ _ s
  · exact .refl s

/-! ## The frame event (R137) -/

theorem kept_markTest (z : ZoneId) (a : Nat) (s : State) : Kept D s (markTest z a s) := by
  unfold markTest
  split
  · exact (Kept.onZone s z _ ⟨rfl, rfl, id, id⟩).trans (.notice _ _ _ rfl)
  · exact .refl s

theorem zoneKept_levelTaken (n : Zone) : ZoneKept n n.levelTaken := by
  unfold Zone.levelTaken
  split
  · next l hl =>
    refine ⟨rfl, rfl, ?_, id⟩
    rintro ⟨h1, h2, h3, h4, h5⟩
    exact ⟨h1, h2, h4 l hl, by simp, h5⟩
  · exact .refl n

theorem zoneKept_took (q : SlotRecord) (n : Zone) (hs : n.state ≠ .stopped) : ZoneKept n (n.took q) := by
  have h : ∀ m : Zone, m.state = n.state → m.source = n.source → m.set = n.set → (ZoneForm n → ZoneForm m) → ZoneKept n m.levelTaken :=
    fun m h1 h2 h3 h4 => (ZoneKept.active (by rw [h1]; exact hs) h2 h3 h4).trans (zoneKept_levelTaken m)
  unfold Zone.took
  dsimp only
  apply h
  all_goals split
  all_goals try rfl
  all_goals exact id

/-- The zones' part of a take: the zone itself, its notices, and its mirror (R115, R128, R131). -/
def zonesTook (z : ZoneId) (q : SlotRecord) (s : State) : State :=
  let s₁ := onZone z (Zone.took q) s
  let s₂ := if q.seg != (s.zone z).tag then
      (s₁.zone z).range.elim s₁ fun r => raiseNotice (.zone z) (.cueTaken r.first) s₁
    else s₁
  if z = .one ∧ mirroring s₂ = true then
    together (markTest .one q.addr) (markTest .two q.addr) (onZone .two Zone.levelTaken s₂)
  else markTest z q.addr s₂

theorem takeRecord_eq (z : ZoneId) (d : Deck) (q : SlotRecord) (s : State) :
    takeRecord z d q s = onLow d (reportGoodDepth d
      (plannerTaken d ⟨q.addr, q.seg⟩ (s.deck d) (onRing d (fun r => r.taken q) (zonesTook z q s)))) := by
  unfold takeRecord zonesTook
  dsimp only
  cases hc : q.seg != (s.zone z).tag <;> cases hr : ((onZone z (Zone.took q) s).zone z).range <;> rfl

theorem kept_zonesTook (z : ZoneId) (q : SlotRecord) (s : State) (hs : (s.zone z).state ≠ .stopped) : Kept D s (zonesTook z q s) := by
  have h₁ : Kept D s (onZone z (Zone.took q) s) := .onZone s z _ (zoneKept_took q _ hs)
  unfold zonesTook
  dsimp only
  generalize hw : (if (q.seg != (s.zone z).tag) = true then _ else _) = w
  have h₂ : Kept D s w := by
    subst hw
    split
    · cases ((onZone z (Zone.took q) s).zone z).range with
      | none => exact h₁
      | some r => exact h₁.trans (.notice _ _ _ rfl)
    · exact h₁
  split
  · exact (h₂.trans (.onZone w .two _ (zoneKept_levelTaken _))).trans (.together (kept_markTest _ _ _) (kept_markTest _ _ _))
  · exact h₂.trans (kept_markTest _ _ _)

/-- A record taken by a zone (R69, R115). -/
theorem kept_takeRecord (z : ZoneId) {d : Deck} (hD : D d) (q : SlotRecord) (s : State) (hs : (s.zone z).state ≠ .stopped)
    {rest : List SlotRecord} (hq : (s.deck d).ring.records = q :: rest) : Kept D s (takeRecord z d q s) := by
  have hdeck : (zonesTook z q s).deck d = s.deck d := (kept_zonesTook (D := fun _ => False) z q s hs).toFramed.decks d
  rw [takeRecord_eq]
  exact (((kept_zonesTook z q s hs).trans (kept_plannerTaken hD _ (by rw [hdeck]; exact hq) _)).trans (kept_reportGoodDepth d _)).trans
    ((planned_onLow d _).kept hD)

/-- A zone starves (R116). -/
theorem kept_starve (z : ZoneId) (s : State) (hD : Plays D z s) (hs : (s.zone z).state ≠ .stopped) : Kept D s (starve z s) := by
  unfold starve
  dsimp only
  split
  · exact .refl s
  · generalize hw : onZone z _ s = w
    have h : Kept D s w := hw ▸ .onZone s z _ (.active hs rfl rfl id)
    exact h.trans (kept_raised z _ (h.toFramed.plays hD))

theorem kept_askEdge (z : ZoneId) (d : Deck) (s : State) (hz : Plays D z s) (hd : D d) (hs : (s.zone z).state ≠ .stopped) :
    Kept D s (askEdge z d s) := by
  unfold askEdge
  split
  · exact kept_starve z s hz hs
  · next q hq =>
    split
    · obtain ⟨rest, hrest⟩ := List.head?_eq_some_iff.1 hq
      exact kept_takeRecord z hd q s hs hrest
    · exact kept_starve z s hz hs

/-- A zone's block in hand is given up at a boundary (R114). -/
theorem kept_blockDone (z : ZoneId) (s : State) :
    Kept D s (onZone z (fun n => { n with block := none, runLeft := none, runRight := none }) s) := by
  refine .onZone s z _ ⟨rfl, rfl, id, fun h hs => ?_⟩
  obtain ⟨-, -, -, h4, h5, h6, h7, h8⟩ := h hs
  exact ⟨rfl, rfl, rfl, h4, h5, h6, h7, h8⟩

theorem kept_settleBlock (z : ZoneId) (s : State) (hD : Plays D z s) : Kept D s (settleBlock z s) := by
  unfold settleBlock
  split
  · exact .refl s
  · next d hd =>
    split
    · have h := kept_blockDone (D := D) z s
      dsimp only
      generalize onZone z (fun n => { n with block := none, runLeft := none, runRight := none }) s = w at h
      have hp := h.toFramed.plays hD
      have hactive : (w.zone z).state ≠ .stopped → Kept D s
          (if (w.zone z).endTaken = true ∧ (w.zone z).cue = none then
            if ((w.zone z).causes.stop || (w.zone z).causes.switch) = true then w else stopRequest z .rangeEnd false w
          else if (w.zone z).causes.starve = true then w else askEdge z d w) := by
        intro hs
        split
        · split
          · exact h
          · exact h.trans (kept_stopRequest _ _ _ _ hp)
        · split
          · exact h
          · exact h.trans (kept_askEdge z d w hp (hD d hd) hs)
      cases hst : (w.zone z).state with
      | stopped => exact h
      | priming => exact h
      | paused => exact h
      | playing => exact hactive (by rw [hst]; simp)
      | starved => exact hactive (by rw [hst]; simp)
    · exact .refl s

theorem kept_concealTests (z : ZoneId) (long clean : Bool) (s : State) (hD : Plays D z s) (hs : (s.zone z).state ≠ .stopped) :
    Kept D s (concealTests z long clean s) := by
  have hcount : ∀ w : State, Kept D w (follow z (onZone z (fun n => n.counted clean) w)) := fun w => by
    refine Kept.trans (.onZone w z _ ?_) (kept_follow z _)
    unfold Zone.counted
    split
    · next hc =>
      have hrest : ∀ m : Zone, RestOk (w.zone z) → m.state = (w.zone z).state → m.state = .stopped → False := by
        intro m hr hm hst
        have := (hr (hm ▸ hst)).2.2.2.2.2.1
        rw [this] at hc; cases hc
      split
      · split
        · exact ⟨rfl, rfl, id, fun hr hst => (hrest _ hr rfl hst).elim⟩
        · exact ⟨rfl, rfl, id, fun hr hst => (hrest _ hr rfl hst).elim⟩
      · exact ⟨rfl, rfl, id, fun hr hst => (hrest _ hr rfl hst).elim⟩
    · exact .refl _
  unfold concealTests
  dsimp only
  refine Kept.trans ?_ (hcount _)
  split
  · generalize hw : onZone z _ s = w
    have h : Kept D s w := hw ▸ .onZone s z _ (.active hs rfl rfl id)
    split
    · exact h
    · exact h.trans (kept_raised z _ (h.toFramed.plays hD))
  · exact .refl s

theorem kept_preGain (z : ZoneId) (s : State) (hD : Plays D z s) : Kept D s (preGain z s) := by
  unfold preGain
  dsimp only
  split
  · refine .onZone s z _ ⟨rfl, rfl, id, fun h hs => ?_⟩
    obtain ⟨h1, h2, h3, -, h5, h6, h7, h8⟩ := h hs
    exact ⟨h1, h2, h3, rfl, h5, h6, h7, h8⟩
  · next hs =>
    have hgo : ∀ (f : Zone → Zone) (long clean : Bool), (f (s.zone z)).state = (s.zone z).state →
        ZoneKept (s.zone z) (f (s.zone z)) → Kept D s (concealTests z long clean (onZone z f s)) := by
      intro f long clean hst hk
      have h : Kept D s (onZone z f s) := .onZone s z f hk
      exact h.trans (kept_concealTests z long clean _ (h.toFramed.plays hD) (by rw [onZone_same, hst]; exact hs))
    split
    · exact hgo _ _ _ rfl (.active hs rfl rfl id)
    · exact hgo _ _ _ rfl (.active hs rfl rfl id)

theorem kept_findPreGain (z : ZoneId) (s : State) (hD : Plays D z s) : Kept D s (findPreGain z s) := by
  unfold findPreGain
  split
  · exact .onZone s .two _ ⟨rfl, rfl, id, id⟩
  · exact kept_preGain z s hD

/-- The ramp stays in its range (R147). -/
theorem zoneKept_ramped (n : Zone) : ZoneKept n n.ramped := by
  by_cases hs : n.state = .stopped
  · unfold Zone.ramped; rw [if_pos hs]; exact .refl n
  · have htarget : n.rampTarget ≤ 32768 := by
      unfold Zone.rampTarget Config.unity
      split
      · exact Nat.zero_le _
      · split <;> omega
    have hmove : ∀ k, n.ramp ≤ 32768 → moveToward n.ramp n.rampTarget k ≤ 32768 := by
      intro k hr
      unfold moveToward
      split <;> omega
    unfold Zone.ramped
    rw [if_neg hs]
    split
    · refine .active hs rfl rfl ?_
      rintro ⟨h1, -, h3⟩; exact ⟨h1, Nat.zero_le _, h3⟩
    · split
      · refine .active hs rfl rfl ?_
        rintro ⟨h1, -, h3⟩; exact ⟨hmove _ h1, Nat.zero_le _, h3⟩
      · split
        · next hlt =>
          refine .active hs rfl rfl ?_
          rintro ⟨h1, -, h3⟩
          refine ⟨h1, ?_, h3⟩
          obtain ⟨-, -, -, -, -, -, hp, -⟩ := h3
          dsimp only; omega
        · refine .active hs rfl rfl ?_
          rintro ⟨h1, -, h3⟩; exact ⟨hmove _ h1, Nat.zero_le _, h3⟩

theorem kept_rampZone (z : ZoneId) (s : State) (hD : Plays D z s) : Kept D s (rampZone z s) := by
  have h : Kept D s (onZone z Zone.ramped s) := .onZone s z _ (zoneKept_ramped _)
  unfold rampZone
  dsimp only
  split
  · exact h.trans (kept_reachZero z _ (h.toFramed.plays hD))
  · exact h

theorem zoneKept_emit (n : Zone) : ZoneKept n n.emit := by
  refine ⟨rfl, rfl, ?_, id⟩
  rintro ⟨h1, h2, h3, h4, -, h6⟩
  exact ⟨h1, h2, h3, h4, Nat.mod_lt _ (by decide), h6⟩

end Sys2Proof.Proofs
end


section
/-!
PROOFS. What the rows keep that also change the Shock Monitor, the Standby Controller or the frame event's stage (R137, R156 to R161, R204
to R207): `Walked`, which is `Kept` with those three set free but for their settings.
-/

namespace Sys2Proof.Proofs

open Sys2Proof.Machine

variable {D : Deck → Prop} {s t w : State}

/-! ## `Kept` with the Shock Monitor, standby and the stage set free -/

/-- A state with the reset pin, the Shock Monitor, standby, the stage and the waiting commands of another. -/
def withPart (p s : State) : State :=
  { s with resetPin := p.resetPin, shock := p.shock, standby := p.standby, stage := p.stage, pending := p.pending }

@[simp] theorem withPart_deck (p s : State) (d : Deck) : (withPart p s).deck d = s.deck d := by cases d <;> rfl
@[simp] theorem withPart_zone (p s : State) (z : ZoneId) : (withPart p s).zone z = s.zone z := by cases z <;> rfl

/-- What is kept does not look at the parts set free. -/
theorem Kept.moved (h : Kept D s t) (p : State) : Kept D (withPart p s) (withPart p t) where
  part := by simp [SamePart, withPart]
  port := h.port
  queue := h.queue
  tray := h.tray
  table := h.table
  zone z := by simpa using h.zone z
  deck d := by simpa using h.deck d
  other d hd := by simpa using h.other d hd
  rings d := by simpa using h.rings d

/-- What a row keeps that is no setting of its own. -/
structure Walked (D : Deck → Prop) (s t : State) : Prop where
  kept    : Kept D (withPart t s) t
  pin     : t.resetPin = s.resetPin
  pending : t.pending = s.pending
  shock   : settingsOfShock t.shock = settingsOfShock s.shock
  form    : ShockForm s.shock → ShockForm t.shock
  wake    : t.standby.wakeOnTray = s.standby.wakeOnTray ∧ t.standby.wakePeriod = s.standby.wakePeriod

theorem Kept.walked (h : Kept D s t) : Walked D s t := by
  obtain ⟨h1, h2, h3, h4, h5⟩ := h.part
  refine ⟨?_, h1, h5, by rw [h2], fun hf => by rw [h2]; exact hf, by rw [h3]; exact ⟨rfl, rfl⟩⟩
  have hs : withPart t s = s := by unfold withPart; rw [h1, h2, h3, h4, h5]
  rw [hs]; exact h

theorem Walked.refl (s : State) : Walked D s s := (Kept.refl s).walked

theorem Walked.trans (h : Walked D s t) (g : Walked D t w) : Walked D s w where
  kept := (h.kept.moved w).trans g.kept
  pin := g.pin.trans h.pin
  pending := g.pending.trans h.pending
  shock := g.shock.trans h.shock
  form := g.form ∘ h.form
  wake := ⟨g.wake.1.trans h.wake.1, g.wake.2.trans h.wake.2⟩

theorem Walked.ite {c : Prop} [Decidable c] (h : Walked D s t) (g : Walked D s w) : Walked D s (if c then t else w) := by
  split
  · exact h
  · exact g

section fields
variable (h : Walked D s t)
include h

theorem Walked.zone (z : ZoneId) : ZoneKept (s.zone z) (t.zone z) := by simpa using h.kept.zone z
theorem Walked.deck (d : Deck) : DeckKept (s.deck d) (t.deck d) := by simpa using h.kept.deck d
theorem Walked.rings (d : Deck) : RingKept (s.deck d) (t.deck d) := by simpa using h.kept.rings d
theorem Walked.other (d : Deck) (hd : ¬ D d) : t.deck d = s.deck d := by simpa using h.kept.other d hd
theorem Walked.plays {z : ZoneId} (hz : Plays D z s) : Plays D z t := by
  intro d hd
  unfold Zone.deck? at hd
  rw [(h.zone z).source] at hd
  exact hz d hd

end fields

/-- A change of the Shock Monitor that keeps its settings (R156 to R161). -/
theorem Walked.shockOnly (s : State) (m : Shock) (hset : settingsOfShock m = settingsOfShock s.shock)
    (hform : ShockForm s.shock → ShockForm m) : Walked D s { s with shock := m } :=
  ⟨Kept.refl _, rfl, rfl, hset, hform, rfl, rfl⟩

/-- A change of standby that keeps its settings (R203 to R207). -/
theorem Walked.standbyOnly (s : State) (b : Standby)
    (hset : b.wakeOnTray = s.standby.wakeOnTray ∧ b.wakePeriod = s.standby.wakePeriod) : Walked D s { s with standby := b } :=
  ⟨Kept.refl _, rfl, rfl, rfl, id, hset⟩

theorem Walked.stageOnly (s : State) (g : FrameStage) : Walked D s { s with stage := g } := ⟨Kept.refl _, rfl, rfl, rfl, id, rfl, rfl⟩

/-! ## The Shock Monitor (R156 to R161) -/

/-- Every deck may be touched. -/
def anyDeck (_ : Deck) : Prop := True

theorem plays_any (z : ZoneId) (s : State) : Plays anyDeck z s := fun _ _ => trivial

theorem kept_decisions (s : State) : Kept anyDeck s (together (decisionPoint .a) (decisionPoint .b) s) :=
  .together ((planned_decisionPoint .a s).kept trivial) ((planned_decisionPoint .b _).kept trivial)

theorem walked_closeGuard (s : State) : Walked anyDeck s (closeGuard s) := by
  unfold closeGuard
  split
  · refine (Walked.shockOnly s { s.shock with guard := none } rfl ?_).trans (kept_decisions _).walked
    rintro ⟨h1, h2, h3, h4, h5, h6⟩
    exact ⟨h1, h2, h3, h4, h5, fun he => ⟨rfl, (h6 he).2⟩⟩
  · exact .refl s

/-- While the Shock Monitor converts it is enabled, so that a conversion may set its flag and open its guard (R156 to R159). -/
theorem shockForm_converted {h : Shock} (hc : h.converting = true) (last peak : Nat) (flag : Bool) (guard : Option Nat)
    (hf : ShockForm h) : ShockForm { h with last := last, peak := peak, flag := flag, guard := guard } := by
  obtain ⟨h1, h2, h3, h4, h5, h6⟩ := hf
  exact ⟨h1, h2, h3, h4, h5, fun he => by rw [(h6 he).2.2] at hc; cases hc⟩

/-- A conversion's change of the Shock Monitor (R156 to R159). -/
def convertedShock (v : Nat) (h : Shock) : Shock :=
  let m := magnitude v h.centre
  { h with
    last := m, peak := max h.peak m, flag := h.flagAfter m
    guard := if h.ton ≤ m then (if !h.guard.isSome && h.guardTime == 0 then none else some h.guardTime) else h.guard }

theorem walked_converted (v : Nat) (s : State) : Walked D s (converted v s) := by
  have h : s.shock.converting = true → Walked D s { s with shock := convertedShock v s.shock } := fun hc =>
    .shockOnly s _ rfl (shockForm_converted hc _ _ _ _)
  unfold converted
  dsimp only
  split
  · next hc =>
    split
    · exact (h hc).trans (Kept.notice _ .part (.shock _) rfl).walked
    · exact h hc
  · exact .refl s

/-! ## Standby (R204 to R207) -/

/-- A change of the Tray Supervisor's sides and debouncing (R204, R207). -/
theorem kept_traySides (s : State) (b : Bool) (x y : TraySide) :
    Kept D s { s with tray := { s.tray with debouncing := b, sideA := x, sideB := y } } :=
  .onTray s (fun t => { t with debouncing := b, sideA := x, sideB := y }) rfl id

theorem walked_enterStandby (s : State) : Walked anyDeck s (enterStandby s) := by
  unfold enterStandby
  dsimp only
  have h₁ : Kept anyDeck s (together (standbyPark .a) (standbyPark .b)
      (flush .b (flush .a (cancelJob .b (cancelJob .a (standbyRecords s)))))) :=
    .trans (.trans (.trans (.trans (.trans (kept_standbyRecords s) (kept_cancelJob trivial _)) (kept_cancelJob trivial _))
      (kept_flush trivial _)) (kept_flush trivial _)) (.together (kept_standbyPark trivial _) (kept_standbyPark trivial _))
  generalize together (standbyPark .a) (standbyPark .b) (flush .b (flush .a (cancelJob .b (cancelJob .a (standbyRecords s))))) = u at h₁
  have h₂ : Walked anyDeck u (closeGuard { u with shock := { u.shock with converting := false } }) := by
    refine Walked.trans (.shockOnly u { u.shock with converting := false } rfl ?_) (walked_closeGuard _)
    rintro ⟨h1, h2, h3, h4, h5, h6⟩
    exact ⟨h1, h2, h3, h4, h5, fun he => ⟨(h6 he).1, (h6 he).2.1, rfl⟩⟩
  generalize closeGuard { u with shock := { u.shock with converting := false } } = v at h₂
  refine (h₁.walked.trans h₂).trans ((kept_traySides v false { v.tray.sideA with timer := none }
    { v.tray.sideB with timer := none }).walked.trans ?_)
  exact .standbyOnly _ _ ⟨rfl, rfl⟩

theorem walked_finishEntry (s : State) : Walked anyDeck s (finishEntry s) := by
  unfold finishEntry
  split
  · exact walked_enterStandby s
  · exact .refl s

theorem enterStandby_phase (s : State) : (enterStandby s).standby.phase = .standby := rfl

/-- Standby entry does not wait for zones that have stopped (R204). -/
theorem finishEntry_entryForm (s : State) : EntryForm (finishEntry s) := by
  unfold finishEntry EntryForm
  split
  · rw [enterStandby_phase]; simp
  · next h =>
    intro hp
    simp only [entryDue, hp, beq_self_eq_true, Bool.true_and, Bool.and_eq_true, beq_iff_eq] at h
    exact Classical.not_and_iff_not_or_not.1 h

theorem walked_setRecorded (d : Deck) (l : Option Level) (s : State) : Walked D s (setRecorded d l s) := by
  cases d <;> exact .standbyOnly s _ ⟨rfl, rfl⟩

theorem walked_beginStandby (s : State) : Walked anyDeck s (beginStandby s) := by
  unfold beginStandby
  refine Walked.trans (.trans (.standbyOnly s { s.standby with phase := .entering } ⟨rfl, rfl⟩) (Kept.walked ?_)) (walked_finishEntry _)
  exact .together (kept_stopRequest _ _ _ _ (plays_any _ _)) (kept_stopRequest _ _ _ _ (plays_any _ _))

theorem walked_sampleDeck (d : Deck) (s : State) : Walked anyDeck s (sampleDeck d s) := by
  unfold sampleDeck
  split
  · exact (walked_setRecorded d _ s).trans ((Kept.notice _ _ _ rfl).walked.trans (kept_discSuspect trivial _).walked)
  · exact .refl s

/-- Both parts are walked, in either order of their notices (log entry 10). -/
theorem Walked.together {f g : State → State} (hf : Walked D s (f s)) (hg : Walked D (f s) (g (f s))) : Walked D s (together f g s) := by
  have h := hf.trans hg
  have hperm := together_perm f g s
  obtain ⟨q, n, heq⟩ := together_eq f g s
  rw [heq] at hperm ⊢
  have hd : ∀ d : Deck, (State.deck { g (f s) with port := { (g (f s)).port with queue := q }, drawn := n } d) = (g (f s)).deck d :=
    fun d => by cases d <;> rfl
  have hz : ∀ z : ZoneId, (State.zone { g (f s) with port := { (g (f s)).port with queue := q }, drawn := n } z) = (g (f s)).zone z :=
    fun z => by cases z <;> rfl
  exact
    { pin := h.pin, pending := h.pending, shock := h.shock, form := h.form, wake := h.wake
      kept :=
        { part := by simp [SamePart, withPart]
          port := h.kept.port
          queue := fun hq => queueForm_of_perm hperm (h.kept.queue hq)
          tray := h.kept.tray
          table := h.kept.table
          zone := fun z => by rw [hz, withPart_zone]; exact h.zone z
          deck := fun d => by rw [hd, withPart_deck]; exact h.deck d
          other := fun d hdd => by rw [hd, withPart_deck]; exact h.other d hdd
          rings := fun d => by rw [hd, withPart_deck]; exact h.rings d } }

theorem walked_leaveStandby (s : State) : Walked anyDeck s (leaveStandby s) := by
  unfold leaveStandby
  dsimp only
  have h₁ : Walked anyDeck s (Machine.together (sampleDeck .a) (sampleDeck .b)
      { s with standby := { s.standby with wakeTimer := none } }) :=
    (Walked.standbyOnly s { s.standby with wakeTimer := none } ⟨rfl, rfl⟩).trans (.together (walked_sampleDeck _ _) (walked_sampleDeck _ _))
  generalize Machine.together (sampleDeck .a) (sampleDeck .b) { s with standby := { s.standby with wakeTimer := none } } = u at h₁
  have h₂ : Walked anyDeck u (Machine.together (unpark .a) (unpark .b)
      { u with standby := { u.standby with recordedA := none, recordedB := none } }) :=
    (Walked.standbyOnly u { u.standby with recordedA := none, recordedB := none } ⟨rfl, rfl⟩).trans (Kept.together (kept_unpark trivial _) (kept_unpark trivial _)).walked
  generalize Machine.together (unpark .a) (unpark .b) { u with standby := { u.standby with recordedA := none, recordedB := none } } = v at h₂
  refine (h₁.trans h₂).trans ((Walked.shockOnly v { v.shock with converting := v.shock.enable } rfl ?_).trans
    ((kept_traySides _ true v.tray.sideA.adopt v.tray.sideB.adopt).walked.trans (.standbyOnly _ _ ⟨rfl, rfl⟩)))
  rintro ⟨h1, h2, h3, h4, h5, h6⟩
  exact ⟨h1, h2, h3, h4, h5, fun he => ⟨(h6 he).1, (h6 he).2.1, he⟩⟩

theorem walked_wakeExpired (s : State) : Walked anyDeck s (wakeExpired s) := by
  unfold wakeExpired
  dsimp only
  split
  · have h : Walked anyDeck s (Machine.together (sampleDeck .a) (sampleDeck .b) s) :=
      .together (walked_sampleDeck _ _) (walked_sampleDeck _ _)
    generalize Machine.together (sampleDeck .a) (sampleDeck .b) s = u at h
    have h' : Walked anyDeck s { u with standby := { u.standby with wakeTimer := some u.standby.wakePeriod } } :=
      h.trans (.standbyOnly u { u.standby with wakeTimer := some u.standby.wakePeriod } ⟨rfl, rfl⟩)
    split
    · exact h'.trans (walked_leaveStandby _)
    · exact h'
  · exact .refl s

/-! ## The frame event (R137) -/

theorem walked_toSettled (s : State) : Walked anyDeck s (toSettled s) := by
  unfold toSettled
  split
  · refine Walked.trans (Kept.walked (.together (kept_settleBlock .one _ (plays_any _ _)) (kept_settleBlock .two _ (plays_any _ _)))) ?_
    exact .stageOnly _ _
  all_goals exact .refl s

theorem walked_toConcealed (s : State) : Walked anyDeck s (toConcealed s) := by
  have h := walked_toSettled s
  unfold toConcealed
  dsimp only
  split
  any_goals
    refine h.trans (.trans (Kept.walked (.together (kept_findPreGain .one _ (plays_any _ _)) (kept_findPreGain .two _ (plays_any _ _)))) ?_)
    exact .stageOnly _ _
  all_goals exact h

theorem walked_toRamped (s : State) : Walked anyDeck s (toRamped s) := by
  have h := walked_toConcealed s
  unfold toRamped
  dsimp only
  split
  any_goals
    refine h.trans (.trans (Kept.walked (.together (kept_rampZone .one _ (plays_any _ _)) (kept_rampZone .two _ (plays_any _ _)))) ?_)
    exact .stageOnly _ _
  all_goals exact h

theorem walked_frame (s : State) : Walked anyDeck s (frame s) := by
  unfold frame
  refine (walked_toRamped s).trans (.trans (Kept.walked (.trans (.onZone _ .one _ (zoneKept_emit _)) (.onZone _ .two _ (zoneKept_emit _)))) ?_)
  exact .stageOnly _ _

end Sys2Proof.Proofs
end


section
/-!
PROOFS. What every host command keeps: the forms of the queue, the table, the pool, the zones and the rings (R27 to R36, R61, R120 to
R134, R162 to R165, R180 to R183, R193 to R205).
-/

namespace Sys2Proof.Proofs

open Sys2Proof.Machine

variable {s t w : State}

/-! ## What every row keeps -/

/-- Every form is kept but the Slot Pool's and the Message Port's. -/
structure RowForms (s t : State) : Prop where
  queue   : QueueForm s.port.queue → QueueForm t.port.queue
  table   : TableForm s.tray.table → TableForm t.tray.table
  zone    : ∀ z, ZoneForm (s.zone z) → ZoneForm (t.zone z)
  rest    : ∀ z, RestOk (s.zone z) → RestOk (t.zone z)
  sources : SourcesForm s → ThresholdForm s → SourcesForm t ∧ ThresholdForm t
  shock   : ShockForm s.shock → ShockForm t.shock
  entry   : EntryForm s → EntryForm t
  rings   : ∀ d, RingKept (s.deck d) (t.deck d)
  pending : t.pending = s.pending

/-- A row keeps every form but the Message Port's. -/
structure RowKept (s t : State) : Prop extends RowForms s t where
  pool : PoolForm s → PoolForm t

theorem RowKept.refl (s : State) : RowKept s s :=
  ⟨⟨id, id, fun _ => id, fun _ => id, fun h g => ⟨h, g⟩, id, id, fun _ => .refl _, rfl⟩, id⟩

theorem RowForms.trans (h : RowForms s t) (g : RowForms t w) : RowForms s w where
  queue := g.queue ∘ h.queue
  table := g.table ∘ h.table
  zone z := g.zone z ∘ h.zone z
  rest z := g.rest z ∘ h.rest z
  sources hs ht := g.sources (h.sources hs ht).1 (h.sources hs ht).2
  shock := g.shock ∘ h.shock
  entry := g.entry ∘ h.entry
  rings d := (h.rings d).trans (g.rings d)
  pending := g.pending.trans h.pending

theorem RowKept.trans (h : RowKept s t) (g : RowKept t w) : RowKept s w := ⟨h.toRowForms.trans g.toRowForms, g.pool ∘ h.pool⟩

/-- The ring's size form from what a deck keeps (R60, R63, R74). -/
theorem sized_of_kept {u v : DeckUnit} (h : DeckKept u v) (hu : u.ring.sized) : v.ring.sized := by
  obtain ⟨hmarks, hroom⟩ := hu
  have hset := h.settings
  simp only [settingsOfDeck, List.cons.injEq] at hset
  obtain ⟨hhigh, hlow, -⟩ := hset
  refine ⟨?_, h.room hroom⟩
  rw [h.cap, hhigh, hlow]; exact hmarks

section fields
variable {D : Deck → Prop} (h : Walked D s t)
include h

theorem Walked.pool (hp : PoolForm s) : PoolForm t := by
  obtain ⟨hsum, ha, hb⟩ := hp
  refine ⟨?_, sized_of_kept (h.deck .a) ha, sized_of_kept (h.deck .b) hb⟩
  rw [show t.deckA.ring.cap = s.deckA.ring.cap from (h.deck .a).cap, show t.deckB.ring.cap = s.deckB.ring.cap from (h.deck .b).cap]
  exact hsum

theorem Walked.sources (hs : SourcesForm s) (ht : ThresholdForm s) : SourcesForm t ∧ ThresholdForm t := by
  have h1 : t.zone1.source = s.zone1.source := (h.zone .one).source
  have h2 : t.zone2.source = s.zone2.source := (h.zone .two).source
  refine ⟨?_, fun z => ?_⟩
  · unfold SourcesForm; rw [h1, h2]; exact hs
  · have htop : thresholdTop (t.zone z).source t = thresholdTop (s.zone z).source s := by
      rw [(h.zone z).source]
      unfold thresholdTop
      split
      · exact (h.deck _).cap
      all_goals rfl
    rw [htop, (h.zone z).set]; exact ht z

/-- A walked row keeps the forms, where standby entry waits for no stopped zones (R204). -/
theorem Walked.row (he : EntryForm s → EntryForm t) : RowKept s t where
  queue := h.kept.queue
  table := h.kept.table
  pool := h.pool
  zone z := (h.zone z).form
  rest z := (h.zone z).rest
  sources := h.sources
  shock := h.form
  entry := he
  rings := h.rings
  pending := h.pending

end fields

/-- Operations of an awake part (R203). -/
theorem Kept.row_awake {D : Deck → Prop} (h : Kept D s t) (ha : s.standby.phase = .awake) : RowKept s t :=
  h.walked.row fun _ hp => by rw [h.part.2.2.1, ha] at hp; cases hp

/-- Operations of a part that change no zone's state. -/
theorem Kept.row_zones {D : Deck → Prop} (h : Kept D s t) (hz : ∀ z, (t.zone z).state = (s.zone z).state) : RowKept s t :=
  h.walked.row fun he hp => by
    have h1 : t.zone1.state = s.zone1.state := hz .one
    have h2 : t.zone2.state = s.zone2.state := hz .two
    rw [h1, h2]; exact he (by rw [← h.part.2.2.1]; exact hp)

/-- An event of the part, with standby entry completed where it is due (R204). -/
theorem Kept.row_event {D : Deck → Prop} (h : Kept D s t) : RowKept s (finishEntry t) :=
  (Kept.walked { h with other := fun _ hd => absurd trivial hd } |>.trans (walked_finishEntry t)).row
    fun _ => finishEntry_entryForm t

theorem Walked.row_event {D : Deck → Prop} (h : Walked D s t) : RowKept s (finishEntry t) := by
  refine Walked.row (D := anyDeck) (Walked.trans ?_ (walked_finishEntry t)) fun _ => finishEntry_entryForm t
  exact { h with kept := { h.kept with other := fun _ hd => absurd trivial hd } }

/-! ## SET_POOL (R61) -/

theorem clampTo_between {lo hi v : Nat} (h : lo ≤ hi) : lo ≤ clampTo lo hi v ∧ clampTo lo hi v ≤ hi := by
  unfold clampTo; omega

/-- The fields that SET_POOL does not touch. -/
theorem setCapacity_fixed (d : Deck) (c : Nat) (s : State) :
    SamePart s (setCapacity d c s) ∧ (setCapacity d c s).port = s.port ∧ (setCapacity d c s).tray = s.tray ∧
      (setCapacity d c s).drawn = s.drawn := by
  unfold setCapacity SamePart
  dsimp only
  split
  · simp
  · split <;> simp

/-- The deck's blocks with another capacity (R61, R74, R83). -/
def recapped (c : Nat) (u : DeckUnit) : DeckUnit :=
  if u.ring.cap = c then u else { u with ring := u.ring.withCapacity c, plan := u.plan.withCapacity c }

theorem setCapacity_deck (d : Deck) (c : Nat) (s : State) : (setCapacity d c s).deck d = recapped c (s.deck d) := by
  unfold setCapacity recapped
  dsimp only
  split
  · rfl
  · split <;> simp

theorem setCapacity_other (d : Deck) (c : Nat) (s : State) : (setCapacity d c s).deck (otherDeck d) = s.deck (otherDeck d) := by
  unfold setCapacity
  dsimp only
  split
  · rfl
  · split <;> simp

theorem setCapacity_zone (d : Deck) (c : Nat) (s : State) (z : ZoneId) :
    (setCapacity d c s).zone z =
      if (s.deck d).ring.cap ≠ c ∧ zoneOf d s = some z then (s.zone z).withCapacity c else s.zone z := by
  unfold setCapacity
  dsimp only
  have hz : zoneOf d (onPlan d (fun p => p.withCapacity c) (onRing d (fun r => r.withCapacity c) s)) = zoneOf d s := by
    unfold zoneOf; simp
  by_cases hc : (s.deck d).ring.cap = c
  · rw [if_pos hc, if_neg (by simp [hc])]
  · rw [if_neg hc, hz]
    cases hzo : zoneOf d s with
    | none => rw [if_neg (by simp)]; simp
    | some y =>
      dsimp only
      by_cases hy : y = z
      · subst hy; rw [if_pos ⟨hc, rfl⟩]; simp
      · have : z = otherZone y := by cases y <;> cases z <;> simp_all [otherZone]
        rw [if_neg (by simp [hy]), this]; simp

theorem recapped_cap (c : Nat) (u : DeckUnit) : (recapped c u).ring.cap = c := by
  unfold recapped
  split
  · assumption
  · rfl

theorem recapped_kept (c : Nat) (u : DeckUnit) : RingKept u (recapped c u) := by
  unfold recapped
  split
  · exact .refl u
  · exact .of_congr rfl rfl rfl rfl

/-- The marks of a capacity that changes are the defaults (R62, R74). -/
theorem recapped_sized {c : Nat} {u : DeckUnit} (hu : u.ring.sized) (hempty : u.ring.records = [])
    (hc : c = 0 ∨ 96 ≤ c ∧ c ≤ 1536 ∧ c % 32 = 0) : (recapped c u).ring.sized := by
  unfold recapped
  split
  · exact hu
  · refine ⟨?_, by simp [Ring.withCapacity, hempty]⟩
    rcases hc with rfl | ⟨h1, h2, h3⟩
    · exact .inl ⟨rfl, rfl, rfl⟩
    · refine .inr ⟨h1, h2, h3, ?_⟩
      simp only [Ring.withCapacity, defaultLow, defaultHigh]
      rw [if_neg (by omega)]
      omega

theorem source_withCapacity (n : Zone) (c : Nat) : (n.withCapacity c).source = n.source := rfl

/-- A zone's source after SET_POOL (R61). -/
theorem setCapacity_source (d : Deck) (c : Nat) (s : State) (z : ZoneId) : ((setCapacity d c s).zone z).source = (s.zone z).source := by
  rw [setCapacity_zone]
  split <;> rfl

theorem setCapacity_state (d : Deck) (c : Nat) (s : State) (z : ZoneId) : ((setCapacity d c s).zone z).state = (s.zone z).state := by
  rw [setCapacity_zone]
  split <;> rfl

theorem zoneOf_congr {s t : State} (h : ∀ z, (t.zone z).source = (s.zone z).source) (d : Deck) : zoneOf d t = zoneOf d s := by
  have h1 : t.zone1.source = s.zone1.source := h .one
  have h2 : t.zone2.source = s.zone2.source := h .two
  unfold zoneOf; rw [h1, h2]

theorem sourcesForm_congr {s t : State} (h : ∀ z, (t.zone z).source = (s.zone z).source) (hs : SourcesForm s) : SourcesForm t := by
  have h1 : t.zone1.source = s.zone1.source := h .one
  have h2 : t.zone2.source = s.zone2.source := h .two
  unfold SourcesForm; rw [h1, h2]; exact hs

/-- A ring's deck is the source of the one zone that `zoneOf` finds (R129). -/
theorem zoneOf_of_source {s : State} (hs : SourcesForm s) {z : ZoneId} {d : Deck} (h : (s.zone z).source = .deck d) : zoneOf d s = some z := by
  unfold zoneOf
  cases z with
  | one =>
    have h1 : s.zone1.source = .deck d := h
    rw [if_pos h1]
  | two =>
    have h2 : s.zone2.source = .deck d := h
    have hne : s.zone1.source ≠ .deck d := fun h1 => hs.2 d ⟨h1, h2⟩
    rw [if_neg hne, if_pos h2]

theorem entryForm_congr {s t : State} (hstandby : t.standby = s.standby) (hz : ∀ z, (t.zone z).state = (s.zone z).state)
    (he : EntryForm s) : EntryForm t := by
  have h1 : t.zone1.state = s.zone1.state := hz .one
  have h2 : t.zone2.state = s.zone2.state := hz .two
  unfold EntryForm; rw [hstandby, h1, h2]; exact he

/-- One deck's new capacity keeps every form but the pool's (R61, R74, R83, R130). -/
theorem forms_setCapacity (d : Deck) (c : Nat) (s : State) (hused : c = 0 → zoneOf d s = none) : RowForms s (setCapacity d c s) := by
  obtain ⟨⟨hpin, hshock, hstandby, -, hpending⟩, hport, htray, -⟩ := setCapacity_fixed d c s
  refine ⟨by rw [hport]; exact id, by rw [htray]; exact id, fun z => ?_, fun z => ?_, fun hs ht => ⟨sourcesForm_congr (setCapacity_source d c s) hs, fun z => ?_⟩,
    by rw [hshock]; exact id, entryForm_congr hstandby (setCapacity_state d c s), fun e => ?_, hpending⟩
  · rw [setCapacity_zone]; split <;> exact id
  · rw [setCapacity_zone]; split <;> exact id
  · rw [setCapacity_source, setCapacity_zone]
    cases hsrc : (s.zone z).source with
    | none => rw [if_neg (fun h => by rw [zoneOf_source d s z h.2] at hsrc; cases hsrc)]; have := ht z; rw [hsrc] at this; exact this
    | mirror => rw [if_neg (fun h => by rw [zoneOf_source d s z h.2] at hsrc; cases hsrc)]; have := ht z; rw [hsrc] at this; exact this
    | deck e =>
      by_cases he : e = d
      · subst he
        have hzo := zoneOf_of_source hs hsrc
        have htop : thresholdTop (.deck e) (setCapacity e c s) = c := by
          simp only [thresholdTop]; rw [setCapacity_deck, recapped_cap]
        rw [htop]
        split
        · have hc : 1 ≤ c := Nat.pos_of_ne_zero fun hz => by
            rw [hused hz] at hzo; cases hzo
          exact ⟨(clampTo_between hc).1, (clampTo_between hc).2, (clampTo_between hc).1, (clampTo_between hc).2⟩
        · next hcond =>
          have hcap : (s.deck e).ring.cap = c :=
            Decidable.byContradiction fun hne => hcond ⟨hne, hzo⟩
          have := ht z
          rw [hsrc] at this
          simp only [thresholdTop, hcap] at this
          exact this
      · have hoe : e = otherDeck d := by cases d <;> cases e <;> simp_all [otherDeck]
        have htop : thresholdTop (.deck e) (setCapacity d c s) = thresholdTop (.deck e) s := by
          simp only [thresholdTop]; rw [hoe, setCapacity_other]
        rw [htop, if_neg (fun h => by rw [zoneOf_source d s z h.2] at hsrc; cases hsrc; exact he rfl)]
        have := ht z; rw [hsrc] at this; exact this
  · by_cases he : e = d
    · rw [he, setCapacity_deck]; exact recapped_kept c _
    · have hoe : e = otherDeck d := by cases d <;> cases e <;> simp_all [otherDeck]
      rw [hoe, setCapacity_other]; exact .refl _

theorem adjustCapacity_form (v : Nat) : adjustCapacity v = 0 ∨ 96 ≤ adjustCapacity v ∧ adjustCapacity v % 32 = 0 := by
  unfold adjustCapacity
  split
  · exact .inr ⟨Nat.le_refl _, rfl⟩
  · omega

/-- SET_POOL (R61). -/
theorem row_setPool (a b : Nat) (s : State) : RowKept s (setPoolAnswer a b s).1 := by
  have hrefl := RowKept.refl s
  unfold setPoolAnswer
  dsimp only
  split
  · exact hrefl
  · next hsum =>
    split
    · exact hrefl
    · next hused =>
      split
      · exact hrefl
      · next hbusy =>
        simp only [Config.poolSlots, Nat.not_lt] at hsum
        simp only [not_or, not_and] at hused
        simp only [Bool.or_eq_true, not_or, Bool.not_eq_true] at hbusy
        have hempty : ∀ d, poolBusy d s = false → (s.deck d).ring.records = [] := by
          intro d hd
          unfold poolBusy at hd
          simp only [Bool.or_eq_false_iff, Bool.not_eq_false', List.isEmpty_iff] at hd
          exact hd.1.1.1
        have hform : ∀ v, adjustCapacity v ≤ 1536 → adjustCapacity v = 0 ∨ 96 ≤ adjustCapacity v ∧ adjustCapacity v ≤ 1536 ∧ adjustCapacity v % 32 = 0 := by
          intro v hv
          rcases adjustCapacity_form v with h | ⟨h1, h2⟩
          · exact .inl h
          · exact .inr ⟨h1, hv, h2⟩
        have hza : adjustCapacity a = 0 → zoneOf .a s = none := fun h => by simpa using hused.1 h
        have hzb : adjustCapacity b = 0 → zoneOf .b (setCapacity .a (adjustCapacity a) s) = none := fun h => by
          rw [zoneOf_congr (setCapacity_source .a _ s)]; simpa using hused.2 h
        have hdeckA : (setCapacity .b (adjustCapacity b) (setCapacity .a (adjustCapacity a) s)).deckA = recapped (adjustCapacity a) s.deckA :=
          (setCapacity_other .b _ _).trans (setCapacity_deck .a _ s)
        have hdeckB : (setCapacity .b (adjustCapacity b) (setCapacity .a (adjustCapacity a) s)).deckB = recapped (adjustCapacity b) s.deckB :=
          (setCapacity_deck .b _ _).trans (congrArg (recapped _) (setCapacity_other .a _ s))
        refine ⟨(forms_setCapacity .a _ s hza).trans (forms_setCapacity .b _ _ hzb), ?_⟩
        rintro ⟨-, ha, hb⟩
        dsimp only
        refine ⟨?_, ?_, ?_⟩
        · rw [hdeckA, hdeckB, recapped_cap, recapped_cap]; exact hsum
        · rw [hdeckA]; exact recapped_sized ha (hempty .a hbusy.1) (hform a (by omega))
        · rw [hdeckB]; exact recapped_sized hb (hempty .b hbusy.2) (hform b (by omega))

/-! ## SET_DECK (R14, R45, R74, R83) -/

/-- The values SET_DECK gives a deck (R14, R45, R74, R83). -/
def resetBy (v : DeckArgs) (u : DeckUnit) : DeckUnit :=
  { u with
    ring := { u.ring with high := (clampMarks u.ring.cap v.high.toNat v.low.toNat).1
                          low := (clampMarks u.ring.cap v.high.toNat v.low.toNat).2 }
    intake := { u.intake with gapLimit := min 8 v.gapLimit.toNat }
    link := { u.link with seekTime := clampTo 100 3000 v.seekTime.toNat }
    plan := { u.plan with floor := min u.ring.cap v.floor.toNat, window := min u.ring.cap v.window.toNat, lead := min 300 v.lead.toNat,
                          threshold := clampTo 1 1176 v.threshold.toNat, limit := min 7 v.limit.toNat,
                          overlap := min 4 v.overlap.toNat } }

theorem setDeck_eq (d : Deck) (v : DeckArgs) (s : State) : setDeck d v s = abandonReached d (onDeck d (resetBy v) s) := by
  cases d <;> rfl

theorem clampMarks_sized {c : Nat} (hc : 96 ≤ c) (high low : Nat) :
    1 ≤ (clampMarks c high low).2 ∧ (clampMarks c high low).2 < (clampMarks c high low).1 ∧ (clampMarks c high low).1 ≤ c := by
  unfold clampMarks
  rw [if_neg (by omega)]
  dsimp only
  split <;> omega

theorem resetBy_sized (v : DeckArgs) {u : DeckUnit} (h : u.ring.sized) : (resetBy v u).ring.sized := by
  obtain ⟨hmarks, hroom⟩ := h
  refine ⟨?_, hroom⟩
  rcases hmarks with ⟨h0, -, -⟩ | ⟨h1, h2, h3, -⟩
  · left; simp only [resetBy, clampMarks, h0]; simp
  · exact .inr ⟨h1, h2, h3, clampMarks_sized h1 _ _⟩

/-- SET_DECK keeps the rings' forms (R90). -/
theorem ringKept_setDeck (d : Deck) (v : DeckArgs) (s : State) : RingKept (s.deck d) ((setDeck d v s).deck d) := by
  rw [setDeck_eq]
  have hdeck : (onDeck d (resetBy v) s).deck d = resetBy v (s.deck d) := by simp
  have hring : RingForm (s.deck d).ring → RingForm ((onDeck d (resetBy v) s).deck d).ring := fun hr => by
    rw [hdeck]; exact ringForm_congr rfl hr
  refine ⟨fun hr => abandonAll_ring d _ _ (hring hr), fun hr hp => abandonReached_form d _ ?_ (hring hr)⟩
  obtain ⟨hl, hf, -⟩ := tallied_of_repairForm hp
  rw [hdeck]
  exact ⟨hl, hf, Nat.min_le_left _ _⟩

theorem row_setDeck (d : Deck) (v : DeckArgs) (s : State) (ha : s.standby.phase = .awake) : RowKept s (setDeck d v s) := by
  have hab := framed_abandonReached (D := Only d) (.self d) (onDeck d (resetBy v) s)
  rw [← setDeck_eq] at hab
  obtain ⟨-, hshock, hstandby, -, hpending⟩ := hab.part
  rw [onDeck_shock] at hshock
  rw [onDeck_standby] at hstandby
  rw [onDeck_pending] at hpending
  have hzone : ∀ z, ZoneKept (s.zone z) ((setDeck d v s).zone z) := fun z => by have := hab.zone z; rwa [onDeck_zone] at this
  have hother : ∀ e, e ≠ d → (setDeck d v s).deck e = s.deck e := fun e he =>
    (hab.other e he).trans ((DeckOnly.onDeck d _ s).deck_of_ne e he)
  have hsame : (onDeck d (resetBy v) s).deck d = resetBy v (s.deck d) := by simp
  have hcap : ∀ e, ((setDeck d v s).deck e).ring.cap = (s.deck e).ring.cap := fun e => by
    by_cases he : e = d
    · subst he; rw [(hab.deck e).cap, hsame]; rfl
    · rw [hother e he]
  have hsized : ∀ e, (s.deck e).ring.sized → ((setDeck d v s).deck e).ring.sized := fun e hs => by
    by_cases he : e = d
    · subst he
      refine sized_of_kept (hab.deck e) ?_
      rw [hsame]; exact resetBy_sized v hs
    · rw [hother e he]; exact hs
  refine ⟨⟨?_, ?_, fun z => (hzone z).form, fun z => (hzone z).rest, fun hs ht => ?_, by rw [hshock]; exact id,
    fun _ hp => (by rw [hstandby, ha] at hp; cases hp), fun e => ?_, hpending⟩, fun hp => ?_⟩
  · have := hab.queue; rwa [onDeck_port] at this
  · have := hab.table; rwa [onDeck_tray] at this
  · refine ⟨sourcesForm_congr (fun z => (hzone z).source) hs, fun z => ?_⟩
    have htop : thresholdTop ((setDeck d v s).zone z).source (setDeck d v s) = thresholdTop (s.zone z).source s := by
      rw [(hzone z).source]
      unfold thresholdTop
      split
      · exact hcap _
      all_goals rfl
    rw [htop, (hzone z).set]; exact ht z
  · by_cases he : e = d
    · subst he; exact ringKept_setDeck e v s
    · rw [hother e he]; exact .refl _
  · obtain ⟨hsum, ha, hb⟩ := hp
    refine ⟨?_, hsized .a ha, hsized .b hb⟩
    have h1 : (setDeck d v s).deckA.ring.cap = s.deckA.ring.cap := hcap .a
    have h2 : (setDeck d v s).deckB.ring.cap = s.deckB.ring.cap := hcap .b
    rw [h1, h2]; exact hsum

/-! ## SET_ZONE (R129, R130) -/

/-- The last of the refusals of R129: another source for a zone that is not STOPPED. -/
def sourceLocked (z : ZoneId) (src : Source) (s : State) : Option ReplyCode :=
  if src ≠ (s.zone z).source ∧ (s.zone z).state ≠ .stopped then some .badState else none

theorem sourceRefused_deck (z : ZoneId) (d : Deck) (s : State) :
    sourceRefused z (.deck d) s =
      if (s.deck d).ring.cap = 0 then some .badArg
      else if (s.zone (otherZone z)).source = .deck d then some .badArg
      else sourceLocked z (.deck d) s := by
  cases z <;> simp [sourceRefused, sourceLocked, otherZone] <;> congr

theorem sourceRefused_mirror (z : ZoneId) (s : State) :
    sourceRefused z .mirror s = if z = .one then some .badArg else sourceLocked z .mirror s := by
  cases z <;> simp [sourceRefused, sourceLocked]

theorem sourceRefused_noSource (z : ZoneId) (s : State) : sourceRefused z .none s = sourceLocked z .none s := by
  cases z <;> simp [sourceRefused, sourceLocked]

theorem sourceRefused_none {z : ZoneId} {src : Source} {s : State} (h : sourceRefused z src s = none) :
    (src = .mirror → z ≠ .one) ∧ ∀ d, src = .deck d → (s.deck d).ring.cap ≠ 0 ∧ (s.zone (otherZone z)).source ≠ .deck d := by
  cases src with
  | none => exact ⟨by simp, by simp⟩
  | mirror =>
    rw [sourceRefused_mirror] at h
    refine ⟨fun _ hz => ?_, by simp⟩
    rw [if_pos hz] at h; cases h
  | deck d =>
    rw [sourceRefused_deck] at h
    refine ⟨by simp, ?_⟩
    rintro _ ⟨⟩
    by_cases hc : (s.deck d).ring.cap = 0
    · rw [if_pos hc] at h; cases h
    · by_cases ho : (s.zone (otherZone z)).source = .deck d
      · rw [if_neg hc, if_pos ho] at h; cases h
      · exact ⟨hc, ho⟩

/-- A zone with another source and other settings (R129, R130). -/
def resourced (src : Source) (set : ZoneSettings) (n : Zone) : Zone := { n with source := src, set := set }

theorem zoneSettings_form (policy : Policy) (top : Nat) (v : ZoneArgs) (n : Zone) (src : Source) (h : ZoneForm n) :
    ZoneForm (resourced src (zoneSettings policy top v) n) := by
  obtain ⟨h1, h2, h3, h4, h5, -⟩ := h
  have hs := clampTo_between (lo := 1) (hi := 4096) (v := v.step.toNat) (by omega)
  have hp := clampTo_between (lo := 1) (hi := 64) (v := v.period.toNat) (by omega)
  have hn := clampTo_between (lo := 1) (hi := 32) (v := v.span.toNat) (by omega)
  have hr := clampTo_between (lo := 1) (hi := 1024) (v := v.recover.toNat) (by omega)
  exact ⟨h1, h2, h3, h4, h5, hs.1, hs.2, hp.1, hp.2, hn.1, hn.2, hr.1, hr.2⟩

theorem setZone_eq (z : ZoneId) (src : Source) (policy : Policy) (v : ZoneArgs) (s : State) :
    setZone z src policy v s = starveTest z (onZone z (resourced src (zoneSettings policy (thresholdTop src s) v))
      (if src = (s.zone z).source then s else setNote z none s)) := by
  have htop : ∀ x, thresholdTop src (setNote z x s) = thresholdTop src s := fun x => by
    unfold thresholdTop
    split
    · rw [setNote_deck]
    all_goals rfl
  unfold setZone
  dsimp only
  split
  · rfl
  · rw [htop]; rfl

theorem row_setZone (z : ZoneId) (src : Source) (policy : Policy) (v : ZoneArgs) (s : State) (ha : s.standby.phase = .awake)
    (hok : sourceRefused z src s = none) : RowKept s (setZone z src policy v s) := by
  rw [setZone_eq]
  have hnote : Kept anyDeck s (if src = (s.zone z).source then s else setNote z none s) := .ite (.refl s) (.note s z none)
  have hrow := hnote.row_awake ha
  have hzones : ∀ y, (if src = (s.zone z).source then s else setNote z none s).zone y = s.zone y := fun y => by split <;> simp
  have hdecks : ∀ d, (if src = (s.zone z).source then s else setNote z none s).deck d = s.deck d := fun y => by split <;> simp
  have hphase : (if src = (s.zone z).source then s else setNote z none s).standby.phase = .awake := by split <;> simpa using ha
  generalize (if src = (s.zone z).source then s else setNote z none s) = u at hrow hzones hdecks hphase
  refine hrow.trans (RowKept.trans ?_ (Kept.row_awake (D := anyDeck) (kept_starveTest z _) (by rw [onZone_standby]; exact hphase)))
  obtain ⟨hmirror, hdeck⟩ := sourceRefused_none hok
  have htop : 1 ≤ thresholdTop src s := by
    unfold thresholdTop
    split
    · next d => have := (hdeck d rfl).1; omega
    all_goals decide
  have hset : ∀ y, ((onZone z (resourced src (zoneSettings policy (thresholdTop src s) v)) u).zone y) =
      if y = z then resourced src (zoneSettings policy (thresholdTop src s) v) (u.zone z) else u.zone y := fun y => by
    by_cases hy : y = z
    · subst hy; rw [if_pos rfl, onZone_same]
    · have : y = otherZone z := by cases y <;> cases z <;> simp_all [otherZone]
      rw [if_neg hy, this, onZone_other]
  refine ⟨⟨by rw [onZone_port]; exact id, by rw [onZone_tray]; exact id, fun y => ?_, fun y => ?_, fun hs ht => ⟨⟨?_, ?_⟩, fun y => ?_⟩,
    by rw [onZone_shock]; exact id, fun _ hp => (by rw [onZone_standby, hphase] at hp; cases hp), fun d => by rw [onZone_deck]; exact .refl _,
    by rw [onZone_pending]⟩, fun hp => ?_⟩
  · rw [hset]
    split
    · next hy => subst hy; exact zoneSettings_form policy _ v _ src
    · exact id
  · rw [hset]
    split
    · next hy => subst hy; exact id
    · exact id
  · have := hset .one
    intro hm
    rw [show ((onZone z (resourced src (zoneSettings policy (thresholdTop src s) v)) u).zone1) = _ from this] at hm
    split at hm
    · next hz => exact hmirror hm hz.symm
    · exact hs.1 hm
  · rintro d ⟨h1, h2⟩
    rw [show ((onZone z (resourced src (zoneSettings policy (thresholdTop src s) v)) u).zone1) = _ from hset .one] at h1
    rw [show ((onZone z (resourced src (zoneSettings policy (thresholdTop src s) v)) u).zone2) = _ from hset .two] at h2
    cases z with
    | one =>
      rw [if_pos rfl] at h1
      rw [if_neg (by simp)] at h2
      rw [hzones] at h2
      exact (hdeck d h1).2 h2
    | two =>
      rw [if_pos rfl] at h2
      rw [if_neg (by simp)] at h1
      rw [hzones] at h1
      exact (hdeck d h2).2 h1
  · have htopu : ∀ x : Source, thresholdTop x (onZone z (resourced src (zoneSettings policy (thresholdTop src s) v)) u) = thresholdTop x u := fun x => by
      unfold thresholdTop
      split
      · rw [onZone_deck]
      all_goals rfl
    rw [htopu, hset]
    split
    · have htops : thresholdTop src u = thresholdTop src s := by
        unfold thresholdTop
        split
        · rw [hdecks]
        all_goals rfl
      simp only [resourced, htops]
      have h1 := clampTo_between (lo := 1) (v := v.start.toNat) htop
      have h2 := clampTo_between (lo := 1) (v := v.restart.toNat) htop
      exact ⟨h1.1, h1.2, h2.1, h2.2⟩
    · exact ht y
  · unfold PoolForm at hp ⊢
    have h1 : ∀ d, (onZone z (resourced src (zoneSettings policy (thresholdTop src s) v)) u).deck d = u.deck d := fun d => onZone_deck ..
    rw [show (onZone z (resourced src (zoneSettings policy (thresholdTop src s) v)) u).deckA = u.deckA from h1 .a,
      show (onZone z (resourced src (zoneSettings policy (thresholdTop src s) v)) u).deckB = u.deckB from h1 .b]
    exact hp

end Sys2Proof.Proofs
end


section
/-!
PROOFS. What each row keeps: the owners' answers, the Message Port's frames, the resets, and the rows of the links, clocks and lines.
-/

namespace Sys2Proof.Proofs

open Sys2Proof.Machine

variable {s t w : State}

/-! ## The owners' answers (R193 to R205) -/

/-- A change of the Shock Monitor and nothing else (R162). -/
theorem row_shockOnly (s : State) (m : Shock) (h : ShockForm s.shock → ShockForm m) : RowKept s { s with shock := m } :=
  ⟨⟨id, id, fun z => by cases z <;> exact id, fun z => by cases z <;> exact id, fun hs ht => ⟨hs, fun | .one => ht .one | .two => ht .two⟩,
    h, id, fun d => by cases d <;> exact .refl _, rfl⟩, id⟩

/-- The settings that SET_SHOCK takes are in their ranges (R162). -/
theorem shockSettings_form {v : ShockArgs} {h m : Shock} (hm : shockSettings v h = some m) :
    m.centre ≤ 1023 ∧ 1 ≤ m.ton ∧ m.ton ≤ 511 ∧ m.toff < m.ton ∧ m.guardTime ≤ 10000 ∧
      m.guard = h.guard ∧ m.flag = h.flag ∧ m.converting = h.converting := by
  unfold shockSettings at hm
  dsimp only at hm
  split at hm
  · cases hm
    have h1 := clampTo_between (lo := 0) (hi := 1023) (v := v.centre.toNat) (by omega)
    have h2 := clampTo_between (lo := 1) (hi := 511) (v := v.ton.toNat) (by omega)
    have h3 := clampTo_between (lo := 0) (hi := clampTo 1 511 v.ton.toNat - 1) (v := v.toff.toNat) (by omega)
    have h4 := clampTo_between (lo := 0) (hi := 10000) (v := v.guard.toNat) (by omega)
    exact ⟨h1.2, h2.1, h2.2, by dsimp only; omega, h4.2, rfl, rfl, rfl⟩
  · cases hm

theorem closeGuard_guard (s : State) : (closeGuard s).shock = { s.shock with guard := none } := by
  by_cases hg : s.shock.guard = none
  · rw [closeGuard_closed s hg, ← hg]
  · exact (closeGuard_open s hg).shock

theorem row_setShock (v : ShockArgs) (s : State) (ha : s.standby.phase = .awake) : RowKept s (setShockAnswer v s).1 := by
  unfold setShockAnswer
  cases hm : shockSettings v s.shock with
  | none => exact .refl s
  | some m =>
    obtain ⟨h1, h2, h3, h4, h5, hguard, hflag, hconv⟩ := shockSettings_form hm
    dsimp only
    unfold enableChanged
    dsimp only
    split
    · next he =>
      refine row_shockOnly s m fun ⟨_, _, _, _, _, h6⟩ => ⟨h1, h2, h3, h4, h5, fun hoff => ?_⟩
      rw [hguard, hflag, hconv]
      exact h6 (he.trans hoff)
    · split
      · next he => exact row_shockOnly s { m with converting := !inStandby _ } fun _ => ⟨h1, h2, h3, h4, h5, fun hoff => by rw [he] at hoff; cases hoff⟩
      · have hoff : ∀ u : State, u = { s with shock := { m with converting := false, flag := false } } → RowKept s (closeGuard u) := by
          intro u hu
          have hw := walked_closeGuard u
          have hsh := closeGuard_guard u
          have hrow : RowKept s { s with shock := { m with converting := false, flag := false, guard := none } } :=
            row_shockOnly s _ fun _ => ⟨h1, h2, h3, h4, h5, fun _ => ⟨rfl, rfl, rfl⟩⟩
          have hk : Kept anyDeck { u with shock := (closeGuard u).shock } (closeGuard u) := by
            unfold closeGuard
            split
            · next hopen =>
              have h := kept_decisions { u with shock := { u.shock with guard := none } }
              rw [show (closeGuard u) = _ from if_pos hopen] at hsh
              rw [hsh]; exact h
            · exact .refl _
          refine hrow.trans ?_
          have hse : ({ s with shock := { m with converting := false, flag := false, guard := none } } : State) =
              { u with shock := (closeGuard u).shock } := by rw [hsh, hu]
          rw [hse]
          exact hk.row_awake (by rw [hu]; exact ha)
        exact hoff _ rfl

/-- A choice of zones acts on each (R194). -/
theorem kept_onChoice {D : Deck → Prop} (first : ZoneId) (c : ZoneChoice) (f : ZoneId → State → State) (s : State)
    (h : ∀ z u, Kept D u (f z u)) : Kept D s (onChoice first c f s) := by
  unfold onChoice
  split
  · exact h _ s
  · exact .together (h _ _) (h _ _)
  · exact .together (h _ _) (h _ _)

theorem kept_zonesAnswer (first : ZoneId) (f : ZoneId → State → State) (zone : Byte) (s : State) (h : ∀ z u, Kept anyDeck u (f z u)) :
    Kept anyDeck s (zonesAnswer first f zone s).1 := by
  unfold zonesAnswer
  split
  · exact .refl s
  · exact kept_onChoice first _ f s h

theorem kept_loadAnswer (deck slot : Byte) (s : State) : Kept anyDeck s (loadAnswer deck slot s).1 := by
  unfold loadAnswer
  split
  · exact .refl s
  · next d _ =>
    split
    · have hslot : ∀ u : State, Kept anyDeck u (onLink d (fun l => { l with lastSlot := some slot.toNat }) u) := fun u =>
        .link u trivial _ rfl
      unfold loadDeck
      split
      · exact .refl s
      · exact .refl s
      · split
        · exact .refl s
        · dsimp only
          split
          · exact (((kept_discardDisc trivial s).trans (hslot _)).trans (kept_request trivial _ _)).trans (kept_request trivial _ _)
          · split
            · exact .refl s
            · exact (hslot s).trans (kept_request trivial _ _)
    · exact .refl s

theorem kept_unloadRecord {D : Deck → Prop} (d : Deck) (s : State) : Kept D s (unloadRecord d s) := by
  unfold unloadRecord
  split
  · split
    · split
      · exact kept_consumeNote _ _ _ s
      · exact .refl s
    · exact .refl s
  · exact .refl s

theorem kept_endStalled {D : Deck → Prop} {d : Deck} (hD : D d) (s : State) : Kept D s (endStalled d s) :=
  (Kept.link s hD _ rfl).trans ((planned_closeRun d _).kept hD)

theorem kept_unloadAnswer (deck : Byte) (s : State) : Kept anyDeck s (unloadAnswer deck s).1 := by
  unfold unloadAnswer
  split
  · exact .refl s
  · next d _ =>
    unfold unloadDeck
    split
    · exact .refl s
    · exact .refl s
    · split
      · exact .refl s
      · split
        · exact .refl s
        · dsimp only
          refine Kept.trans (.trans ?_ (kept_request trivial _ _)) (kept_flush trivial _)
          have h₁ := kept_unloadRecord (D := anyDeck) d s
          have h₂ := h₁.trans (Kept.ite (c := ((unloadRecord d s).deck d).link.state = .stalled)
            (kept_endStalled (d := d) trivial (unloadRecord d s)) (.refl _))
          exact h₂.trans (.ite (kept_discardDisc (d := d) trivial _) (.refl _))

theorem kept_tellCleared {D : Deck → Prop} {d : Deck} (hD : D d) (s : State) : Kept D s (tellCleared d s) := by
  have hside : ∀ u : State, Kept D u (if (s.deck d).link.parkingForTray then onSide d (fun t => { t with reload := false }) u else u) :=
    fun u => .ite (.side u d _) (.refl u)
  unfold tellCleared
  dsimp only
  cases hw : (s.deck d).link.waiting with
  | none => exact hside s
  | some r => exact (kept_tellDropped hD r s).trans (hside _)

theorem kept_resetDeck {D : Deck → Prop} {d : Deck} (hD : D d) (s : State) : Kept D s (resetDeck d s) := by
  unfold resetDeck
  dsimp only
  generalize hw : onLink d _ (tellCleared d s) = w
  have h₁ : Kept D s w := hw ▸ (kept_tellCleared hD s).trans (.link _ hD _ rfl)
  have h₂ : Kept D s (if ((s.deck d).link.state == .fault) = true then w else toNoDisc d .reset w) :=
    .ite h₁ (h₁.trans (kept_toNoDisc hD _ _))
  have h₃ := (((h₂.trans (kept_sendLinkReset hD _)).trans (kept_stopZoneOf hD .deckReset true _)).trans (kept_flush hD _)).trans
    (kept_cancelJob hD _)
  exact .ite h₃ (h₃.trans (kept_announce d _))

/-- A change of a deck's snapshot or statistics alone (R36). -/
theorem kept_cleared {D : Deck → Prop} {d : Deck} (hD : D d) (s : State) : Kept D s (onDeck d DeckUnit.cleared s) :=
  .onDeck s hD _ ⟨rfl, rfl, id⟩ (.of_congr rfl rfl rfl rfl)

theorem kept_queryDeck (deck control : Byte) (s : State) :
    Kept anyDeck s (queryDeckAnswer deck control s).1 ∧ ∀ z, ((queryDeckAnswer deck control s).1.zone z).state = (s.zone z).state := by
  unfold queryDeckAnswer
  split
  · exact ⟨.refl s, fun _ => rfl⟩
  · next d _ =>
    split
    · have h : Kept anyDeck s (onDeck d (fun u => { u with snapshot := some (deckRecord d s) }) s) :=
        .onDeck s trivial _ ⟨rfl, rfl, id⟩ (.of_congr rfl rfl rfl rfl)
      exact ⟨Kept.ite (h.trans (kept_cleared trivial _)) h, fun z => by dsimp only; split <;> simp⟩
    · exact ⟨.refl s, fun _ => rfl⟩

theorem row_queryDeck (deck control : Byte) (s : State) : RowKept s (queryDeckAnswer deck control s).1 :=
  (kept_queryDeck deck control s).1.row_zones (kept_queryDeck deck control s).2

theorem kept_queryZone (zone control : Byte) (s : State) :
    Kept anyDeck s (queryZoneAnswer zone control s).1 ∧ ∀ z, ((queryZoneAnswer zone control s).1.zone z).state = (s.zone z).state := by
  unfold queryZoneAnswer
  split
  · exact ⟨.refl s, fun _ => rfl⟩
  · next z _ =>
    split
    · have h : Kept anyDeck s (onZone z (fun n => { n with snapshot := some (zoneRecordPages z s) }) s) :=
        .onZone s z _ ⟨rfl, rfl, id, id⟩
      refine ⟨Kept.ite (h.trans (.onZone _ z _ ⟨rfl, rfl, id, id⟩)) h, fun y => ?_⟩
      have hsame : ∀ (f : Zone → Zone) (u : State), (∀ n, (f n).state = n.state) → ((onZone z f u).zone y).state = (u.zone y).state := by
        intro f u hf
        by_cases hy : y = z
        · rw [hy, onZone_same, hf]
        · have : y = otherZone z := by cases y <;> cases z <;> simp_all [otherZone]
          rw [this, onZone_other]
      have hshown := hsame (fun n => { n with snapshot := some (zoneRecordPages z s) }) s fun _ => rfl
      dsimp only
      split
      · exact (hsame (fun n => { n with stats := ⟨0, 0, 0, 0, 0⟩ }) _ fun _ => rfl).trans hshown
      · exact hshown
    · exact ⟨.refl s, fun _ => rfl⟩

theorem row_queryZone (zone control : Byte) (s : State) : RowKept s (queryZoneAnswer zone control s).1 :=
  (kept_queryZone zone control s).1.row_zones (kept_queryZone zone control s).2

theorem queryDisc_state (deck first : Byte) (s : State) : (queryDiscAnswer deck first s).1 = s := by
  unfold queryDiscAnswer
  split
  · rfl
  · split
    · rfl
    · dsimp only; split <;> rfl

theorem queryResume_state (position : Byte) (s : State) : (queryResumeAnswer position s).1 = s := by
  unfold queryResumeAnswer; split <;> rfl

theorem kept_playAnswer (zone : Byte) (first last : Nat) (s : State) : Kept anyDeck s (playAnswer zone first last s).1 := by
  unfold playAnswer
  split
  · exact .refl s
  · split
    · exact .refl s
    · split
      · exact .refl s
      · split
        · exact .refl s
        · exact kept_playRange _ _ s (plays_any _ _)

theorem kept_cueAnswer (zone : Byte) (range : Option (Nat × Nat)) (s : State) : Kept anyDeck s (cueAnswer zone range s).1 := by
  unfold cueAnswer
  split
  · exact .refl s
  · dsimp only
    split
    · exact .refl s
    · split
      · exact kept_cueRange _ _ s (plays_any _ _)
      · split
        · exact .refl s
        · exact kept_cueRange _ _ s (plays_any _ _)

theorem kept_setLevelAnswer (zone : Byte) (level : Nat) (s : State) : Kept anyDeck s (setLevelAnswer zone level s).1 := by
  unfold setLevelAnswer
  split
  · exact .refl s
  · refine kept_onChoice .one _ _ s fun z u =>
      .onZone u z (fun n => { n with staged := some (min 65535 level) }) ⟨rfl, rfl, ?_, id⟩
    rintro ⟨h1, h2, h3, -, h5⟩
    exact ⟨h1, h2, h3, fun l hl => by cases hl; exact Nat.min_le_left _ _, h5⟩

theorem kept_setMarkAnswer (zone : Byte) (addr : Option Nat) (s : State) : Kept anyDeck s (setMarkAnswer zone addr s).1 := by
  unfold setMarkAnswer
  split
  · exact .refl s
  · exact .onZone s _ (fun n => { n with mark := addr.map (min Config.lastAddress) }) ⟨rfl, rfl, id, id⟩

theorem kept_resumeAnswer (zone : Byte) (s : State) : Kept anyDeck s (resumeAnswer zone s).1 := by
  unfold resumeAnswer
  split
  · exact .refl s
  · split
    · exact .refl s
    · split
      · exact .refl s
      · split
        · exact .refl s
        · split
          · exact .refl s
          · split
            · exact .refl s
            · split
              · exact .refl s
              · exact .refl s
              · exact kept_beginResume _ _ _ _ s (plays_any _ _)

theorem kept_forgetAnswer (f : Option (BitVec 32)) (s : State) : Kept anyDeck s (forgetAnswer f s).1 := by
  cases f with
  | none => exact .onTray s (fun t => { t with table := [] }) rfl fun _ => ⟨Nat.zero_le _, List.nodup_nil⟩
  | some f => exact kept_dropRecord f s

/-- A command refused in standby is taken by an awake part (R205). -/
theorem row_unlessStandby (f : State → Answered) (s : State) (h : s.standby.phase = .awake → RowKept s (f s).1) :
    RowKept s (unlessStandby f s).1 := by
  unfold unlessStandby
  split
  · exact .refl s
  · next ha =>
    refine h ?_
    simpa [inStandby] using ha

theorem row_kept_unlessStandby {D : Deck → Prop} (f : State → Answered) (s : State) (h : Kept D s (f s).1) :
    RowKept s (unlessStandby f s).1 := row_unlessStandby f s fun ha => h.row_awake ha

/-- A change of the Message Port and nothing else. -/
theorem row_portOnly (s : State) (p : Port) (h : QueueForm s.port.queue → QueueForm p.queue) : RowKept s { s with port := p } :=
  ⟨⟨h, id, fun z => by cases z <;> exact id, fun z => by cases z <;> exact id, fun hs ht => ⟨hs, fun | .one => ht .one | .two => ht .two⟩,
    id, id, fun d => by cases d <;> exact .refl _, rfl⟩, id⟩

/-- A change of the Tray Supervisor's settings and nothing else (R183). -/
theorem row_setResume (a b : Byte) (rewind debounce : Nat) (s : State) : RowKept s (setResumeAnswer a b rewind debounce s).1 := by
  unfold setResumeAnswer
  split
  · exact ⟨⟨id, id, fun z => by cases z <;> exact id, fun z => by cases z <;> exact id,
      fun hs ht => ⟨hs, fun | .one => ht .one | .two => ht .two⟩, id, id, fun d => by cases d <;> exact .refl _, rfl⟩, id⟩
  · exact .refl s

theorem row_standbyOnly (s : State) (b : Standby) (h : EntryForm s → EntryForm { s with standby := b }) :
    RowKept s { s with standby := b } :=
  ⟨⟨id, id, fun z => by cases z <;> exact id, fun z => by cases z <;> exact id, fun hs ht => ⟨hs, fun | .one => ht .one | .two => ht .two⟩,
    id, h, fun d => by cases d <;> exact .refl _, rfl⟩, id⟩

theorem beginStandby_entryForm (s : State) : EntryForm (beginStandby s) := finishEntry_entryForm _

theorem row_standbyAnswer (settings : Option (Byte × BitVec 16)) (s : State) : RowKept s (standbyAnswer settings s).1 := by
  have hgo : ∀ u : State, RowKept u (if u.standby.phase = .awake then beginStandby u else u) := fun u => by
    split
    · exact (walked_beginStandby u).row fun _ => beginStandby_entryForm u
    · exact .refl u
  unfold standbyAnswer
  dsimp only
  split
  · exact hgo s
  · split
    · exact .refl s
    · next period _ b _ =>
      exact (row_standbyOnly s { s.standby with wakeOnTray := b, wakePeriod := clampTo 100 2000 period.toNat } id).trans (hgo _)

theorem leaveStandby_phase (s : State) : (leaveStandby s).standby.phase = .awake := rfl

theorem row_wakeAnswer (s : State) : RowKept s (wakeAnswer s).1 := by
  unfold wakeAnswer
  split
  · exact .refl s
  · exact .refl s
  · exact (walked_leaveStandby s).row fun _ hp => by rw [leaveStandby_phase] at hp; cases hp

/-- The commands of the decks, the zones and the resume table that change no setting, refused in standby (R205). -/
def ordinary : Instr → Bool
  | .load _ _ | .unload _ | .resetDeck _ | .play _ _ _ | .cue _ _ | .pause _ | .unpause _ | .stop _ | .setLevel _ _ | .setMark _ _
  | .resume _ | .forget _ => true
  | _ => false

/-- An ordinary command keeps everything but its own blocks' state. -/
theorem kept_ordinary (i : Instr) (h : ordinary i = true) :
    ∃ f, (∀ s, hostAnswer i s = unlessStandby f s) ∧ ∀ s, Kept anyDeck s (f s).1 := by
  cases i
  case load deck slot => exact ⟨_, fun _ => rfl, kept_loadAnswer deck slot⟩
  case unload deck => exact ⟨_, fun _ => rfl, kept_unloadAnswer deck⟩
  case resetDeck deck =>
    refine ⟨_, fun _ => rfl, fun s => ?_⟩
    unfold resetDeckAnswer
    split
    · exact .refl s
    · exact kept_resetDeck trivial s
  case play zone first last => exact ⟨_, fun _ => rfl, kept_playAnswer zone _ _⟩
  case cue zone range => exact ⟨_, fun _ => rfl, kept_cueAnswer zone _⟩
  case pause zone => exact ⟨_, fun _ => rfl, fun s => kept_zonesAnswer _ _ zone s fun z u => kept_pauseZone z u (plays_any _ _)⟩
  case unpause zone => exact ⟨_, fun _ => rfl, fun s => kept_zonesAnswer _ _ zone s fun z u => kept_unpauseZone z u⟩
  case stop zone => exact ⟨_, fun _ => rfl, fun s => kept_zonesAnswer _ _ zone s fun z u => kept_stopRequest z _ _ u (plays_any _ _)⟩
  case setLevel zone level => exact ⟨_, fun _ => rfl, kept_setLevelAnswer zone _⟩
  case setMark zone addr => exact ⟨_, fun _ => rfl, kept_setMarkAnswer zone _⟩
  case resume zone => exact ⟨_, fun _ => rfl, kept_resumeAnswer zone⟩
  case forget f => exact ⟨_, fun _ => rfl, kept_forgetAnswer f⟩
  all_goals cases h

/-- Every owner's answer keeps the forms (R193). -/
theorem row_hostAnswer (i : Instr) (s : State) : RowKept s (hostAnswer i s).1 := by
  by_cases ho : ordinary i = true
  · obtain ⟨f, hf, hk⟩ := kept_ordinary i ho
    rw [hf]
    exact row_kept_unlessStandby f s (hk s)
  cases i
  case resetPart => exact row_portOnly s _ id
  case takeNotices =>
    refine row_portOnly s _ fun h => ?_
    exact ⟨h.1.sublist ((List.drop_sublist _ _).map _), fun n hn => h.2 n (List.mem_of_mem_drop hn)⟩
  case setNoticeMask mask => exact row_unlessStandby _ s fun _ => row_portOnly s _ id
  case setPool a b => exact row_unlessStandby _ s fun _ => row_setPool _ _ s
  case standby v => exact row_standbyAnswer v s
  case wake => exact row_wakeAnswer s
  case setDeck deck v =>
    refine row_unlessStandby _ s fun ha => ?_
    unfold setDeckAnswer
    split
    · exact .refl s
    · exact row_setDeck _ v s ha
  case queryDeck deck control => exact row_queryDeck deck control s
  case queryDisc deck first => exact (congrArg (RowKept s) (queryDisc_state deck first s)).mpr (.refl s)
  case setZone zone v =>
    refine row_unlessStandby _ s fun ha => ?_
    unfold setZoneAnswer
    split
    · split
      · exact .refl s
      · next hok => exact row_setZone _ _ _ v s ha hok
    · exact .refl s
  case queryZone zone control => exact row_queryZone zone control s
  case setShock v => exact row_unlessStandby _ s fun ha => row_setShock v s ha
  case shockReport => exact row_unlessStandby _ s fun _ => row_shockOnly s { s.shock with peak := 0 } id
  case clearShock =>
    refine row_unlessStandby _ s fun _ => row_shockOnly s { s.shock with flag := false } ?_
    rintro ⟨h1, h2, h3, h4, h5, h6⟩
    exact ⟨h1, h2, h3, h4, h5, fun he => ⟨(h6 he).1, rfl, (h6 he).2.2⟩⟩
  case setResume a b rewind debounce => exact row_unlessStandby _ s fun _ => row_setResume a b _ _ s
  case queryResume position => exact (congrArg (RowKept s) (queryResume_state position s)).mpr (.refl s)
  case load | unload | resetDeck | play | cue | pause | unpause | stop | setLevel | setMark | resume | forget => exact absurd rfl ho
  all_goals exact .refl s

end Sys2Proof.Proofs
end


section
/-!
PROOFS. What the rows of the links, clocks and lines keep, and the decks they leave alone (R13 to R34, R110, R137, R145, R147, R156, R159,
R167, R204, R206, R214 to R216).
-/

namespace Sys2Proof.Proofs

open Sys2Proof.Machine

variable {s t w : State}

/-! ## Walked rows -/

/-- A row that is walked and completes standby entry where it is due (R204). -/
structure Walks (s t : State) : Prop where
  walked : Walked anyDeck s t
  entry  : EntryForm s → EntryForm t

theorem Walks.row (h : Walks s t) : RowKept s t := h.walked.row h.entry

theorem Walks.refl (s : State) : Walks s s := ⟨.refl s, id⟩

theorem Kept.any {D : Deck → Prop} (h : Kept D s t) : Kept anyDeck s t := { h with other := fun _ hd => absurd trivial hd }

theorem Walks.event (h : Walked anyDeck s t) : Walks s (finishEntry t) :=
  ⟨h.trans (walked_finishEntry t), fun _ => finishEntry_entryForm t⟩

/-- An event's state after the row: none with the pin low (R208). -/
theorem event_cases {f : State → State} (h : event s f = .next t) : t = s ∨ t = finishEntry (f s) := by
  unfold event whenUp at h
  split at h <;> cases h
  · exact .inl rfl
  · exact .inr rfl

theorem whenUp_cases {f : State → State} (h : whenUp s f = .next t) : t = s ∨ t = f s := by
  unfold whenUp at h
  split at h <;> cases h
  · exact .inl rfl
  · exact .inr rfl

theorem Walks.of_event {f : State → State} (hf : Walked anyDeck s (f s)) (h : Machine.event s f = .next t) : Walks s t := by
  rcases event_cases h with rfl | rfl
  · exact .refl _
  · exact .event hf

theorem Walks.of_whenUp {f : State → State} (hf : Walks s (f s)) (h : whenUp s f = .next t) : Walks s t := by
  rcases whenUp_cases h with rfl | rfl
  · exact .refl _
  · exact hf

/-! ## The deck links -/

/-- What a row of a deck link does: its deck's blocks alone, with standby entry completed where it is due, or a change of the deck alone. -/
def Linked (d : Deck) (s t : State) : Prop :=
  ∃ u, Kept (Only d) s u ∧ (t = finishEntry u ∨ t = u ∧ ∀ z, u.zone z = s.zone z)

theorem Linked.of_event {d : Deck} {f : State → State} (hf : Kept (Only d) s (f s)) (h : event s f = .next t) : Linked d s t := by
  rcases event_cases h with rfl | rfl
  · exact ⟨_, .refl _, .inr ⟨rfl, fun _ => rfl⟩⟩
  · exact ⟨_, hf, .inl rfl⟩

theorem Linked.of_whenUp {d : Deck} {f : State → State} (hf : Kept (Only d) s (f s)) (hz : ∀ z, (f s).zone z = s.zone z)
    (h : whenUp s f = .next t) : Linked d s t := by
  rcases whenUp_cases h with rfl | rfl
  · exact ⟨_, .refl _, .inr ⟨rfl, fun _ => rfl⟩⟩
  · exact ⟨_, hf, .inr ⟨rfl, hz⟩⟩

theorem Linked.walks {d : Deck} (h : Linked d s t) : Walks s t := by
  obtain ⟨u, hu, rfl | ⟨rfl, hz⟩⟩ := h
  · exact .event hu.any.walked
  · exact ⟨hu.any.walked, entryForm_congr hu.part.2.2.1 fun z => by rw [hz]⟩

/-- Where standby entry does not wait, nothing is completed (R204). -/
theorem finishEntry_of_phase (s : State) (h : s.standby.phase ≠ .entering) : finishEntry s = s := by
  unfold finishEntry
  rw [if_neg]
  simp [entryDue, h]

theorem Linked.other {d : Deck} (h : Linked d s t) (hs : Settled s) : t.deck (otherDeck d) = s.deck (otherDeck d) := by
  have hne : ¬ Only d (otherDeck d) := by cases d <;> simp [Only, otherDeck]
  obtain ⟨u, hu, rfl | ⟨rfl, -⟩⟩ := h
  · rw [finishEntry_of_phase u (by rw [hu.part.2.2.1]; exact hs.2)]
    exact hu.other _ hne
  · exact hu.other _ hne

/-- A report or a delivery of a deck link (R17, R26). -/
theorem kept_linkReport (i : Instr) (d : Deck) (h : linkDeck i = some d) (s : State) : Kept (Only d) s (linkReport i s) := by
  cases i
  case taken e g => cases h; exact kept_takenReport (Only.self d) g s
  case declined e g r => cases h; exact kept_declinedReport (Only.self d) g _ s
  case landed e g a => cases h; exact kept_landedReport (Only.self d) g _ s
  case seekMiss e g => cases h; exact kept_seekMissReport (Only.self d) g s
  case trackSlip e g a => cases h; exact kept_trackSlipReport (Only.self d) g _ s
  case discIn e g => cases h; exact kept_discInReport (Only.self d) g s
  case slotEmpty e g => cases h; exact kept_slotEmptyReport (Only.self d) g s
  case index e g n l es r => cases h; exact kept_indexReport (Only.self d) g n l es r s
  case stowed e g => cases h; exact kept_stowedReport (Only.self d) g s
  case parked e g => cases h; exact kept_parkedReport (Only.self d) g s
  case deckTrouble e c => cases h; exact kept_deckTroubleReport (Only.self d) _ s
  case delivery e g v => cases h; exact kept_deliver (Only.self d) g v s
  all_goals exact .refl s

theorem linkDeck_noBytes {i j : Instr} {content : List Byte} (h : noBytes i content = some j) : linkDeck j = linkDeck i := by
  unfold noBytes at h
  split at h <;> cases h
  rfl

theorem linkDeck_oneByte {f : Byte → Instr} {d : Deck} {j : Instr} {content : List Byte} (hf : ∀ b, linkDeck (f b) = some d)
    (h : oneByte f content = some j) : linkDeck j = some d := by
  unfold oneByte at h
  split at h <;> cases h
  exact hf _

theorem linkDeck_decodeAddress {f : BitVec 24 → Instr} {d : Deck} {j : Instr} {content : List Byte} (hf : ∀ b, linkDeck (f b) = some d)
    (h : decodeAddress f content = some j) : linkDeck j = some d := by
  unfold decodeAddress at h
  split at h <;> cases h
  exact hf _

theorem linkDeck_decodeIndex {d : Deck} {g : Tag} {j : Instr} {content : List Byte} (h : decodeIndex d g content = some j) :
    linkDeck j = some d := by
  unfold decodeIndex at h
  split at h <;> cases h
  rfl

/-- A control frame spells a report of its own deck (R214). -/
theorem linkDeck_decodeReport {d : Deck} {kind tag : Byte} {content : List Byte} {i : Instr} (h : decodeReport d kind tag content = some i) :
    linkDeck i = some d := by
  unfold decodeReport at h
  dsimp only at h
  split at h
  case h_1 => exact linkDeck_noBytes h
  case h_2 => exact linkDeck_oneByte (fun _ => rfl) h
  case h_3 => exact linkDeck_decodeAddress (fun _ => rfl) h
  case h_4 => exact linkDeck_noBytes h
  case h_5 => exact linkDeck_noBytes h
  case h_6 => exact linkDeck_noBytes h
  case h_7 => exact linkDeck_decodeIndex h
  case h_8 => exact linkDeck_noBytes h
  case h_9 => exact linkDeck_noBytes h
  case h_10 => exact linkDeck_decodeAddress (fun _ => rfl) h
  case h_11 => exact linkDeck_oneByte (fun _ => rfl) h
  case h_12 => cases h

theorem kept_discardControl (d : Deck) (s : State) : Kept (Only d) s (discardControl d s) :=
  (Kept.link s (Only.self d) _ rfl).trans (kept_staleReport (Only.self d) _)

theorem kept_controlFrame (d : Deck) (got : List Byte) (s : State) : Kept (Only d) s (controlFrame d got s) := by
  unfold controlFrame
  split
  · split
    · split
      · next i hi => exact (Kept.link s (Only.self d) _ rfl).trans (kept_linkReport i d (linkDeck_decodeReport hi) _)
      · exact kept_discardControl d s
    · exact kept_discardControl d s
  · exact kept_discardControl d s

theorem kept_controlByte (d : Deck) (b : Byte) (s : State) : Kept (Only d) s (controlByte d b s) := by
  unfold controlByte
  dsimp only
  split
  · exact .ite (Kept.link s (Only.self d) _ rfl) (.refl s)
  · split
    · exact Kept.link s (Only.self d) _ rfl
    · exact .ite (kept_discardControl d s) (.ite (kept_controlFrame d _ s) (Kept.link s (Only.self d) _ rfl))

theorem kept_blockByte (d : Deck) (b : Byte) (s : State) : Kept (Only d) s (blockByte d b s) := by
  unfold blockByte
  dsimp only
  split
  · exact .ite (Kept.link s (Only.self d) _ rfl) (.refl s)
  · exact .ite ((Kept.link s (Only.self d) _ rfl).trans (kept_deliver (Only.self d) _ _ _)) (Kept.link s (Only.self d) _ rfl)

theorem kept_backoffExpired (d : Deck) (s : State) : Kept (Only d) s (onBackoffExpired d s) := by
  unfold onBackoffExpired
  exact .ite ((Kept.plan s (Only.self d) (fun p => { p with backoff := false, backoffTarget := none }) rfl rfl).trans ((planned_decisionPoint d _).kept (Only.self d))) (.refl s)

/-- What a row of a deck link does (0.3). -/
theorem linked_row (i : Instr) (d : Deck) (hd : linkDeck i = some d) (h : exec i s = .next t) : Linked d s t := by
  cases i
  case delivery e g v =>
    cases hd
    by_cases hw : v.wellFormed = true
    · rw [exec_delivery_wellFormed _ _ _ _ hw] at h
      exact .of_event (kept_deliver (Only.self d) g v s) h
    · rw [exec_delivery_illFormed _ _ _ _ (by simpa using hw)] at h
      cases h
  case controlFrameDiscard e =>
    cases hd
    exact .of_whenUp (f := discardControl d) (kept_discardControl d s) (fun z => by simp [discardControl, staleReport]) h
  case deckLinkByteTimeout e ch =>
    cases hd
    refine .of_whenUp (f := discardPartial d ch) ?_ (fun z => by cases ch <;> simp [discardPartial]) h
    cases ch
    · exact Kept.link s (Only.self d) (fun l => { l with controlIn := none }) rfl
    · exact Kept.link s (Only.self d) (fun l => { l with blockIn := none }) rfl
  case ackTimerExpiry e => cases hd; exact .of_event (f := ackExpired d) (kept_ackExpired (Only.self d) s) h
  case completionTimerExpiry e => cases hd; exact .of_event (f := completionExpired d) (kept_completionExpired (Only.self d) s) h
  case deliveryGapTimerExpiry e => cases hd; exact .of_event (f := gapExpired d) (kept_gapExpired (Only.self d) s) h
  case backoffTimerExpiry e => cases hd; exact .of_event (f := onBackoffExpired d) (kept_backoffExpired d s) h
  case deckLinkByteReceived e ch b =>
    cases hd
    cases ch
    · exact .of_event (f := controlByte d b) (kept_controlByte d b s) h
    · exact .of_event (f := blockByte d b) (kept_blockByte d b s) h
  case index e g n l es r => cases hd; exact .of_event (f := linkReport (.index d g n l es r)) (kept_linkReport _ d rfl s) h
  case taken | declined | landed | seekMiss | trackSlip | discIn | slotEmpty | stowed | parked | deckTrouble =>
    exact .of_event (kept_linkReport _ d hd s) ((exec_report _ _ s rfl).symm.trans h)
  all_goals cases hd

/-- Settles O17: a link's row keeps to its deck, and standby entry, which parks both decks, does not wait. -/
theorem deckLinksLeaveTheOtherDeckAlone : Obligations.DeckLinksLeaveTheOtherDeckAlone :=
  fun i d _ _ hd hs h => (linked_row i d hd h).other hs

/-! ## The clocks and lines -/

/-- The rows that are neither a host command's nor a deck link's, and carry out no other (Events). -/
def clockRow : Instr → Bool
  | .frameEvent | .blockBoundary | .rampStep _ | .concealClear _ | .shockConversionComplete _ | .guardTimerExpiry | .trayLineChange _ _
  | .trayDebounceExpiry _ | .wakeTimerExpiry | .standbyEntryComplete => true
  | _ => false

theorem standby_setRecorded (d : Deck) (l : Option Level) (s : State) : (setRecorded d l s).standby.phase = s.standby.phase := by
  cases d <;> rfl

/-- A conversion's notice and Shock Monitor leave standby and the zones (R156). -/
theorem converted_entry (v : Nat) (s : State) (h : EntryForm s) : EntryForm (converted v s) := by
  refine entryForm_congr ?_ (fun z => ?_) h
  · unfold converted; dsimp only; split
    · split <;> simp
    · rfl
  · unfold converted; dsimp only; split
    · split
      · rw [raiseNotice_zone]; cases z <;> rfl
      · cases z <;> rfl
    · rfl

theorem closeGuard_entry (s : State) (h : EntryForm s) : EntryForm (closeGuard s) := by
  by_cases hg : s.shock.guard = none
  · rw [closeGuard_closed s hg]; exact h
  · have hc := closeGuard_open s hg
    exact entryForm_congr hc.standby (fun | .one => congrArg Zone.state hc.zone1 | .two => congrArg Zone.state hc.zone2) h

theorem sampleDeck_phase (d : Deck) (s : State) : (sampleDeck d s).standby.phase = s.standby.phase := by
  unfold sampleDeck
  split
  · rw [(kept_discSuspect (D := anyDeck) trivial _).part.2.2.1, raiseNotice_standby, standby_setRecorded]
  · rfl

/-- Things raised together leave standby as one after the other does (log entry 10). -/
theorem together_standby (f g : State → State) (s : State) : (together f g s).standby = (g (f s)).standby := by
  obtain ⟨q, n, h⟩ := together_eq f g s
  rw [h]

theorem walks_wakeExpired (s : State) : Walks s (wakeExpired s) := by
  refine ⟨walked_wakeExpired s, fun h => ?_⟩
  unfold wakeExpired
  dsimp only
  split
  · next hp _ =>
    split
    · intro hph; rw [leaveStandby_phase] at hph; cases hph
    · intro hph
      dsimp only at hph
      rw [together_standby, sampleDeck_phase, sampleDeck_phase, hp] at hph
      cases hph
  · exact h

theorem entryForm_side (d : Deck) (f : TraySide → TraySide) (s : State) (h : EntryForm s) : EntryForm (onSide d f s) :=
  entryForm_congr (by cases d <;> rfl) (fun z => by cases d <;> cases z <;> rfl) h

theorem walks_side (d : Deck) (f : TraySide → TraySide) (s : State) : Walks s (onSide d f s) :=
  ⟨(Kept.side s d f).walked, entryForm_side d f s⟩

/-- What the rows of the clocks, lines and sensors do. -/
theorem walks_clockRow (i : Instr) (hc : clockRow i = true) (h : exec i s = .next t) : Walks s t := by
  cases i
  case frameEvent => exact .of_event (f := frame) (walked_frame s) h
  case blockBoundary => exact .of_event (f := fun s => if boundaryDue s then toSettled s else s) (.ite (walked_toSettled s) (.refl s)) h
  case rampStep z => exact .of_event (f := fun s => if rampDue z s then toRamped s else s) (.ite (walked_toRamped s) (.refl s)) h
  case concealClear z =>
    exact .of_event (f := fun s => if concealClears z s then toConcealed s else s) (.ite (walked_toConcealed s) (.refl s)) h
  case shockConversionComplete v => exact .of_whenUp (f := converted v.toNat) ⟨walked_converted _ s, converted_entry _ s⟩ h
  case guardTimerExpiry => exact .of_whenUp (f := closeGuard) ⟨walked_closeGuard s, closeGuard_entry s⟩ h
  case trayLineChange d l =>
    have h' : execTrayLineChange d l s = .next t := h
    unfold execTrayLineChange at h'
    split at h' <;> cases h'
    · exact walks_side d _ s
    · unfold trayLine
      dsimp only
      split
      · exact .refl s
      · exact walks_side d _ s
  case trayDebounceExpiry d => exact .of_event (f := trayDebounced d) (kept_trayDebounced trivial s).walked h
  case wakeTimerExpiry => exact .of_whenUp (f := wakeExpired) (walks_wakeExpired s) h
  case standbyEntryComplete => exact .of_whenUp (f := finishEntry) ⟨walked_finishEntry s, fun _ => finishEntry_entryForm s⟩ h
  all_goals cases hc

end Sys2Proof.Proofs
end


section
/-!
PROOFS. Settings change only by the commands that set them (R14, R45, R61, R74, R83, R129, R130, R162, R183, R199, R204).
-/

namespace Sys2Proof.Proofs

open Sys2Proof.Machine

variable {s t w : State} {i : Instr}

/-! ## Settings that stand -/

/-- Every setting that command `i` does not set is as it was, and so are the reset pin and the host link. -/
structure Stands (i : Instr) (s t : State) : Prop where
  pin         : t.resetPin = s.resetPin
  buffer      : t.port.buffer = s.port.buffer
  inHand      : t.port.inHand = s.port.inHand
  transmitter : t.port.transmitter = s.port.transmitter
  receiver    : t.port.receiver = s.port.receiver
  due         : s.port.resetDue = true → t.port.resetDue = true
  mask        : (∀ mask, i ≠ .setNoticeMask mask) → t.port.mask = s.port.mask
  shock       : (∀ v, i ≠ .setShock v) → settingsOfShock t.shock = settingsOfShock s.shock
  tray        : (∀ a b c e, i ≠ .setResume a b c e) → settingsOfTray t.tray = settingsOfTray s.tray
  wake        : (∀ v, i ≠ .standby v) → t.standby.wakeOnTray = s.standby.wakeOnTray ∧ t.standby.wakePeriod = s.standby.wakePeriod
  deck        : ∀ d, (∀ v, i ≠ .setDeck (deckByte d) v) →
    (t.deck d).link.seekTime = (s.deck d).link.seekTime ∧ (t.deck d).intake.gapLimit = (s.deck d).intake.gapLimit ∧
      ((∀ a b, i ≠ .setPool a b) → settingsOfDeck (t.deck d) = settingsOfDeck (s.deck d))
  cap         : (∀ a b, i ≠ .setPool a b) → ∀ d, (t.deck d).ring.cap = (s.deck d).ring.cap
  zone        : ∀ z, (∀ v, i ≠ .setZone (zoneByte z) v) →
    (t.zone z).source = (s.zone z).source ∧ ((∀ a b, i ≠ .setPool a b) → (t.zone z).set = (s.zone z).set)

theorem Stands.refl (i : Instr) (s : State) : Stands i s s :=
  ⟨rfl, rfl, rfl, rfl, rfl, id, fun _ => rfl, fun _ => rfl, fun _ => rfl, fun _ => ⟨rfl, rfl⟩, fun _ _ => ⟨rfl, rfl, fun _ => rfl⟩,
    fun _ _ => rfl, fun _ _ => ⟨rfl, fun _ => rfl⟩⟩

theorem Stands.trans (h : Stands i s t) (g : Stands i t w) : Stands i s w where
  pin := g.pin.trans h.pin
  buffer := g.buffer.trans h.buffer
  inHand := g.inHand.trans h.inHand
  transmitter := g.transmitter.trans h.transmitter
  receiver := g.receiver.trans h.receiver
  due := g.due ∘ h.due
  mask hi := (g.mask hi).trans (h.mask hi)
  shock hi := (g.shock hi).trans (h.shock hi)
  tray hi := (g.tray hi).trans (h.tray hi)
  wake hi := ⟨(g.wake hi).1.trans (h.wake hi).1, (g.wake hi).2.trans (h.wake hi).2⟩
  deck d hi :=
    ⟨(g.deck d hi).1.trans (h.deck d hi).1, (g.deck d hi).2.1.trans (h.deck d hi).2.1,
      fun hp => ((g.deck d hi).2.2 hp).trans ((h.deck d hi).2.2 hp)⟩
  cap hi d := (g.cap hi d).trans (h.cap hi d)
  zone z hi := ⟨(g.zone z hi).1.trans (h.zone z hi).1, fun hp => ((g.zone z hi).2 hp).trans ((h.zone z hi).2 hp)⟩

/-- What a deck's settings hold of its link and its Intake Unit (R14, R45). -/
theorem settingsOfDeck_linkIntake {u v : DeckUnit} (h : settingsOfDeck v = settingsOfDeck u) :
    v.link.seekTime = u.link.seekTime ∧ v.intake.gapLimit = u.intake.gapLimit := by
  simp only [settingsOfDeck, List.cons.injEq] at h
  obtain ⟨-, -, -, -, -, -, -, -, hgap, hseek, -⟩ := h
  exact ⟨hseek, hgap⟩

/-- The Message Port's fields but for its queue. -/
theorem fields_of_portFixed {p q : Port} (h : portFixed q = portFixed p) :
    q.buffer = p.buffer ∧ q.inHand = p.inHand ∧ q.transmitter = p.transmitter ∧ q.receiver = p.receiver ∧ q.mask = p.mask ∧
      q.resetDue = p.resetDue :=
  ⟨(congrArg Port.buffer h :), (congrArg Port.inHand h :), (congrArg Port.transmitter h :), (congrArg Port.receiver h :),
    (congrArg Port.mask h :), (congrArg Port.resetDue h :)⟩

/-- A walked row changes no setting. -/
theorem Walked.stands {D : Deck → Prop} (h : Walked D s t) (i : Instr) : Stands i s t where
  pin := h.pin
  buffer := (fields_of_portFixed h.kept.port).1
  inHand := (fields_of_portFixed h.kept.port).2.1
  transmitter := (fields_of_portFixed h.kept.port).2.2.1
  receiver := (fields_of_portFixed h.kept.port).2.2.2.1
  due hd := (fields_of_portFixed h.kept.port).2.2.2.2.2.trans hd
  mask _ := (fields_of_portFixed h.kept.port).2.2.2.2.1
  shock _ := h.shock
  tray _ := h.kept.tray
  wake _ := h.wake
  deck d _ := ⟨(settingsOfDeck_linkIntake (h.deck d).settings).1, (settingsOfDeck_linkIntake (h.deck d).settings).2, fun _ => (h.deck d).settings⟩
  cap _ d := (h.deck d).cap
  zone z _ := ⟨(h.zone z).source, fun _ => (h.zone z).set⟩

theorem Kept.stands {D : Deck → Prop} (h : Kept D s t) (i : Instr) : Stands i s t := h.walked.stands i

/-! ## One part changed alone -/

/-- The Message Port changed alone, its link as it was. -/
theorem stands_port (i : Instr) (s : State) (p : Port)
    (hlink : p.buffer = s.port.buffer ∧ p.inHand = s.port.inHand ∧ p.transmitter = s.port.transmitter ∧ p.receiver = s.port.receiver)
    (hdue : s.port.resetDue = true → p.resetDue = true) (hmask : (∀ m, i ≠ .setNoticeMask m) → p.mask = s.port.mask) : Stands i s { s with port := p } :=
  { Stands.refl i s with
    buffer := hlink.1, inHand := hlink.2.1, transmitter := hlink.2.2.1, receiver := hlink.2.2.2, due := hdue, mask := hmask
    deck := fun d _ => by cases d <;> exact ⟨rfl, rfl, fun _ => rfl⟩
    cap := fun _ d => by cases d <;> rfl
    zone := fun z _ => by cases z <;> exact ⟨rfl, fun _ => rfl⟩ }

/-- The Shock Monitor changed alone. -/
theorem stands_shock (i : Instr) (s : State) (m : Shock) (h : (∀ v, i ≠ .setShock v) → settingsOfShock m = settingsOfShock s.shock) :
    Stands i s { s with shock := m } :=
  { Stands.refl i s with
    shock := h
    deck := fun d _ => by cases d <;> exact ⟨rfl, rfl, fun _ => rfl⟩
    cap := fun _ d => by cases d <;> rfl
    zone := fun z _ => by cases z <;> exact ⟨rfl, fun _ => rfl⟩ }

/-- The Standby Controller changed alone. -/
theorem stands_standby (i : Instr) (s : State) (b : Standby)
    (h : (∀ v, i ≠ .standby v) → b.wakeOnTray = s.standby.wakeOnTray ∧ b.wakePeriod = s.standby.wakePeriod) :
    Stands i s { s with standby := b } :=
  { Stands.refl i s with
    wake := h
    deck := fun d _ => by cases d <;> exact ⟨rfl, rfl, fun _ => rfl⟩
    cap := fun _ d => by cases d <;> rfl
    zone := fun z _ => by cases z <;> exact ⟨rfl, fun _ => rfl⟩ }

/-! ## The commands that set something -/

theorem deckArg_some {b : Byte} {d : Deck} (h : deckArg b = some d) : b = deckByte d := by
  unfold deckArg at h
  split at h
  · next hb => cases h; exact hb
  · split at h
    · next hb => cases h; exact hb
    · cases h

theorem zoneArg_some {b : Byte} {z : ZoneId} (h : zoneArg b = some z) : b = zoneByte z := by
  unfold zoneArg at h
  split at h
  · next hb => cases h; exact hb
  · split at h
    · next hb => cases h; exact hb
    · cases h

theorem stands_setPool (a b : BitVec 16) (s : State) : Stands (.setPool a b) s (setPoolAnswer a.toNat b.toNat s).1 := by
  have hone : ∀ (d : Deck) (c : Nat) (s : State), Stands (.setPool a b) s (setCapacity d c s) := fun d c s => by
    obtain ⟨⟨hpin, hshock, hstandby, -, -⟩, hport, htray, -⟩ := setCapacity_fixed d c s
    refine ⟨hpin, by rw [hport], by rw [hport], by rw [hport], by rw [hport], by rw [hport]; exact id, fun _ => by rw [hport], fun _ => by rw [hshock],
      fun _ => by rw [htray], fun _ => by rw [hstandby]; exact ⟨rfl, rfl⟩, fun e _ => ?_, fun h => absurd rfl (h a b),
      fun z _ => ⟨setCapacity_source d c s z, fun h => absurd rfl (h a b)⟩⟩
    have hfixed : ((setCapacity d c s).deck e).link.seekTime = (s.deck e).link.seekTime ∧
        ((setCapacity d c s).deck e).intake.gapLimit = (s.deck e).intake.gapLimit := by
      by_cases he : e = d
      · rw [he, setCapacity_deck]; unfold recapped; split <;> exact ⟨rfl, rfl⟩
      · have hoe : e = otherDeck d := by cases d <;> cases e <;> simp_all [otherDeck]
        rw [hoe, setCapacity_other]; exact ⟨rfl, rfl⟩
    exact ⟨hfixed.1, hfixed.2, fun h => absurd rfl (h a b)⟩
  unfold setPoolAnswer
  dsimp only
  split
  · exact .refl _ s
  · split
    · exact .refl _ s
    · split
      · exact .refl _ s
      · exact (hone .a _ s).trans (hone .b _ _)

theorem stands_setDeck (deck : Byte) (v : DeckArgs) (s : State) : Stands (.setDeck deck v) s (setDeckAnswer deck v s).1 := by
  unfold setDeckAnswer
  split
  · exact .refl _ s
  · next d hd =>
    cases deckArg_some hd
    dsimp only
    rw [setDeck_eq]
    have hreset : Stands (.setDeck (deckByte d) v) s (onDeck d (resetBy v) s) := by
      have hcap : ∀ e, ((onDeck d (resetBy v) s).deck e).ring.cap = (s.deck e).ring.cap := fun e => by
        by_cases he : e = d
        · rw [he, onDeck_same]; rfl
        · rw [(DeckOnly.onDeck d (resetBy v) s).deck_of_ne e he]
      refine { Stands.refl (.setDeck (deckByte d) v) s with
        pin := by simp, buffer := by simp, inHand := by simp, transmitter := by simp, receiver := by simp, due := by simp, mask := fun _ => by simp
        shock := fun _ => by simp, tray := fun _ => by simp, wake := fun _ => by simp, zone := fun z _ => by simp
        deck := fun e he => ?_, cap := fun _ => hcap }
      have hne : e ≠ d := fun h => he v (by rw [h])
      rw [(DeckOnly.onDeck d (resetBy v) s).deck_of_ne e hne]
      exact ⟨rfl, rfl, fun _ => rfl⟩
    have hab := framed_abandonReached (D := Only d) (.self d) (onDeck d (resetBy v) s)
    obtain ⟨hpin, hshock, hstandby, -, -⟩ := hab.part
    have hport := fields_of_portFixed hab.port
    refine hreset.trans ⟨hpin, hport.1, hport.2.1, hport.2.2.1,
      hport.2.2.2.1, fun hd => hport.2.2.2.2.2.trans hd, fun _ => hport.2.2.2.2.1, fun _ => by rw [hshock], fun _ => hab.tray,
      fun _ => by rw [hstandby]; exact ⟨rfl, rfl⟩, fun e _ => ⟨(settingsOfDeck_linkIntake (hab.deck e).settings).1,
        (settingsOfDeck_linkIntake (hab.deck e).settings).2, fun _ => (hab.deck e).settings⟩, fun _ e => (hab.deck e).cap,
      fun z _ => ⟨(hab.zone z).source, fun _ => (hab.zone z).set⟩⟩

theorem stands_setZone (zone : Byte) (v : ZoneArgs) (s : State) : Stands (.setZone zone v) s (setZoneAnswer zone v s).1 := by
  unfold setZoneAnswer
  split
  · split
    · exact .refl _ s
    · next z src policy hz _ _ _ _ =>
      cases zoneArg_some hz
      dsimp only
      rw [setZone_eq]
      have hnote : Kept anyDeck s (if src = (s.zone z).source then s else setNote z none s) := .ite (.refl s) (.note s z none)
      refine (hnote.stands _).trans (.trans ?_ ((kept_starveTest (D := anyDeck) z _).stands _))
      generalize (if src = (s.zone z).source then s else setNote z none s) = u
      refine { Stands.refl (.setZone (zoneByte z) v) u with
        pin := by simp, buffer := by simp, inHand := by simp, transmitter := by simp, receiver := by simp, due := by simp, mask := fun _ => by simp
        shock := fun _ => by simp, tray := fun _ => by simp, wake := fun _ => by simp, deck := fun d _ => by simp
        cap := fun _ d => by simp, zone := fun y hy => ?_ }
      have hne : y = otherZone z := by
        have : y ≠ z := fun h => hy v (by rw [h])
        cases y <;> cases z <;> simp_all [otherZone]
      rw [hne, onZone_other]
      exact ⟨rfl, fun _ => rfl⟩
  · exact .refl _ s

theorem stands_setShock (v : ShockArgs) (s : State) : Stands (.setShock v) s (setShockAnswer v s).1 := by
  unfold setShockAnswer
  cases shockSettings v s.shock with
  | none => exact .refl _ s
  | some m =>
    have hset : ∀ x : Shock, Stands (.setShock v) s { s with shock := x } := fun x => stands_shock _ s x fun h => absurd rfl (h v)
    dsimp only
    unfold enableChanged
    dsimp only
    split
    · exact hset m
    · split
      · exact hset { m with converting := !inStandby _ }
      · exact (hset { m with converting := false, flag := false }).trans ((walked_closeGuard _).stands _)

theorem stands_standbyAnswer (v : Option (Byte × BitVec 16)) (s : State) : Stands (.standby v) s (standbyAnswer v s).1 := by
  have hgo : ∀ u : State, Stands (.standby v) u (if u.standby.phase = .awake then beginStandby u else u) := fun u =>
    ((Walked.ite (walked_beginStandby u) (.refl u)).stands _)
  unfold standbyAnswer
  dsimp only
  split
  · exact hgo s
  · split
    · exact .refl _ s
    · next period _ b _ =>
      exact (stands_standby _ s { s.standby with wakeOnTray := b, wakePeriod := clampTo 100 2000 period.toNat }
        (fun h => absurd rfl (h _))).trans (hgo _)

theorem stands_unlessStandby (i : Instr) (f : State → Answered) (s : State) (h : Stands i s (f s).1) :
    Stands i s (unlessStandby f s).1 := by
  unfold unlessStandby
  split
  · exact .refl i s
  · exact h

/-- A host command changes the settings it sets, and no other (R193 to R205). -/
theorem stands_hostAnswer (i : Instr) (s : State) : Stands i s (hostAnswer i s).1 := by
  by_cases ho : ordinary i = true
  · obtain ⟨f, hf, hk⟩ := kept_ordinary i ho
    rw [hf]
    exact stands_unlessStandby i f s ((hk s).stands i)
  cases i
  case resetPart => exact stands_port _ s _ ⟨rfl, rfl, rfl, rfl⟩ (fun _ => rfl) fun _ => rfl
  case takeNotices => exact stands_port _ s _ ⟨rfl, rfl, rfl, rfl⟩ id fun _ => rfl
  case setNoticeMask mask => exact stands_unlessStandby _ _ s (stands_port _ s _ ⟨rfl, rfl, rfl, rfl⟩ id fun h => absurd rfl (h mask))
  case setPool a b => exact stands_unlessStandby _ _ s (stands_setPool a b s)
  case standby v => exact stands_standbyAnswer v s
  case wake =>
    show Stands _ s (wakeAnswer s).1
    unfold wakeAnswer
    split
    · exact .refl _ s
    · exact .refl _ s
    · exact (walked_leaveStandby s).stands _
  case setDeck deck v => exact stands_unlessStandby _ _ s (stands_setDeck deck v s)
  case queryDeck deck control => exact (kept_queryDeck deck control s).1.stands _
  case queryDisc deck first => exact (congrArg (Stands _ s) (queryDisc_state deck first s)).mpr (.refl _ s)
  case setZone zone v => exact stands_unlessStandby _ _ s (stands_setZone zone v s)
  case queryZone zone control => exact (kept_queryZone zone control s).1.stands _
  case setShock v => exact stands_unlessStandby _ _ s (stands_setShock v s)
  case shockReport => exact stands_unlessStandby _ _ s (stands_shock _ s { s.shock with peak := 0 } fun _ => rfl)
  case clearShock => exact stands_unlessStandby _ _ s (stands_shock _ s { s.shock with flag := false } fun _ => rfl)
  case setResume a b rewind debounce =>
    refine stands_unlessStandby _ _ s ?_
    unfold setResumeAnswer
    split
    · exact { Stands.refl _ s with
        tray := fun h => absurd rfl (h a b rewind debounce)
        deck := fun d _ => by cases d <;> exact ⟨rfl, rfl, fun _ => rfl⟩
        cap := fun _ d => by cases d <;> rfl
        zone := fun z _ => by cases z <;> exact ⟨rfl, fun _ => rfl⟩ }
    · exact .refl _ s
  case queryResume position => exact (congrArg (Stands _ s) (queryResume_state position s)).mpr (.refl _ s)
  case load | unload | resetDeck | play | cue | pause | unpause | stop | setLevel | setMark | resume | forget => exact absurd rfl ho
  all_goals exact .refl _ s

/-- A host command's row settles its reply and nothing else (R191). -/
theorem stands_taken {f : State → Answered} (i : Instr) (hf : Stands i s (f s).1) (h : taken s f = .next t) : Stands i s t := by
  rcases whenUp_cases h with rfl | rfl
  · exact .refl i _
  · exact hf.trans (stands_port i _ _ ⟨rfl, rfl, rfl, rfl⟩ id fun _ => rfl)

/-! ## Every row -/

/-- Every row is a host command's, a deck link's, a clock's or a line's, the inter-byte timer's, or one that carries out another. -/
theorem row_kinds (i : Instr) :
    (∀ s, exec i s = taken s (hostAnswer i)) ∨ (∃ d, linkDeck i = some d) ∨ clockRow i = true ∨ i = .interByteTimerExpiry ∨
      carriesAnother i = true := by
  cases i
  case ident | resetPart | takeNotices | setNoticeMask | setPool | standby | wake | load | unload | resetDeck | setDeck | queryDeck
    | queryDisc | setZone | play | cue | pause | unpause | stop | setLevel | setMark | queryZone | setShock | shockReport
    | clearShock | setResume | queryResume | resume | forget => exact .inl fun _ => rfl
  case taken | declined | landed | seekMiss | trackSlip | discIn | slotEmpty | index | stowed | parked | deckTrouble
    | controlFrameDiscard | deckLinkByteTimeout | delivery | ackTimerExpiry | completionTimerExpiry | deliveryGapTimerExpiry
    | backoffTimerExpiry | deckLinkByteReceived => exact .inr (.inl ⟨_, rfl⟩)
  case frameEvent | blockBoundary | rampStep | concealClear | shockConversionComplete | guardTimerExpiry | trayLineChange
    | trayDebounceExpiry | wakeTimerExpiry | standbyEntryComplete => exact .inr (.inr (.inl rfl))
  case interByteTimerExpiry => exact .inr (.inr (.inr (.inl rfl)))
  case powerOnReset | softReset | hostFrameComplete | replySent | hostByteReceived => exact .inr (.inr (.inr (.inr rfl)))

/-- The inter-byte timer's expiry drops the frame in progress alone (R188). -/
theorem interByteExpired_stands (s : State) : ∃ r, Stands .interByteTimerExpiry { s with port := { s.port with receiver := r } } (interByteExpired s) := by
  unfold interByteExpired
  split
  · next h => exact ⟨.hunting, by rw [← h]; exact .refl _ s⟩
  · exact ⟨.hunting, (Kept.notice (D := anyDeck) _ .part (.linkError .timeout) rfl).stands _⟩
  · exact ⟨.hunting, (Kept.notice (D := anyDeck) _ .part (.linkError .timeout) rfl).stands _⟩

/-- Settles O18: every row's settings stand but those of the command that sets them. -/
theorem settingsChangeOnlyByTheirCommands : Obligations.SettingsChangeOnlyByTheirCommands := by
  intro i s t h hcarries
  have hall : Stands i s t ∨ i = .interByteTimerExpiry := by
    rcases row_kinds i with hhost | ⟨d, hd⟩ | hclock | hinter | hc
    · exact .inl (stands_taken i (stands_hostAnswer i s) ((hhost s).symm.trans h))
    · exact .inl ((linked_row i d hd h).walks.walked.stands i)
    · exact .inl ((walks_clockRow i hclock h).walked.stands i)
    · exact .inr hinter
    · rw [hc] at hcarries; cases hcarries
  rcases hall with g | rfl
  · exact ⟨g.pin, g.buffer, g.inHand, g.transmitter, fun _ => g.receiver, g.mask, g.shock, g.tray, g.wake, g.deck, g.cap, g.zone⟩
  · have hu : ∃ r, Stands .interByteTimerExpiry { s with port := { s.port with receiver := r } } t := by
      rcases whenUp_cases (f := interByteExpired) h with rfl | rfl
      · exact ⟨_, .refl _ _⟩
      · exact interByteExpired_stands s
    obtain ⟨r, g⟩ := hu
    exact ⟨g.pin, g.buffer, g.inHand, g.transmitter, fun hne => absurd rfl hne, g.mask, g.shock, g.tray, g.wake,
      fun | .a => g.deck .a | .b => g.deck .b, fun hp => fun | .a => g.cap hp .a | .b => g.cap hp .b,
      fun | .one => g.zone .one | .two => g.zone .two⟩

end Sys2Proof.Proofs
end


section
/-!
PROOFS. Every step keeps every form (R60 to R74, R84, R109 to R130, R163, R175, R186 to R190, R197, R204): the Message Port's rows, the
resets, and the forms settled one by one.
-/

namespace Sys2Proof.Proofs

open Sys2Proof.Machine

variable {s t w : State} {i : Instr}

/-! ## The Message Port's rows (R186 to R191) -/

/-- The reply settled (R191). -/
theorem row_settle {f : State → Answered} (h : RowKept s (f s).1) : RowKept s (settle (f s)) := h.trans (row_portOnly _ _ id)

theorem row_taken {f : State → Answered} (hf : RowKept s (f s).1) (h : taken s f = .next t) : RowKept s t := by
  rcases whenUp_cases h with rfl | rfl
  · exact .refl _
  · exact row_settle hf

/-- A frame in hand is answered by its owner, or by the Message Port alone (R191). -/
theorem answerFrame_state (f : HostFrame) (s : State) :
    (answerFrame f s).1.1 = s ∨ ∃ i, (answerFrame f s).1.1 = (hostAnswer i s).1 := by
  cases f with
  | bad tag => exact .inl rfl
  | good kind tag payload =>
    unfold answerFrame
    dsimp only
    split
    · exact .inl rfl
    · split
      · exact .inl rfl
      · exact .inl rfl
      · next i _ => exact .inr ⟨i, rfl⟩

theorem row_answerFrame (f : HostFrame) (s : State) : RowKept s (answerFrame f s).1.1 := by
  rcases answerFrame_state f s with h | ⟨i, h⟩
  · rw [h]; exact .refl s
  · rw [h]; exact row_hostAnswer i s

theorem row_onPort (f : Port → Port) (s : State) (h : (f s.port).queue = s.port.queue) : RowKept s (onPort f s) :=
  row_portOnly s (f s.port) (by rw [h]; exact id)

theorem row_takeFrame (s : State) : RowKept s (takeFrame s) := by
  by_cases hwait : s.port.inHand = true ∨ s.port.resetDue = true
  · rw [takeFrame_waiting s hwait]; exact .refl s
  · simp only [not_or, Bool.not_eq_true] at hwait
    unfold takeFrame
    split
    · exact (row_answerFrame _ s).trans ((row_onPort _ _ rfl).trans (row_onPort _ _ rfl))
    · exact .refl s

theorem row_linkError (k : LinkErrorCause) (s : State) : RowKept s (raiseNotice .part (.linkError k) s) :=
  (Kept.notice (D := anyDeck) s .part (.linkError k) rfl).row_zones fun z => by simp

theorem row_completeFrame (f : HostFrame) (s : State) : RowKept s (completeFrame f s) := by
  have h : RowKept s (onPort (fun p => { p with receiver := .hunting }) s) := row_onPort _ s rfl
  unfold completeFrame
  dsimp only
  split
  · exact h.trans ((row_onPort _ _ rfl).trans (row_takeFrame _))
  · exact h.trans (row_linkError _ _)

theorem row_hostByte (b : Byte) (s : State) : RowKept s (hostByte b s) := by
  unfold hostByte
  split
  · split
    · exact row_onPort _ s rfl
    · exact .refl s
  · split
    · exact row_onPort _ s rfl
    · exact row_completeFrame _ s
  · dsimp only
    split
    · exact row_completeFrame _ s
    · exact row_onPort _ s rfl

theorem row_interByteExpired (s : State) : RowKept s (interByteExpired s) := by
  have h : RowKept s (onPort (fun p => { p with receiver := .hunting }) s) := row_onPort _ s rfl
  unfold interByteExpired
  split
  · exact .refl s
  · exact h.trans (row_linkError _ _)
  · exact h.trans (row_linkError _ _)

/-! ## The resets (R208) -/

/-- The forms of a state whose blocks stand at their reset values but for the links' own fields. -/
theorem row_reset {t : State} (hdeck : ∀ d, (t.deck d).ring = Ring.reset ∧ (t.deck d).plan = Planner.reset ∧ (t.deck d).intake = Intake.reset)
    (hone : t.zone1 = Zone.reset .a) (htwo : t.zone2 = Zone.reset .b) (hshock : t.shock = Shock.reset) (hstandby : t.standby = Standby.reset)
    (hqueue : QueueForm t.port.queue) (htable : TableForm s.tray.table → TableForm t.tray.table) (hpending : t.pending = s.pending) :
    RowKept s t := by
  have hcap : t.deckA.ring.cap + t.deckB.ring.cap ≤ 1536 := by
    rw [show t.deckA.ring = _ from (hdeck .a).1, show t.deckB.ring = _ from (hdeck .b).1]; decide
  have hsized : ∀ d, (t.deck d).ring.sized := fun d => by rw [(hdeck d).1]; decide
  have htop : ∀ z, thresholdTop (t.zone z).source t = 768 := fun z => by
    cases z
    · rw [show t.zone .one = _ from hone]; exact congrArg Ring.cap (hdeck .a).1
    · rw [show t.zone .two = _ from htwo]; exact congrArg Ring.cap (hdeck .b).1
  refine ⟨⟨fun _ => hqueue, htable, fun z _ => ?_, fun z _ => ?_, fun _ _ => ⟨⟨?_, ?_⟩, fun z => ?_⟩, fun _ => ?_, fun _ => ?_, fun d => ⟨fun _ => ?_, fun _ _ => ?_⟩,
    hpending⟩, fun _ => ⟨hcap, hsized .a, hsized .b⟩⟩
  · cases z
    · rw [show t.zone .one = _ from hone]; decide
    · rw [show t.zone .two = _ from htwo]; decide
  · cases z
    · rw [show t.zone .one = _ from hone]; unfold RestOk; decide
    · rw [show t.zone .two = _ from htwo]; unfold RestOk; decide
  · rw [hone]; decide
  · rw [hone, htwo]; intro d; cases d <;> decide
  · rw [htop]
    cases z
    · rw [show t.zone .one = _ from hone]; decide
    · rw [show t.zone .two = _ from htwo]; decide
  · rw [hshock]; decide
  · intro hp; rw [hstandby] at hp; cases hp
  · rw [(hdeck d).1]; exact ringForm_idle _ rfl rfl rfl rfl
  · refine repairForm_empty _ ?_ ?_ ?_
    · rw [(hdeck d).2.1]; rfl
    · rw [(hdeck d).1]; rfl
    · rw [(hdeck d).2.2]; decide

theorem queueForm_reset {k : ResetKind} : QueueForm (Port.reset k).queue := by cases k <;> decide

theorem tableForm_nil : TableForm [] := ⟨Nat.zero_le _, List.nodup_nil⟩

theorem row_softReset (s : State) : RowKept s (softReset s) :=
  row_reset (fun d => by cases d <;> exact ⟨rfl, rfl, rfl⟩) rfl rfl rfl rfl queueForm_reset id rfl

theorem row_powerOnReset (p : Pin) (h : execPowerOnReset p s = .next t) : RowKept s t := by
  cases p <;> cases h
  · exact row_reset (fun d => by cases d <;> exact ⟨rfl, rfl, rfl⟩) rfl rfl rfl rfl ⟨List.nodup_nil, fun _ hn => absurd hn List.not_mem_nil⟩
      (fun _ => tableForm_nil) rfl
  · exact row_reset (fun d => by cases d <;> exact ⟨rfl, rfl, rfl⟩) rfl rfl rfl rfl queueForm_reset (fun _ => tableForm_nil) rfl

/-! ## Every row, every step -/

theorem row_replySent (s : State) : RowKept s (replySent s) := by
  unfold replySent
  split
  · exact row_softReset s
  · split
    · exact .refl s
    · exact (row_onPort _ s rfl).trans (row_takeFrame _)

/-- Every row keeps every form but the Message Port's. -/
theorem row_exec (i : Instr) (h : exec i s = .next t) : RowKept s t := by
  rcases row_kinds i with hhost | ⟨d, hd⟩ | hclock | rfl | hc
  · exact row_taken (row_hostAnswer i s) ((hhost s).symm.trans h)
  · exact (linked_row i d hd h).walks.row
  · exact (walks_clockRow i hclock h).row
  · rcases whenUp_cases (f := interByteExpired) h with rfl | rfl
    · exact .refl _
    · exact row_interByteExpired s
  · cases i
    case powerOnReset p => exact row_powerOnReset p h
    case softReset =>
      rcases whenUp_cases (f := softReset) h with rfl | rfl
      · exact .refl _
      · exact row_softReset s
    case hostFrameComplete b =>
      rcases whenUp_cases (f := fun s => if completesFrame b s then hostByte b s else s) h with rfl | rfl
      · exact .refl _
      · split
        · exact row_hostByte b s
        · exact .refl s
    case replySent =>
      rcases whenUp_cases (f := replySent) h with rfl | rfl
      · exact .refl _
      · exact row_replySent s
    case hostByteReceived b =>
      rcases whenUp_cases (f := hostByte b) h with rfl | rfl
      · exact .refl _
      · exact row_hostByte b s
    all_goals cases hc

/-- A step is a row taken on the queue's rest, or nothing (log entry 1). -/
theorem step_row (h : step s = .next t) : t = s ∨ ∃ i rest, exec i { s with pending := rest } = .next t := by
  cases hp : s.pending with
  | nil =>
    unfold step at h
    rw [hp] at h
    cases h
    exact .inl rfl
  | cons i rest =>
    rw [step_cons i rest s hp] at h
    exact .inr ⟨i, rest, h⟩

/-- A step keeps a property that no waiting command touches and every row keeps. -/
theorem step_keeps {P : State → Prop} (hpending : ∀ s rest, P s → P { s with pending := rest })
    (hrow : ∀ i s t, exec i s = .next t → P s → P t) {s t : State} (hs : P s) (h : step s = .next t) : P t := by
  rcases step_row h with rfl | ⟨i, rest, h⟩
  · exact hs
  · exact hrow i _ t h (hpending s rest hs)

/-! ## The forms, one by one -/

/-- Settles O3. -/
theorem commandsKeepTheQueue : Obligations.CommandsKeepTheQueue :=
  fun i _ _ h => (row_exec i h).pending

/-- The kinds and units that a notice queue may hold (R197). -/
def noticeKeys : List (NoticeUnit × NoticeKind) :=
  [(.zone .one, .zoneState), (.zone .one, .cueTaken), (.zone .one, .markReached), (.zone .two, .zoneState), (.zone .two, .cueTaken),
   (.zone .two, .markReached), (.deck .a, .deckState), (.deck .a, .discIdentified), (.deck .a, .repairAbandoned),
   (.deck .a, .trayChanged), (.deck .a, .resumeMatch), (.deck .a, .wake), (.deck .b, .deckState), (.deck .b, .discIdentified),
   (.deck .b, .repairAbandoned), (.deck .b, .trayChanged), (.deck .b, .resumeMatch), (.deck .b, .wake), (.part, .shock),
   (.part, .linkError), (.part, .resetDone)]

theorem mem_noticeKeys {u : NoticeUnit} {k : NoticeKind} (h : fitsUnit u k = true) : (u, k) ∈ noticeKeys := by
  cases u with
  | zone z => cases z <;> cases k <;> revert h <;> decide
  | deck d => cases d <;> cases k <;> revert h <;> decide
  | part => cases k <;> revert h <;> decide

/-- Settles O11: the rows raise notices of the units they name alone, and only 21 kinds and units fit. -/
theorem stepKeepsNoticeQueue : Obligations.StepKeepsNoticeQueue := by
  refine ⟨fun s t hs h => step_keeps (P := fun s => QueueForm s.port.queue) (fun _ _ => id) (fun i _ _ h => (row_exec i h).queue) hs h,
    fun q ⟨hnodup, hfits⟩ => ?_⟩
  have hsub : (q.map fun n => (n.unit, n.body.kind)) ⊆ noticeKeys := by
    intro x hx
    obtain ⟨n, hn, rfl⟩ := List.mem_map.1 hx
    exact mem_noticeKeys (hfits n hn).1
  have := List.Nodup.length_le_of_subset hnodup hsub
  rwa [List.length_map] at this

/-- Settles O13. -/
theorem stepKeepsSlotPool : Obligations.StepKeepsSlotPool :=
  fun _ _ hs h => step_keeps (P := PoolForm) (fun _ _ => id) (fun i _ _ h => (row_exec i h).pool) hs h

/-- Settles O15. -/
theorem stepKeepsZonesAndShock : Obligations.StepKeepsZonesAndShock := by
  refine ⟨fun s t hs h => ?_, fun s t hs h => ?_, fun s t hs h => ?_⟩
  · exact step_keeps (P := fun s => ZoneForm s.zone1 ∧ ZoneForm s.zone2) (fun _ _ => id)
      (fun i _ _ h ⟨h1, h2⟩ => ⟨(row_exec i h).zone .one h1, (row_exec i h).zone .two h2⟩) hs h
  · exact step_keeps (P := RestForm) (fun s rest hs => fun | .one => hs .one | .two => hs .two)
      (fun i _ _ h hs z => (row_exec i h).rest z (hs z)) hs h
  · refine step_keeps (P := fun s => SourcesForm s ∧ ThresholdForm s ∧ ShockForm s.shock ∧ EntryForm s) (fun s rest hs => ?_)
      (fun i s t h ⟨h1, h2, h3, h4⟩ => ?_) hs h
    · exact ⟨hs.1, fun | .one => hs.2.1 .one | .two => hs.2.1 .two, hs.2.2⟩
    · have hr := row_exec i h
      exact ⟨(hr.sources h1 h2).1, (hr.sources h1 h2).2, hr.shock h3, hr.entry h4⟩

/-- Settles O16. -/
theorem stepKeepsRingsAndRepairLists : Obligations.StepKeepsRingsAndRepairLists := by
  have hdeck : ∀ (s : State) rest (d : Deck), (State.deck { s with pending := rest } d) = s.deck d := fun s rest d => by cases d <;> rfl
  refine ⟨fun d s t hs h => ?_, fun d s t hs hp h => ?_⟩
  · exact step_keeps (P := fun s => RingForm (s.deck d).ring) (fun s rest hs => by rw [hdeck]; exact hs)
      (fun i _ _ h => ((row_exec i h).rings d).ring) hs h
  · exact (step_keeps (P := fun s => RingForm (s.deck d).ring ∧ RepairForm (s.deck d)) (fun s rest hs => by rw [hdeck]; exact hs)
      (fun i _ _ h hs => ⟨((row_exec i h).rings d).ring hs.1, ((row_exec i h).rings d).repair hs.1 hs.2⟩) ⟨hs, hp⟩ h).2

/-- A write puts the new record first and takes away the one of its fingerprint, or with 8 others the last (R175). -/
theorem placeRecord_facts (r : ResumeRecord) (table : List ResumeRecord) (ht : TableForm table) :
    (∀ before q after, table = before ++ q :: after → q.fingerprint = r.fingerprint → placeRecord r table = r :: (before ++ after)) ∧
      ((∀ q ∈ table, q.fingerprint ≠ r.fingerprint) →
        placeRecord r table = r :: (if table.length < 8 then table else table.dropLast)) := by
  obtain ⟨hlen, hnodup⟩ := ht
  have hkept : ∀ l : List ResumeRecord, (∀ x ∈ l, x.fingerprint ≠ r.fingerprint) → l.filter (fun x => x.fingerprint != r.fingerprint) = l :=
    fun l hl => List.filter_eq_self.2 fun x hx => by simpa using hl x hx
  refine ⟨?_, fun hnone => ?_⟩
  · rintro before q after rfl hq
    rw [List.map_append, List.map_cons, List.nodup_append] at hnodup
    obtain ⟨-, hafter, hbefore⟩ := hnodup
    have h1 : ∀ x ∈ before, x.fingerprint ≠ r.fingerprint := fun x hx h =>
      hbefore _ (List.mem_map_of_mem hx) _ List.mem_cons_self (h.trans hq.symm)
    have h2 : ∀ x ∈ after, x.fingerprint ≠ r.fingerprint := fun x hx h =>
      (List.nodup_cons.1 hafter).1 (by rw [hq, ← h]; exact List.mem_map_of_mem hx)
    rw [List.length_append, List.length_cons] at hlen
    unfold placeRecord
    rw [List.filter_append, List.filter_cons_of_neg (by simp [hq]), hkept _ h1, hkept _ h2]
    exact List.take_of_length_le (by simp [Config.resumeRecords]; omega)
  · unfold placeRecord
    rw [hkept _ hnone]
    split
    · exact List.take_of_length_le (by simp [Config.resumeRecords]; omega)
    · rw [List.dropLast_eq_take, show table.length = 8 by omega]; rfl

/-- Settles O12. -/
theorem stepKeepsResumeTable : Obligations.StepKeepsResumeTable :=
  ⟨fun _ _ hs h => step_keeps (P := fun s => TableForm s.tray.table) (fun _ _ => id) (fun i _ _ h => (row_exec i h).table) hs h,
    fun r table ht => ⟨tableForm_placeRecord r ht, placeRecord_facts r table ht⟩⟩

/-! ## The Message Port's link -/

/-- A frame in progress has a good length and no more bytes than it needs (R186, R187). -/
def ReceiverForm (r : Receiver) : Prop := ∀ len got, r = .body len got → 2 ≤ len ∧ len ≤ 66 ∧ got.length ≤ len

/-- The port's form before the oldest frame is taken (R190). -/
structure PortReady (p : Port) : Prop where
  held     : p.buffer.length ≤ 2
  sending  : p.inHand = true ↔ p.transmitter.isSome = true
  inHand   : p.inHand = true → p.buffer ≠ []
  receiver : ReceiverForm p.receiver

theorem portReady_of_form {p : Port} (h : PortForm p) : PortReady p := by
  obtain ⟨h1, h2, h3, -, h5⟩ := h
  exact ⟨h1, h2, h3, h5⟩

theorem portForm_of_ready {p : Port} (h : PortReady p) (hw : p.buffer ≠ [] → p.inHand = true ∨ p.resetDue = true) : PortForm p :=
  ⟨h.held, h.sending, h.inHand, hw, h.receiver⟩

/-- Where the link stands, so does its form. -/
theorem Stands.portForm (h : Stands i s t) (hs : PortForm s.port) : PortForm t.port := by
  obtain ⟨h1, h2, h3, h4, h5⟩ := hs
  unfold PortForm
  rw [h.buffer, h.inHand, h.transmitter, h.receiver]
  exact ⟨h1, h2, h3, fun hb => (h4 hb).imp_right h.due, h5⟩

theorem stands_answerFrame (f : HostFrame) (s : State) : ∃ i, Stands i s (answerFrame f s).1.1 := by
  rcases answerFrame_state f s with h | ⟨i, h⟩
  · exact ⟨.ident, by rw [h]; exact .refl _ s⟩
  · exact ⟨i, by rw [h]; exact stands_hostAnswer i s⟩

/-- The oldest frame is taken where nothing else is in hand (R190). -/
theorem portForm_takeFrame (h : PortReady s.port) : PortForm (takeFrame s).port := by
  by_cases hwait : s.port.inHand = true ∨ s.port.resetDue = true
  · rw [takeFrame_waiting s hwait]; exact portForm_of_ready h fun _ => hwait
  · simp only [not_or, Bool.not_eq_true] at hwait
    cases hb : s.port.buffer with
    | nil => rw [takeFrame_empty s hb]; exact portForm_of_ready h fun hne => absurd hb hne
    | cons f rest =>
      have htrans : s.port.transmitter = none := by
        have := h.sending
        rw [hwait.1] at this
        simpa using this
      rw [takeFrame_cons s f rest hwait.1 htrans hwait.2 hb]
      obtain ⟨i, hst⟩ := stands_answerFrame f s
      have hbuf : (answerFrame f s).1.1.port.buffer = s.port.buffer := hst.buffer
      have hrec : (answerFrame f s).1.1.port.receiver = s.port.receiver := hst.receiver
      refine portForm_of_ready ⟨?_, ⟨fun _ => rfl, fun _ => rfl⟩, fun _ => ?_, ?_⟩ fun _ => .inl rfl
      · exact Nat.le_trans (Nat.le_of_eq (congrArg List.length hbuf)) h.held
      · exact fun hnil => by rw [show (answerFrame f s).1.1.port.buffer = [] from hnil, hb] at hbuf; cases hbuf
      · intro len got hr
        exact h.receiver len got (hrec.symm.trans hr)

theorem receiverForm_hunting : ReceiverForm .hunting := fun _ _ h => by cases h

theorem portForm_linkError (k : LinkErrorCause) (h : PortForm s.port) : PortForm (raiseNotice .part (.linkError k) s).port :=
  ((Kept.notice (D := anyDeck) s .part (.linkError k) rfl).stands .ident).portForm h

/-- The port with another receiver keeps its form (R186). -/
theorem portForm_receiver {p : Port} (h : PortForm p) {r : Receiver} (hr : ReceiverForm r) : PortForm { p with receiver := r } := by
  obtain ⟨h1, h2, h3, h4, -⟩ := h
  exact ⟨h1, h2, h3, h4, hr⟩

theorem portForm_completeFrame (f : HostFrame) (h : PortForm s.port) : PortForm (completeFrame f s).port := by
  have hhunt := portForm_receiver h receiverForm_hunting
  unfold completeFrame
  dsimp only
  split
  · next hlt =>
    have hlt' : s.port.buffer.length < 2 := hlt
    refine portForm_takeFrame ⟨?_, hhunt.2.1, fun _ => ?_, receiverForm_hunting⟩
    · show (s.port.buffer ++ [f]).length ≤ 2
      rw [List.length_append]; simp; omega
    · show s.port.buffer ++ [f] ≠ []
      simp
  · exact portForm_linkError _ hhunt

theorem portForm_hostByte (b : Byte) (h : PortForm s.port) : PortForm (hostByte b s).port := by
  unfold hostByte
  split
  · split
    · exact portForm_receiver h fun _ _ hb => by cases hb
    · exact h
  · split
    · next hlen => exact portForm_receiver h fun _ _ hb => by cases hb; exact ⟨hlen.1, hlen.2, Nat.zero_le _⟩
    · exact portForm_completeFrame _ h
  · next len got hr =>
    dsimp only
    split
    · exact portForm_completeFrame _ h
    · next hne =>
      obtain ⟨h1, h2, h3⟩ := h.2.2.2.2 len got hr
      refine portForm_receiver h fun _ _ hb => ?_
      cases hb
      rw [List.length_append, List.length_singleton] at hne ⊢
      exact ⟨h1, h2, by omega⟩

theorem portForm_interByteExpired (h : PortForm s.port) : PortForm (interByteExpired s).port := by
  have hhunt := portForm_receiver h receiverForm_hunting
  unfold interByteExpired
  split
  · exact h
  · exact portForm_linkError _ hhunt
  · exact portForm_linkError _ hhunt

theorem portForm_idle {p : Port} (hb : p.buffer = []) (hi : p.inHand = false) (ht : p.transmitter = none) (hr : p.receiver = .hunting) :
    PortForm p :=
  portForm_of_ready ⟨by rw [hb]; exact Nat.zero_le _, by rw [hi, ht]; simp, by rw [hi]; simp, by rw [hr]; exact receiverForm_hunting⟩
    fun hne => absurd hb hne

theorem portForm_replySent (h : PortForm s.port) : PortForm (replySent s).port := by
  unfold replySent
  split
  · exact portForm_idle rfl rfl rfl rfl
  · split
    · exact h
    · refine portForm_takeFrame ⟨?_, ⟨fun hi => (nomatch hi), fun ht => (nomatch ht)⟩, fun hi => (nomatch hi), h.2.2.2.2⟩
      show s.port.buffer.tail.length ≤ 2
      have := h.1
      rw [List.length_tail]; omega

/-- Every row keeps the Message Port's link in its form. -/
theorem portForm_exec (i : Instr) (h : exec i s = .next t) (hs : PortForm s.port) : PortForm t.port := by
  have hgate : ∀ f : State → State, PortForm (f s).port → whenUp s f = .next t → PortForm t.port := fun f hf hw => by
    rcases whenUp_cases hw with rfl | rfl
    · exact hs
    · exact hf
  rcases row_kinds i with hhost | ⟨d, hd⟩ | hclock | rfl | hc
  · exact (stands_taken i (stands_hostAnswer i s) ((hhost s).symm.trans h)).portForm hs
  · exact ((linked_row i d hd h).walks.walked.stands i).portForm hs
  · exact ((walks_clockRow i hclock h).walked.stands i).portForm hs
  · exact hgate interByteExpired (portForm_interByteExpired hs) h
  · cases i
    case powerOnReset p =>
      have h' : execPowerOnReset p s = .next t := h
      cases p <;> cases h' <;> exact portForm_idle rfl rfl rfl rfl
    case softReset => exact hgate softReset (portForm_idle rfl rfl rfl rfl) h
    case hostFrameComplete b =>
      refine hgate (fun s => if completesFrame b s then hostByte b s else s) ?_ h
      split
      · exact portForm_hostByte b hs
      · exact hs
    case replySent => exact hgate replySent (portForm_replySent hs) h
    case hostByteReceived b => exact hgate (hostByte b) (portForm_hostByte b hs) h
    all_goals cases hc

/-- Settles O14: a frame is taken as soon as none is in hand, and only then. -/
theorem stepKeepsMessagePort : Obligations.StepKeepsMessagePort :=
  fun _ _ hs h => step_keeps (P := fun s => PortForm s.port) (fun _ _ => id) (fun i _ _ h => portForm_exec i h) hs h

end Sys2Proof.Proofs
end


section
/-!
PROOFS. The settings of the decks, SET_DECK and SET_POOL (R14, R45, R61, R74, R83, R90, R130).
-/

namespace Sys2Proof.Proofs

open Sys2Proof.Machine

/-! ## Host commands taken by an awake part (R191, R205) -/

/-- A command that standby refuses is answered by its owner in an awake part. -/
theorem exec_awake {i : Instr} {f : State → Answered} {s : State} (hi : exec i s = taken s (unlessStandby f)) (hs : Awake s) :
    exec i s = .next (settle (f s)) := by
  rw [hi, taken_up s _ hs.1, unlessStandby_awake f s hs.2]

/-- A change of a deck depends on what it makes of that deck alone. -/
theorem onDeck_congr {d : Deck} {f g : DeckUnit → DeckUnit} {s : State} (h : f (s.deck d) = g (s.deck d)) : onDeck d f s = onDeck d g s := by
  cases d
  · exact congrArg (fun u => { s with deckA := u }) h
  · exact congrArg (fun u => { s with deckB := u }) h

theorem onZone_congr {z : ZoneId} {f g : Zone → Zone} {s : State} (h : f (s.zone z) = g (s.zone z)) : onZone z f s = onZone z g s := by
  cases z
  · exact congrArg (fun u => { s with zone1 := u }) h
  · exact congrArg (fun u => { s with zone2 := u }) h

theorem settle_deck (a : Answered) (d : Deck) : (settle a).deck d = a.1.deck d := onPort_deck _ _ _
theorem settle_zone (a : Answered) (z : ZoneId) : (settle a).zone z = a.1.zone z := onPort_zone _ _ _

/-! ## What the zones' operations leave of the trays (R111, R117, R132) -/

@[simp] theorem mirrorZero_tray (s : State) : (mirrorZero s).tray = s.tray := by
  simp [mirrorZero, apply_ite State.tray]

@[simp] theorem mirrorSync_tray (s : State) : (mirrorSync s).tray = s.tray := by
  simp [mirrorSync, apply_ite State.tray]

@[simp] theorem mirrorStop_tray (why : StopReason) (s : State) : (mirrorStop why s).tray = s.tray := by
  simp [mirrorStop, apply_ite State.tray]

@[simp] theorem mirrorPrime_tray (s : State) : (mirrorPrime s).tray = s.tray := by
  simp [mirrorPrime, apply_ite State.tray]

@[simp] theorem follow_tray (z : ZoneId) (s : State) : (follow z s).tray = s.tray := by
  cases z
  · exact mirrorSync_tray s
  · rfl

@[simp] theorem starveTest_tray (z : ZoneId) (s : State) : (starveTest z s).tray = s.tray := by
  unfold starveTest
  dsimp only
  split
  · split
    · simp [apply_ite State.tray]
    · rfl
  · rfl

@[simp] theorem reportGoodDepth_tray (d : Deck) (s : State) : (reportGoodDepth d s).tray = s.tray := by
  unfold reportGoodDepth
  split
  · simp
  · rfl

/-! ## Entries abandoned at a lower attempt limit (R90) -/

theorem abandonEntry_tray (d : Deck) (e : Entry) (s : State) : (abandonEntry d e s).tray = s.tray := by
  simp [abandonEntry, retireSlots]

theorem abandonAll_tray (d : Deck) (es : List Entry) (s : State) : (abandonAll d es s).tray = s.tray := by
  induction es generalizing s with
  | nil => rfl
  | cons e rest ih => exact (ih _).trans (abandonEntry_tray d e s)

/-- What is left of a list stands at none of the abandoned places. -/
theorem abandonAll_entries (d : Deck) (es : List Entry) (s : State) (x : Entry) (hx : x ∈ ((abandonAll d es s).deck d).plan.entries) :
    x ∈ (s.deck d).plan.entries ∧ ∀ e ∈ es, x.spot ≠ e.spot := by
  induction es generalizing s with
  | nil => exact ⟨hx, fun e he => absurd he List.not_mem_nil⟩
  | cons e rest ih =>
    obtain ⟨hmem, hrest⟩ := ih _ hx
    obtain ⟨t, k, hdeck⟩ := abandonEntry_deck d e s
    rw [hdeck] at hmem
    obtain ⟨hin, hne⟩ := List.mem_filter.1 (show x ∈ (s.deck d).plan.entries.filter (fun x => x.spot != e.spot) from hmem)
    refine ⟨hin, fun y hy => ?_⟩
    rcases List.mem_cons.1 hy with rfl | hy
    · simpa using hne
    · exact hrest y hy

/-- No entry that has used up its attempts is left (R90). -/
theorem abandonReached_attempts (d : Deck) (s : State) (x : Entry) (hx : x ∈ ((abandonReached d s).deck d).plan.entries) :
    x.attempts < (s.deck d).plan.limit := by
  obtain ⟨hmem, hne⟩ := abandonAll_entries d _ s x hx
  exact Decidable.byContradiction fun hlt => hne x (List.mem_filter.2 ⟨hmem, by simpa using hlt⟩) rfl

theorem abandonReached_nil (d : Deck) (s : State) (h : (s.deck d).plan.entries = []) : abandonReached d s = s := by
  unfold abandonReached
  dsimp only
  rw [h]; rfl

/-! ## SET_DECK -/

theorem exec_setDeck (d : Deck) (v : DeckArgs) (s : State) (hs : Awake s) :
    exec (.setDeck (deckByte d) v) s = .next (replied .ok (deckSettings ((setDeck d v s).deck d)) (setDeck d v s)) := by
  rw [exec_awake (f := setDeckAnswer (deckByte d) v) rfl hs]
  unfold setDeckAnswer
  rw [deckArg_deckByte]; rfl

/-- The reply to SET_DECK holds the settings alone (R212). -/
theorem deckSettings_congr {u v : DeckUnit} (h : settingsOfDeck v = settingsOfDeck u) : deckSettings v = deckSettings u := by
  simp only [settingsOfDeck, List.cons.injEq, and_true] at h
  obtain ⟨h1, h2, h3, h4, h5, h6, h7, h8, h9, h10⟩ := h
  unfold deckSettings
  rw [h1, h2, h3, h4, h5, h6, h7, h8, h9, h10]

/-- The marks as R74 clamps them. -/
theorem clampMarks_eq (c high low : Nat) :
    clampMarks c high low =
      (if c = 0 then 0 else max 2 (min c high),
        if c = 0 then 0 else if (if c = 0 then 0 else max 2 (min c high)) ≤ max 1 low
          then (if c = 0 then 0 else max 2 (min c high)) - 1 else max 1 low) := by
  unfold clampMarks
  split <;> rfl

theorem clampTo_comm {lo hi v : Nat} (h : lo ≤ hi) : clampTo lo hi v = max lo (min hi v) := by
  unfold clampTo; omega

/-- Settles O38: the settings are set before the entries that they strike from the list. -/
theorem setDeckClampsItsSettings : Obligations.SetDeckClampsItsSettings := by
  intro d v s hs
  dsimp only
  have hset : ∀ u : DeckUnit, u = s.deck d → resetBy v u =
      { u with
        ring := { u.ring with high := (clampMarks (s.deck d).ring.cap v.high.toNat v.low.toNat).1
                              low := (clampMarks (s.deck d).ring.cap v.high.toNat v.low.toNat).2 }
        plan := { u.plan with
          floor := min (s.deck d).ring.cap v.floor.toNat, window := min (s.deck d).ring.cap v.window.toNat, lead := min 300 v.lead.toNat,
          threshold := max 1 (min 1176 v.threshold.toNat), limit := min 7 v.limit.toNat, overlap := min 4 v.overlap.toNat }
        intake := { u.intake with gapLimit := min 8 v.gapLimit.toNat }
        link := { u.link with seekTime := max 100 (min 3000 v.seekTime.toNat) } } := by
    rintro u rfl
    simp only [resetBy, clampTo_comm (show (1 : Nat) ≤ 1176 by decide), clampTo_comm (show (100 : Nat) ≤ 3000 by decide)]
  have hsame : (onDeck d (resetBy v) s).deck d = resetBy v (s.deck d) := onDeck_same ..
  have hab := framed_abandonReached (D := Only d) (.self d) (onDeck d (resetBy v) s)
  rw [clampMarks_eq] at hset
  have hdata : deckSettings ((setDeck d v s).deck d) = deckSettings (resetBy v (s.deck d)) := by
    rw [setDeck_eq, deckSettings_congr (hab.deck d).settings, hsame]
  refine ⟨fun hnil => ?_, ?_⟩
  · rw [exec_setDeck d v s hs, hdata, setDeck_eq, abandonReached_nil _ _ (by rw [hsame]; exact hnil), hset _ rfl]
    exact congrArg (fun u => Host.Outcome.next (replied .ok _ u)) (onDeck_congr (hset _ rfl))
  · refine ⟨_, exec_setDeck d v s hs, ?_, ?_, ?_, ?_, ?_, ?_, ?_⟩
    · rw [hdata, hset _ rfl]; rfl
    · have := (hab.deck d).settings
      rw [hsame, hset _ rfl, ← setDeck_eq] at this
      simp only [settingsOfDeck, List.cons.injEq] at this
      rw [replied_deck]; exact this.1
    · have := (hab.deck d).settings
      rw [hsame, hset _ rfl, ← setDeck_eq] at this
      simp only [settingsOfDeck, List.cons.injEq] at this
      rw [replied_deck]; exact this.2.1
    · intro e he
      rw [replied_deck, setDeck_eq] at he
      have := abandonReached_attempts d _ e he
      rwa [hsame] at this
    · rw [replied_deck, setDeck_eq, hab.other _ (by simp [Only]), onDeck_other]
    · rw [replied_tray, setDeck_eq]
      exact (abandonAll_tray d _ _).trans (onDeck_tray ..)
    · obtain ⟨h1, h2, h3, h4, h5⟩ := hab.part
      rw [← setDeck_eq] at h1 h2 h3 h4 h5
      simp only [onDeck_resetPin, onDeck_shock, onDeck_standby, onDeck_stage, onDeck_pending] at h1 h2 h3 h4 h5
      exact ⟨h1, h2, h3, h4, h5⟩

/-! ## SET_POOL -/

theorem exec_setPool (a b : BitVec 16) (s : State) (hs : Awake s) :
    exec (.setPool a b) s = .next (settle (setPoolAnswer a.toNat b.toNat s)) := exec_awake rfl hs

/-- The adjusted request, as R61 words it. -/
theorem adjustCapacity_eq (v : Nat) : adjustCapacity v = if v = 0 then 0 else if v < 96 then 96 else 32 * (v / 32) := by
  unfold adjustCapacity
  split <;> split <;> (try split) <;> omega

theorem zoneOf_isSome (d : Deck) (s : State) : (zoneOf d s).isSome = true ↔ s.zone1.source = .deck d ∨ s.zone2.source = .deck d := by
  rw [Option.isSome_iff_ne_none, ne_eq, zoneOf_none]
  simp only [ne_eq, Decidable.not_and_iff_not_or_not, Decidable.not_not]

theorem poolBusy_iff (d : Deck) (s : State) :
    poolBusy d s = true ↔ (s.deck d).ring.records ≠ [] ∨ (s.deck d).link.state = .seeking ∨ (s.deck d).link.state = .streaming ∨
      (s.deck d).link.state = .stalled := by
  simp [poolBusy, or_assoc]

/-- The answer of SET_POOL, refusal by refusal (R61). -/
theorem setPoolAnswer_eq (a b : Nat) (s : State) :
    setPoolAnswer a b s =
      if 1536 < adjustCapacity a + adjustCapacity b then (s, refusal .badArg)
      else if (adjustCapacity a = 0 ∧ (zoneOf .a s).isSome = true) ∨ (adjustCapacity b = 0 ∧ (zoneOf .b s).isSome = true) then
        (s, refusal .badArg)
      else if poolBusy .a s = true ∨ poolBusy .b s = true then (s, refusal .busy)
      else (setCapacity .b (adjustCapacity b) (setCapacity .a (adjustCapacity a) s),
        ok (be2 (adjustCapacity a) ++ be2 (adjustCapacity b))) := by
  simp only [setPoolAnswer, Config.poolSlots, Bool.or_eq_true]

/-- A deck with its new capacity, as R61, R74 and R83 give it. -/
theorem recapped_eq (c : Nat) (u : DeckUnit) :
    recapped c u = if u.ring.cap = c then u else
      { u with
        ring := { u.ring with cap := c, high := c - 16, low := if c = 0 then 0 else max 1 (c - 128) }
        plan := { u.plan with floor := min c u.plan.floor, window := min c u.plan.window } } := rfl

/-- The capacity of each deck after SET_POOL. -/
def capacityOf (ca cb : Nat) : Deck → Nat
  | .a => ca
  | .b => cb

/-- Both capacities taken (R61). -/
def repooled (ca cb : Nat) (s : State) : State := setCapacity .b cb (setCapacity .a ca s)

theorem repooled_deck (ca cb : Nat) (s : State) (d : Deck) : (repooled ca cb s).deck d = recapped (capacityOf ca cb d) (s.deck d) := by
  unfold repooled
  cases d
  · exact (setCapacity_other .b cb _).trans (setCapacity_deck .a ca s)
  · exact (setCapacity_deck .b cb _).trans (congrArg (recapped cb) (setCapacity_other .a ca s))

/-- A zone that does not play from a deck is as it was when the deck's capacity changes. -/
theorem setCapacity_zone_of_ne (d : Deck) (c : Nat) (s : State) (z : ZoneId) (h : (s.zone z).source ≠ .deck d) :
    (setCapacity d c s).zone z = s.zone z := by
  rw [setCapacity_zone, if_neg]
  rintro ⟨-, hz⟩
  exact h (zoneOf_source d s z hz)

theorem setCapacity_zone_of (d : Deck) (c : Nat) (s : State) (z : ZoneId) (h : zoneOf d s = some z) :
    (setCapacity d c s).zone z =
      if (s.deck d).ring.cap = c then s.zone z else onThresholds (fun v => min c (max 1 v)) (s.zone z) := by
  rw [setCapacity_zone]
  by_cases hc : (s.deck d).ring.cap = c
  · rw [if_neg (by simp [hc]), if_pos hc]
  · rw [if_pos ⟨hc, h⟩, if_neg hc]; rfl

theorem repooled_zone_of (ca cb : Nat) (s : State) (d : Deck) (z : ZoneId) (h : zoneOf d s = some z) :
    (repooled ca cb s).zone z =
      if (s.deck d).ring.cap = capacityOf ca cb d then s.zone z
      else onThresholds (fun v => min (capacityOf ca cb d) (max 1 v)) (s.zone z) := by
  have hsource := zoneOf_source d s z h
  unfold repooled
  cases d
  · rw [setCapacity_zone_of_ne .b cb _ z (by rw [setCapacity_source, hsource]; simp), setCapacity_zone_of .a ca s z h]; rfl
  · have hz : zoneOf .b (setCapacity .a ca s) = some z := by rw [zoneOf_congr (setCapacity_source .a ca s)]; exact h
    rw [setCapacity_zone_of .b cb _ z hz, setCapacity_zone_of_ne .a ca s z (by rw [hsource]; simp),
      show (setCapacity .a ca s).deck .b = s.deck .b from setCapacity_other .a ca s]; rfl

theorem repooled_zone_none (ca cb : Nat) (s : State) (z : ZoneId) (h : (s.zone z).deck? = none) : (repooled ca cb s).zone z = s.zone z := by
  have hne : ∀ d, (s.zone z).source ≠ .deck d := fun d hd => by unfold Zone.deck? at h; rw [hd] at h; cases h
  unfold repooled
  rw [setCapacity_zone_of_ne .b cb _ z (by rw [setCapacity_source]; exact hne _), setCapacity_zone_of_ne .a ca s z (hne _)]

theorem repooled_fixed (ca cb : Nat) (s : State) :
    SamePart s (repooled ca cb s) ∧ (repooled ca cb s).port = s.port ∧ (repooled ca cb s).tray = s.tray := by
  obtain ⟨⟨p1, p2, p3, p4, p5⟩, hport, htray, -⟩ := setCapacity_fixed .a ca s
  obtain ⟨⟨q1, q2, q3, q4, q5⟩, gport, gtray, -⟩ := setCapacity_fixed .b cb (setCapacity .a ca s)
  exact ⟨⟨q1.trans p1, q2.trans p2, q3.trans p3, q4.trans p4, q5.trans p5⟩, gport.trans hport, gtray.trans htray⟩

/-- Settles O34: the refusals in their order, then each deck's capacity. -/
theorem setPoolPartitionsThePool : Obligations.SetPoolPartitionsThePool := by
  intro a b s hs
  dsimp only
  simp only [← adjustCapacity_eq, ← zoneOf_isSome]
  rw [exec_setPool a b s hs, setPoolAnswer_eq]
  have hbusy : ∀ d, ((s.deck d).ring.records ≠ [] ∨ (s.deck d).link.state = .seeking ∨ (s.deck d).link.state = .streaming ∨
      (s.deck d).link.state = .stalled) ↔ poolBusy d s = true := fun d => (poolBusy_iff d s).symm
  refine ⟨fun hsum => ?_, fun hsum => ⟨fun hused => ?_, fun hfree => ⟨fun hb => ?_, fun hb => ?_⟩⟩⟩
  · rw [if_pos hsum]; rfl
  · rw [if_neg (by omega), if_pos hused]; rfl
  · rw [if_neg (by omega), if_neg hfree, if_pos (hb.imp (hbusy .a).1 (hbusy .b).1)]; rfl
  · have hquiet : ¬ (poolBusy .a s = true ∨ poolBusy .b s = true) := fun h => hb (h.imp (hbusy .a).2 (hbusy .b).2)
    obtain ⟨hpart, hport, htray⟩ := repooled_fixed (adjustCapacity a.toNat) (adjustCapacity b.toNat) s
    refine ⟨replied .ok (be2 (adjustCapacity a.toNat) ++ be2 (adjustCapacity b.toNat))
      (repooled (adjustCapacity a.toNat) (adjustCapacity b.toNat) s), ?_, rfl, fun d => ⟨?_, fun z hz => ?_⟩, fun z hz => ?_, htray, hpart,
      (congrArg Port.queue hport :)⟩
    · rw [exec_setPool a b s hs, setPoolAnswer_eq, if_neg (by omega), if_neg hfree, if_neg hquiet]; rfl
    · rw [replied_deck, repooled_deck, recapped_eq]
      cases d <;> rfl
    · rw [replied_zone, repooled_zone_of _ _ s d z hz]
      cases d <;> rfl
    · rw [replied_zone, repooled_zone_none _ _ s z hz]

end Sys2Proof.Proofs
end


section
/-!
PROOFS. The queries and SET_ZONE (R11, R36, R129, R130, R134, R213).
-/

namespace Sys2Proof.Proofs

open Sys2Proof.Machine

/-! ## QUERY_DECK, QUERY_ZONE and QUERY_DISC -/

theorem clearFlag_iff (control : Byte) : clearFlag control = true ↔ control.toNat % 2 = 1 := by
  simp [clearFlag, BitVec.getLsbD, Nat.testBit_zero]

theorem exec_queryDeck (d : Deck) (control : Byte) (s : State) (hs : Up s) :
    exec (.queryDeck (deckByte d) control) s = .next (settle (queryDeckAnswer (deckByte d) control s)) := taken_up s _ hs

theorem exec_queryZone (z : ZoneId) (control : Byte) (s : State) (hs : Up s) :
    exec (.queryZone (zoneByte z) control) s = .next (settle (queryZoneAnswer (zoneByte z) control s)) := taken_up s _ hs

theorem exec_queryDisc (d : Deck) (first : Byte) (s : State) (hs : Up s) :
    exec (.queryDisc (deckByte d) first) s = .next (settle (queryDiscAnswer (deckByte d) first s)) := taken_up s _ hs

theorem onDeck_onDeck (d : Deck) (f g : DeckUnit → DeckUnit) (s : State) : onDeck d f (onDeck d g s) = onDeck d (fun u => f (g u)) s := by
  cases d <;> rfl

/-- Page 0 makes the snapshot, and the clear flag clears the statistics (R36). -/
theorem queryDeckAnswer_first (d : Deck) (control : Byte) (s : State) (h : control.toNat / 2 % 4 = 0) :
    queryDeckAnswer (deckByte d) control s =
      (onDeck d (fun u =>
        if control.toNat % 2 = 1 then DeckUnit.cleared { u with snapshot := some (deckRecord d s) }
        else { u with snapshot := some (deckRecord d s) }) s, ok (s.deck d).link.page) := by
  have hpage : pageOf control = 0 := h
  unfold queryDeckAnswer
  simp only [deckArg_deckByte]
  rw [if_pos hpage]
  by_cases hc : control.toNat % 2 = 1
  · simp only [if_pos ((clearFlag_iff control).2 hc), if_pos hc, onDeck_onDeck]; rfl
  · simp only [if_neg (mt (clearFlag_iff control).1 hc), if_neg hc]; rfl

theorem queryDeckAnswer_later (d : Deck) (control : Byte) (s : State) (h : control.toNat / 2 % 4 ≠ 0) :
    queryDeckAnswer (deckByte d) control s = (s, laterPage (s.deck d).snapshot (control.toNat / 2 % 4)) := by
  have hpage : pageOf control ≠ 0 := h
  unfold queryDeckAnswer
  simp only [deckArg_deckByte]
  rw [if_neg hpage]; rfl

theorem queryZoneAnswer_first (z : ZoneId) (control : Byte) (s : State) (h : control.toNat / 2 % 4 = 0) :
    queryZoneAnswer (zoneByte z) control s =
      (onZone z (fun m =>
        { m with snapshot := some (zoneRecordPages z s), stats := if control.toNat % 2 = 1 then ⟨0, 0, 0, 0, 0⟩ else m.stats }) s,
        ok (shownZone z s).page0) := by
  have hpage : pageOf control = 0 := h
  unfold queryZoneAnswer
  simp only [zoneArg_zoneByte]
  rw [if_pos hpage]
  by_cases hc : control.toNat % 2 = 1
  · simp only [if_pos ((clearFlag_iff control).2 hc), if_pos hc, onZone_onZone]; rfl
  · simp only [if_neg (mt (clearFlag_iff control).1 hc), if_neg hc]; rfl

theorem queryZoneAnswer_later (z : ZoneId) (control : Byte) (s : State) (h : control.toNat / 2 % 4 ≠ 0) :
    queryZoneAnswer (zoneByte z) control s = (s, laterPage (s.zone z).snapshot (control.toNat / 2 % 4)) := by
  have hpage : pageOf control ≠ 0 := h
  unfold queryZoneAnswer
  simp only [zoneArg_zoneByte]
  rw [if_neg hpage]; rfl

theorem onOff_toNat (b : Bool) : onOff b = byte b.toNat := by cases b <;> rfl

theorem trackEntry_bytes (e : TrackEntry) : e.bytes = byte e.number :: be3 e.start ++ [byte e.data.toNat] := by
  rw [← onOff_toNat]; rfl

/-- Settles O39: the first page and the later pages, then the catalogue. -/
theorem queriesReadPagesAndDiscs : Obligations.QueriesReadPagesAndDiscs := by
  refine ⟨fun d control s hs => ?_, fun z control s hs => ?_, fun d first s hs => ?_⟩
  · refine ⟨fun hp hc => ?_, fun hp hc => ?_, fun hp hnone => ?_, fun p q r w hp hsome => ?_⟩
    · rw [exec_queryDeck d control s hs, queryDeckAnswer_first d control s hp]
      simp only [if_neg (show ¬ control.toNat % 2 = 1 by omega)]
      rfl
    · rw [exec_queryDeck d control s hs, queryDeckAnswer_first d control s hp]
      simp only [if_pos hc]
      rfl
    · rw [exec_queryDeck d control s hs, queryDeckAnswer_later d control s hp, hnone]; rfl
    · rw [exec_queryDeck d control s hs, queryDeckAnswer_later d control s hp, hsome]
      have hlt : control.toNat / 2 % 4 < 4 := Nat.mod_lt _ (by decide)
      generalize control.toNat / 2 % 4 = page at hp hlt
      obtain rfl | rfl | rfl : page = 1 ∨ page = 2 ∨ page = 3 := by omega
      all_goals rfl
  · refine ⟨fun hp => ?_, fun hp hnone => ?_, fun p q hp hsome => ?_⟩
    · rw [exec_queryZone z control s hs, queryZoneAnswer_first z control s hp]; rfl
    · rw [exec_queryZone z control s hs, queryZoneAnswer_later z control s hp, hnone]; rfl
    · rw [exec_queryZone z control s hs, queryZoneAnswer_later z control s hp, hsome]
      have hlt : control.toNat / 2 % 4 < 4 := Nat.mod_lt _ (by decide)
      generalize control.toNat / 2 % 4 = page at hp hlt
      obtain rfl | rfl | rfl : page = 1 ∨ page = 2 ∨ page = 3 := by omega
      all_goals rfl
  · rw [exec_queryDisc d first s hs]
    unfold queryDiscAnswer
    simp only [deckArg_deckByte]
    refine ⟨fun hnone => ?_, fun c hc => ?_⟩
    · rw [hnone]; rfl
    · rw [(usable_eq_some _ c).2 hc]
      dsimp only
      by_cases hn : c.entries.length ≤ first.toNat
      · rw [if_pos hn, if_pos hn]; rfl
      · rw [if_neg hn, if_neg hn, funext trackEntry_bytes]; rfl

/-! ## SET_ZONE -/

theorem exec_setZone (z : ZoneId) (v : ZoneArgs) (s : State) (hs : Awake s) :
    exec (.setZone (zoneByte z) v) s = .next (settle (setZoneAnswer (zoneByte z) v s)) := exec_awake rfl hs

theorem sourceArg_code (src : Source) : sourceArg (byte src.code) = some src := by
  cases src with
  | deck d => cases d <;> rfl
  | none => rfl
  | mirror => rfl

theorem policyArg_code (policy : Policy) : policyArg (byte policy.code) = some policy := by cases policy <;> rfl

theorem sourceArg_none {b : Byte} (h : 3 < b.toNat) : sourceArg b = none := by
  unfold sourceArg
  have hne : ∀ c : Byte, c.toNat ≤ 3 → b ≠ c := by
    rintro c hc rfl
    exact absurd h (Nat.not_lt.2 hc)
  rw [if_neg (hne 0 (by decide)), if_neg (hne 1 (by decide)), if_neg (hne 2 (by decide)), if_neg (hne 3 (by decide))]

theorem policyArg_none {b : Byte} (h : 1 < b.toNat) : policyArg b = none := by
  unfold policyArg
  have hne : ∀ c : Byte, c.toNat ≤ 1 → b ≠ c := by
    rintro c hc rfl
    exact absurd h (Nat.not_lt.2 hc)
  rw [if_neg (hne 0 (by decide)), if_neg (hne 1 (by decide))]

/-- SET_ZONE of a defined source and policy (R129). -/
theorem setZoneAnswer_eq (z : ZoneId) (src : Source) (policy : Policy) (v : ZoneArgs) (s : State) (hsrc : v.source = byte src.code)
    (hpol : v.policy = byte policy.code) :
    setZoneAnswer (zoneByte z) v s =
      (sourceRefused z src s).elim
        (setZone z src policy v s, ok (byte src.code :: (zoneSettings policy (thresholdTop src s) v).bytes))
        fun code => (s, refusal code) := by
  unfold setZoneAnswer
  rw [zoneArg_zoneByte, hsrc, sourceArg_code, hpol, policyArg_code]
  dsimp only
  cases sourceRefused z src s <;> rfl

/-- The refusals of R129 that the source itself gives. -/
def SourceBad (z : ZoneId) (src : Source) (s : State) : Prop :=
  (src = .mirror ∧ z = .one) ∨ ∃ d, src = .deck d ∧ ((s.deck d).ring.cap = 0 ∨ (s.zone (otherZone z)).source = .deck d)

theorem sourceRefused_bad {z : ZoneId} {src : Source} {s : State} (h : SourceBad z src s) : sourceRefused z src s = some .badArg := by
  rcases h with ⟨rfl, rfl⟩ | ⟨d, rfl, hbad⟩
  · rw [sourceRefused_mirror, if_pos rfl]
  · rw [sourceRefused_deck]
    rcases hbad with h | h
    · rw [if_pos h]
    · rw [if_pos h, ite_self]

theorem sourceRefused_good {z : ZoneId} {src : Source} {s : State} (h : ¬ SourceBad z src s) :
    sourceRefused z src s = sourceLocked z src s := by
  cases src with
  | none => exact sourceRefused_noSource z s
  | mirror => rw [sourceRefused_mirror, if_neg fun hz => h (.inl ⟨rfl, hz⟩)]
  | deck d =>
    rw [sourceRefused_deck, if_neg fun hc => h (.inr ⟨d, rfl, .inl hc⟩), if_neg fun ho => h (.inr ⟨d, rfl, .inr ho⟩)]

/-- Without STARVE, or STOPPED, a zone's thresholds are not tested (R117). -/
theorem starveTest_idle {z : ZoneId} {s : State} (h : (s.zone z).causes.starve = false ∨ (s.zone z).state = .stopped) :
    starveTest z s = s := by
  unfold starveTest
  dsimp only
  split
  · rw [if_neg]
    rintro ⟨h1, h2, -⟩
    rcases h with h | h
    · rw [h] at h1; cases h1
    · exact h2 h
  · rfl

theorem thresholdTop_deck (d : Deck) (s : State) : thresholdTop (.deck d) s = (s.deck d).ring.cap := rfl

/-- Settles O40: the source's own refusals, the lock of an active zone, and the settings taken. -/
theorem setZoneChecksAndClamps : Obligations.SetZoneChecksAndClamps := by
  intro z src policy v s hs
  dsimp only
  refine ⟨fun hbad => ?_, fun hsrc hpol => ⟨fun hbad => ?_, fun hgood hne hact => ?_, fun hgood hok => ?_⟩⟩
  · rw [exec_setZone z v s hs]
    unfold setZoneAnswer
    rw [zoneArg_zoneByte]
    rcases hbad with h | h
    · rw [sourceArg_none h]; rfl
    · rw [policyArg_none h]
      cases sourceArg v.source <;> rfl
  · rw [exec_setZone z v s hs, setZoneAnswer_eq z src policy v s hsrc hpol, sourceRefused_bad hbad]; rfl
  · rw [exec_setZone z v s hs, setZoneAnswer_eq z src policy v s hsrc hpol, sourceRefused_good hgood, sourceLocked, if_pos ⟨hne, hact⟩]; rfl
  · have hfree : sourceRefused z src s = none := by
      rw [sourceRefused_good hgood, sourceLocked, if_neg]
      rintro ⟨hne, hact⟩
      exact hok.elim (fun h => hne h.1) hact
    have hnote : ∀ y, (if src = (s.zone z).source then s else setNote z none s).zone y = s.zone y := fun y => by split <;> simp
    rw [exec_setZone z v s hs, setZoneAnswer_eq z src policy v s hsrc hpol, hfree, setZone_eq, starveTest_idle]
    · cases src with
      | deck d => rfl
      | none => rfl
      | mirror => rfl
    · rw [onZone_same, hnote]
      exact hok.imp (·.2) id

end Sys2Proof.Proofs
end


section
/-!
PROOFS. What the shared operations of a deck make of it, exactly: a release, a cancelled job, a flush, a command sent, a run opened (R23,
R38, R39, R79, R92, R106). Each is a change of the deck's blocks by a function of them.
-/

namespace Sys2Proof.Proofs

open Sys2Proof.Machine

/-- A tray's side is part of the trays. -/
theorem side_of_tray {s t : State} (h : t.tray = s.tray) (e : Deck) : t.side e = s.side e := by
  cases e <;> simp [h]

@[simp] theorem raiseNotice_side (u : NoticeUnit) (b : NoticeBody) (s : State) (e : Deck) : (raiseNotice u b s).side e = s.side e :=
  side_of_tray (raiseNotice_tray u b s) e

/-! ## Release, cancellation and flush -/

/-- A run context that the planner has closed (R38, R39). -/
def closedCtx (c : RunContext) : RunContext :=
  { c with status := .closed, span := none, anchor := none, lastPlaced := none, streak := 0, outcome := .none, blind := false,
           asked := false, reached := [] }

/-- The link of a deck released (R23). -/
def releasedLink (l : Link) : Link :=
  if l.state ∈ [.seeking, .streaming, .stalled] then { l.released with state := .ready, runTag := none, gapTimer := false } else l

/-- A deck released (R23, R39). -/
def releasedUnit (u : DeckUnit) : DeckUnit :=
  { u with link := releasedLink u.link, intake := { u.intake with ctx := closedCtx u.intake.ctx } }

theorem deckUnit_ext {u v : DeckUnit} (h1 : u.link = v.link) (h2 : u.intake = v.intake) (h3 : u.ring = v.ring) (h4 : u.plan = v.plan)
    (h5 : u.snapshot = v.snapshot) : u = v := by
  cases u; cases v; cases h1; cases h2; cases h3; cases h4; cases h5; rfl

theorem onLink_eq (d : Deck) (f : Link → Link) (s : State) : onLink d f s = onDeck d (fun u => { u with link := f u.link }) s := rfl

theorem closeRun_eq (d : Deck) (s : State) :
    closeRun d s = onDeck d (fun u => { u with intake := { u.intake with ctx := closedCtx u.intake.ctx } }) s := by cases d <;> rfl

theorem release_eq (d : Deck) (s : State) : release d s = onDeck d releasedUnit s := by
  have hl : releasedLink (s.deck d).link = match (s.deck d).link.state with
      | .stalled => if (s.deck d).link.proceeding then
          { Link.hasSent .stall (s.deck d).link with state := .ready, runTag := none, gapTimer := false }
        else { (s.deck d).link with state := .ready, runTag := none, gapTimer := false }
      | .seeking | .streaming => { Link.hasSent .stall (s.deck d).link with state := .ready, runTag := none, gapTimer := false }
      | _ => (s.deck d).link := by
    unfold releasedLink Link.released
    cases (s.deck d).link.state <;> simp
    split <;> rfl
  have hu : releasedUnit (s.deck d) =
      { s.deck d with link := releasedLink (s.deck d).link, intake := { (s.deck d).intake with ctx := closedCtx (s.deck d).intake.ctx } } := rfl
  unfold release
  simp only [send_stall]
  rw [closeRun_eq]
  rw [hl] at hu
  cases hst : (s.deck d).link.state <;> rw [hst] at hu <;> dsimp only at hu ⊢
  case stalled =>
    split
    · next hp =>
      rw [if_pos hp] at hu
      simp only [onLink_eq, onDeck_onDeck]
      exact onDeck_congr (by rw [hu]; rfl)
    · next hp =>
      rw [if_neg hp] at hu
      simp only [onLink_eq, onDeck_onDeck]
      exact onDeck_congr (by rw [hu])
  case seeking | streaming =>
    simp only [onLink_eq, onDeck_onDeck]
    exact onDeck_congr (by rw [hu]; rfl)
  all_goals exact onDeck_congr (by rw [hu])

/-- A planner whose job has been cancelled (R106). -/
def cancelledPlan (p : Planner) : Planner :=
  { p with job := .none, phase := .idle, target := none, backoff := false, backoffTarget := none, seekMisses := 0, voids := 0,
           recovery := false, flushAwaited := false }

theorem cancelJob_eq (d : Deck) (s : State) :
    cancelJob d s = onDeck d (fun u => { releasedUnit u with plan := cancelledPlan u.plan }) s := by
  unfold cancelJob
  rw [release_eq]
  exact onDeck_onDeck d _ _ s

/-- A deck flushed (R38, R79, R106). -/
def flushedUnit (u : DeckUnit) : DeckUnit :=
  { u with
    link := releasedLink u.link
    intake := { u.intake with abandoned := none, abandonedBy := 0, ctx := closedCtx u.intake.ctx }
    ring := u.ring.flushed
    plan := cancelledPlan { u.plan with entries := [] } }

theorem flush_eq (d : Deck) (s : State) : flush d s = zoneFlushed d (onDeck d flushedUnit s) := by
  unfold flush plannerFlushed intakeFlushed
  rw [cancelJob_eq, closeRun_eq]
  congr 1
  simp only [onPlan, onIntake, onRing, onDeck_onDeck]
  rfl

/-- The zone of a flushed ring (R139). -/
theorem zoneFlushed_eq (d : Deck) (s : State) : zoneFlushed d s = (zoneOf d s).elim s fun z => onZone z Zone.unheld s := by
  unfold zoneFlushed
  cases zoneOf d s <;> rfl

theorem flush_deck (d : Deck) (s : State) : (flush d s).deck d = flushedUnit (s.deck d) := by
  rw [flush_eq, zoneFlushed_eq]
  cases zoneOf d _ <;> simp

theorem zoneOf_onDeck (d e : Deck) (f : DeckUnit → DeckUnit) (s : State) : zoneOf e (onDeck d f s) = zoneOf e s :=
  zoneOf_congr (fun z => by rw [onDeck_zone]) e

theorem unheld_of_rest {n : Zone} (h : n.atRest) : n.unheld = n := by
  obtain ⟨h1, h2, h3, h4, -⟩ := h
  cases n
  simp_all [Zone.unheld]

theorem onZone_id (z : ZoneId) (f : Zone → Zone) (s : State) (h : f (s.zone z) = s.zone z) : onZone z f s = s :=
  (onZone_congr (g := id) h).trans (by cases z <;> rfl)

/-- A zone at rest does not notice a flush (R139). -/
theorem flush_of_rest (d : Deck) (s : State) (h : ∀ z, zoneOf d s = some z → (s.zone z).atRest) : flush d s = onDeck d flushedUnit s := by
  rw [flush_eq, zoneFlushed_eq, zoneOf_onDeck]
  cases hz : zoneOf d s with
  | none => rfl
  | some z => exact onZone_id z _ _ (by rw [onDeck_zone]; exact unheld_of_rest (h z hz))

/-! ## Commands sent and placed (R13, R14, R19, R20) -/

/-- The state of a deck that a mechanical command moves (R14). -/
def movedBy : DeckCommand → DeckState
  | .fetchDisc _ => .loading
  | .readIndex => .identifying
  | .stowDisc _ => .stowing
  | .park _ => .parking
  | .seek _ | .stall | .proceed | .linkReset => .ready

/-- The link after a mechanical command has been sent (R13, R14). -/
def movingLink (c : DeckCommand) (l : Link) : Link :=
  { Link.hasSent c l with state := movedBy c, runTag := none, gapTimer := false }

theorem send_mechanical (d : Deck) (c : DeckCommand) (hc : c.isMechanical = true) (who : Requester) (s : State) :
    send d { command := c, from_ := who, plan := none } s =
      raiseNotice (.deck d) (.deckState (movedBy c) none none none) (onLink d (movingLink c) s) := by
  cases c
  case fetchDisc | readIndex | stowDisc | park =>
    unfold send sentEffect announce
    dsimp only
    cases d <;> rfl
  all_goals cases hc

/-- A valid request on a link without a command is sent (R19). -/
theorem request_sent (d : Deck) (r : Request) (s : State) (hf : (s.deck d).link.state ≠ .fault)
    (hfree : ∀ o, (s.deck d).link.outstanding = some o → o.command.isMotion = true) (hv : (s.deck d).link.valid r.command = true) :
    request d r s = (send d r s, .sent) := by
  unfold request
  dsimp only
  rw [if_neg hf]
  cases ho : (s.deck d).link.outstanding with
  | none => dsimp only; rw [if_pos hv]
  | some o => dsimp only; rw [if_pos (hfree o ho), if_pos hv]

/-- A request behind a mechanical command or a reset waits where nothing does (R19, R20). -/
theorem request_waits (d : Deck) (r : Request) (s : State) (o : Outstanding) (hf : (s.deck d).link.state ≠ .fault)
    (ho : (s.deck d).link.outstanding = some o) (hm : o.command.isMotion = false)
    (hp : ∀ p q, o.command = .park p → r.command ≠ .park q) (hw : (s.deck d).link.waiting = none) :
    request d r s = (onLink d (fun l => { l with waiting := some r }) s, .waits) := by
  have hplace : placeWaiting d r s = (onLink d (fun l => { l with waiting := some r }) s, .waits) := by
    unfold placeWaiting; rw [hw]
  unfold request
  dsimp only
  rw [if_neg hf, ho]
  dsimp only
  rw [if_neg (by simp [hm])]
  split
  · next p q hop hrq => exact absurd hrq (hp p q hop)
  · exact hplace

/-! ## Runs opened (R39, R77, R92) -/

/-- The planner's entries as a run of the job leaves them (R92). -/
def entriesFor (p : RunPlan) (es : List Entry) : List Entry :=
  if p.job = .repair then
    es.map fun e => if e.first = p.target.addr ∧ e.seg = p.target.seg then { e with active := true, ofRun := true }
      else { e with active := false, ofRun := false }
  else es

/-- A deck whose planner has opened a run (R39, R77, R92). -/
def opened (tag : Tag) (p : RunPlan) (u : DeckUnit) : DeckUnit :=
  { u with
    intake := { u.intake with ctx :=
      { status := .opened, runTag := tag, job := p.job, target := p.target.addr, k := p.k, span := p.span, anchor := none,
        lastPlaced := none, streak := 0, outcome := .none,
        blind := u.intake.abandoned == some p.target && u.intake.abandonedBy == 3, asked := false, reached := [] } }
    ring := { u.ring with overflow := if p.job.isFetch then false else u.ring.overflow }
    plan := { u.plan with
      job := p.job, phase := .run, target := some p.target, entries := entriesFor p u.plan.entries
      stats := { u.plan.stats with
        repairRuns := if p.job = .repair then bump 1 u.plan.stats.repairRuns else u.plan.stats.repairRuns } } }

theorem openRun_eq (d : Deck) (tag : Tag) (p : RunPlan) (s : State) : openRun d tag p s = onDeck d (opened tag p) s := by
  obtain ⟨job, target, k, span⟩ := p
  cases job <;> cases d <;> rfl

/-- The link of a deck whose planner has sent a SEEK (R22). -/
def seekingLink (a : Nat) (l : Link) : Link :=
  { Link.hasSent (.seek a) l with
    state := .seeking, runTag := some l.nextTag, gapTimer := false, lastLanded := none, byDelivery := false }

/-- A deck whose planner has sent the SEEK of a run (R22, R39, R92). -/
def seekSent (p : RunPlan) (u : DeckUnit) : DeckUnit :=
  opened u.link.nextTag p { u with link := seekingLink (p.target.addr - p.k) u.link }

theorem send_run (d : Deck) (p : RunPlan) (s : State) :
    send d { command := .seek (p.target.addr - p.k), from_ := .planner, plan := some p } s = onDeck d (seekSent p) s := by
  unfold send sentEffect
  dsimp only
  rw [openRun_eq]
  cases d <;> rfl

/-- The planner's SEEK is sent where a run can start (R19, R22, R92). -/
theorem startRun_sent (d : Deck) (p : RunPlan) (s : State) (h : (s.deck d).link.startable) : startRun d p s = onDeck d (seekSent p) s := by
  have hf : (s.deck d).link.state ≠ .fault := fun hst => by have := h.1; rw [hst] at this; cases this
  have hsent := request_sent d { command := .seek (p.target.addr - p.k), from_ := .planner, plan := some p } s hf h.2 h.1
  rw [startRun_eq]
  dsimp only
  rw [hsent, if_pos rfl]
  exact send_run d p s

/-- The job's SEEK is sent at once where its target does not wait (R105). -/
theorem seekFor_eq (d : Deck) (job : Job) (t : Spot) (span : Option Span) (s : State) (h : (s.deck d).link.startable)
    (hb : ¬ ((s.deck d).plan.backoff = true ∧ (s.deck d).plan.backoffTarget = some t)) :
    seekFor d job t span s = onDeck d (seekSent (planFor (s.deck d) job t span)) s := by
  unfold seekFor
  dsimp only
  rw [if_neg hb]
  exact startRun_sent d _ s h

/-- A released deck's run can start (R22, R23). -/
theorem startable_released {l : Link} (h : l.startable) : (releasedLink l).startable := by
  unfold releasedLink
  split
  · refine ⟨rfl, fun o ho => ?_⟩
    unfold Link.released at ho
    have hs : (Link.hasSent .stall l).outstanding = some o → o.command.isMotion = true := by
      intro h'; rw [hasSent_outstanding] at h'; cases h'; rfl
    dsimp only at ho
    cases hst : l.state <;> rw [hst] at ho <;> dsimp only at ho
    case seeking | streaming => exact hs ho
    case stalled =>
      split at ho
      · exact hs ho
      · exact h.2 o ho
    all_goals exact h.2 o ho
  · exact h

end Sys2Proof.Proofs
end


section
/-!
PROOFS. LOAD and UNLOAD (R27, R30, R80, R176).
-/

namespace Sys2Proof.Proofs

open Sys2Proof.Machine

/-! ## LOAD -/

theorem exec_load (d : Deck) (slot : Byte) (s : State) (hs : Awake s) :
    exec (.load (deckByte d) slot) s = .next (settle (loadAnswer (deckByte d) slot s)) := exec_awake rfl hs

theorem loadAnswer_slot (d : Deck) (slot : Byte) (s : State) (h1 : 1 ≤ slot.toNat) (h6 : slot.toNat ≤ 6) :
    loadAnswer (deckByte d) slot s = loadDeck d slot.toNat s := by
  unfold loadAnswer
  rw [deckArg_deckByte]
  exact if_pos ⟨h1, h6⟩

theorem loadAnswer_badSlot (d : Deck) (slot : Byte) (s : State) (h : slot.toNat < 1 ∨ 6 < slot.toNat) :
    loadAnswer (deckByte d) slot s = (s, refusal .badArg) := by
  unfold loadAnswer
  rw [deckArg_deckByte]
  exact if_neg (by omega)

/-- A deck occupied or in a state that LOAD does not take (R27). -/
theorem loadDeck_refused (d : Deck) (slot : Nat) (s : State) :
    ((s.deck d).link.state ∈ [.loading, .identifying, .parking, .stowing] → loadDeck d slot s = (s, refusal .busy)) ∧
      ((s.deck d).link.state ∈ [.seeking, .streaming, .stalled, .parked, .fault] → loadDeck d slot s = (s, refusal .badState)) := by
  unfold loadDeck
  cases (s.deck d).link.state <;> simp [loadGate]

theorem loadGate_open {st : DeckState} (h : st ∈ [.noDisc, .ready]) : loadGate st = .open_ := by
  have hst : st = .noDisc ∨ st = .ready := by simpa using h
  rcases hst with rfl | rfl <;> rfl

theorem loadDeck_busyZone (d : Deck) (slot : Nat) (s : State) (h : (s.deck d).link.state ∈ [.noDisc, .ready]) (hz : zoneIdle d s = false) :
    loadDeck d slot s = (s, refusal .badState) := by
  unfold loadDeck
  rw [loadGate_open h]
  dsimp only
  rw [if_pos (by simp [hz])]

/-- A host's mechanical request on a free link is sent (R19). -/
theorem hostRequest_sent (d : Deck) (c : DeckCommand) (hc : c.isMechanical = true) (s : State) (hf : (s.deck d).link.state ≠ .fault)
    (ho : (s.deck d).link.outstanding = none) :
    request d (hostRequest c) s = (raiseNotice (.deck d) (.deckState (movedBy c) none none none) (onLink d (movingLink c) s), .sent) := by
  have hv : (s.deck d).link.valid c = true := by
    cases c
    case fetchDisc | readIndex | stowDisc | park => simpa [Link.valid] using hf
    all_goals cases hc
  rw [request_sent d (hostRequest c) s hf (fun o h => by rw [ho] at h; cases h) hv]
  exact congrArg (·, Placing.sent) (send_mechanical d c hc .host s)

theorem onLink_onLink (d : Deck) (f g : Link → Link) (s : State) : onLink d f (onLink d g s) = onLink d (fun l => f (g l)) s :=
  onDeck_onDeck d _ _ s

/-- LOAD of a deck without a disc (R27). -/
theorem loadDeck_empty (d : Deck) (slot : Nat) (s : State) (hst : (s.deck d).link.state = .noDisc) (hz : zoneIdle d s = true)
    (ho : (s.deck d).link.outstanding = none) :
    loadDeck d slot s =
      (raiseNotice (.deck d) (.deckState .loading none none none)
        (onLink d (fun l => { movingLink (.fetchDisc slot) l with lastSlot := some slot }) s), ok []) := by
  have hne : (s.deck d).link.state ≠ .fault := by rw [hst]; decide
  have hdrop : wouldDrop d (.fetchDisc slot) s = false := by
    unfold wouldDrop
    rw [hostRequest_sent d _ rfl s hne ho]
  have hslot : (onLink d (fun l => { l with lastSlot := some slot }) s).deck d =
      { s.deck d with link := { (s.deck d).link with lastSlot := some slot } } := onLink_same ..
  unfold loadDeck
  rw [loadGate_open (by rw [hst]; decide)]
  dsimp only
  rw [if_neg (by simp [hz]), if_neg (by rw [hst]; decide), if_neg (by simp [hdrop]),
    hostRequest_sent d _ rfl _ (by rw [hslot]; exact hne) (by rw [hslot]; exact ho)]
  dsimp only
  rw [onLink_onLink]
  rfl

/-- The state after LOAD of a READY deck (R5, R27). -/
def loadedFrom (d : Deck) (slot : Nat) (s : State) : State :=
  onLink d (fun l => { l with waiting := some (hostRequest (.fetchDisc slot)) })
    (raiseNotice (.deck d) (.deckState .stowing none none none)
      (onLink d (fun l => { movingLink (.stowDisc false) l with lastSlot := some slot }) (discardDisc d s)))

/-- LOAD of a READY deck: the disc is stowed first, and the fetch waits (R27). -/
theorem loadDeck_ready (d : Deck) (slot : Nat) (s : State) (hst : (s.deck d).link.state = .ready) (hz : zoneIdle d s = true)
    (ho : (s.deck d).link.outstanding = none) (hw : (s.deck d).link.waiting = none) :
    loadDeck d slot s = (loadedFrom d slot s, ok []) := by
  have hdeck : (onLink d (fun l => { l with lastSlot := some slot }) (discardDisc d s)).deck d =
      { s.deck d with link := { (s.deck d).link with disc := .absent, lastSlot := some slot } } := by
    rw [onLink_same, discardDisc_same]
  unfold loadDeck
  rw [loadGate_open (by rw [hst]; decide)]
  dsimp only
  rw [if_neg (by simp [hz]), if_pos hst]
  have hstow := hostRequest_sent d (.stowDisc false) rfl (onLink d (fun l => { l with lastSlot := some slot }) (discardDisc d s))
    (by rw [hdeck]; simp [hst]) (by rw [hdeck]; exact ho)
  rw [onLink_onLink] at hstow
  rw [hstow]
  have hmoved : (raiseNotice (.deck d) (.deckState .stowing none none none)
      (onLink d (fun l => { movingLink (.stowDisc false) l with lastSlot := some slot }) (discardDisc d s))).deck d =
      { s.deck d with link := { movingLink (.stowDisc false) (s.deck d).link with disc := .absent, lastSlot := some slot } } := by
    rw [raiseNotice_deck, onLink_same, discardDisc_same]; rfl
  unfold loadedFrom
  have hwait := request_waits d (hostRequest (.fetchDisc slot)) _ _ (by rw [hmoved]; exact DeckState.noConfusion)
    (by rw [hmoved]; exact hasSent_outstanding (.stowDisc false) (s.deck d).link) rfl (fun p q hp => by cases hp) (by rw [hmoved]; exact hw)
  exact congrArg (fun p => (Prod.fst p, ok [])) hwait

theorem loadedFrom_deck (d : Deck) (slot : Nat) (s : State) :
    ((loadedFrom d slot s).deck d).link =
      { movingLink (.stowDisc false) (s.deck d).link with
        disc := .absent, lastSlot := some slot, waiting := some (hostRequest (.fetchDisc slot)) } := by
  unfold loadedFrom
  rw [onLink_same, raiseNotice_deck, onLink_same, discardDisc_same]; rfl

/-- Settles O35: the gates of R27 in their order, then the two states that take a disc. -/
theorem loadFetchesADisc : Obligations.LoadFetchesADisc := by
  intro d slot s hs
  rw [exec_load d slot s hs]
  refine ⟨fun hbad => ?_, fun h1 h6 => ?_⟩
  · rw [loadAnswer_badSlot d slot s hbad]; rfl
  · rw [loadAnswer_slot d slot s h1 h6]
    obtain ⟨hbusy, hclosed⟩ := loadDeck_refused d slot.toNat s
    refine ⟨fun h => ?_, fun h => ?_, fun h hz => ?_, fun hz ho hw => ⟨fun hst => ?_, fun hst => ?_⟩⟩
    · rw [hbusy h]; rfl
    · rw [hclosed h]; rfl
    · rw [loadDeck_busyZone d _ s h hz]; rfl
    · rw [loadDeck_empty d _ s hst hz ho]; rfl
    · refine ⟨replied .ok [] (loadedFrom d slot.toNat s), ?_, rfl, ?_, ?_, ?_, ?_, ?_, fun e => ?_⟩
      · rw [exec_load d slot s hs, loadAnswer_slot d slot s h1 h6, loadDeck_ready d _ s hst hz ho hw]; rfl
      · rw [replied_deck, loadedFrom_deck]; rfl
      · simp [loadedFrom]
      · simp [loadedFrom]
      · simp [loadedFrom]
      · simp [loadedFrom, SamePart]
      · unfold loadedFrom
        cases d <;> cases e <;> simp [State.side, discardDisc]

/-! ## UNLOAD -/

theorem exec_unload (d : Deck) (s : State) (hs : Awake s) : exec (.unload (deckByte d)) s = .next (settle (unloadDeck d s)) := by
  rw [exec_awake (f := unloadAnswer (deckByte d)) rfl hs]
  unfold unloadAnswer
  rw [deckArg_deckByte]

theorem unloadDeck_refused (d : Deck) (s : State) :
    ((s.deck d).link.state ∈ [.loading, .identifying, .parking, .stowing] → unloadDeck d s = (s, refusal .busy)) ∧
      ((s.deck d).link.state ∈ [.seeking, .streaming, .parked, .fault] → unloadDeck d s = (s, refusal .badState)) ∧
      ((s.deck d).link.state ∈ [.noDisc, .ready, .stalled] → zoneIdle d s = false → unloadDeck d s = (s, refusal .badState)) := by
  unfold unloadDeck
  cases (s.deck d).link.state <;> simp [unloadGate]
  all_goals intro h; simp [h]

@[simp] theorem unloadRecord_deck (d : Deck) (s : State) (e : Deck) : (unloadRecord d s).deck e = s.deck e :=
  (kept_unloadRecord (D := fun _ => False) d s).toFramed.decks e

@[simp] theorem consumeNote_zone (z : ZoneId) (why : ResumeReason) (m : StopNote) (s : State) (y : ZoneId) :
    (consumeNote z why m s).zone y = s.zone y := by cases z <;> cases y <;> rfl

@[simp] theorem unloadRecord_zone (d : Deck) (s : State) (y : ZoneId) : (unloadRecord d s).zone y = s.zone y := by
  unfold unloadRecord
  split
  · split
    · split <;> simp
    · rfl
  · rfl

@[simp] theorem unloadRecord_side (d : Deck) (s : State) (e : Deck) : (unloadRecord d s).side e = s.side e := by
  unfold unloadRecord
  split
  · next z _ =>
    split
    · split
      · cases z <;> cases e <;> rfl
      · rfl
    · rfl
  · rfl

/-- The record that UNLOAD writes from a stop note (R176). -/
theorem unloadRecord_table (d : Deck) (s : State) (z : ZoneId) (m : StopNote) (hz : zoneOf d s = some z) (hm : s.note z = some m)
    (hd : m.deck = d) :
    (unloadRecord d s).tray.table = if m.reason = .host then placeRecord (noteRecord z .unload m) s.tray.table else s.tray.table := by
  unfold unloadRecord
  rw [hz]
  dsimp only
  rw [hm]
  dsimp only
  by_cases hr : m.reason = .host
  · rw [if_pos ⟨hr, hd⟩, if_pos hr]; cases z <;> rfl
  · rw [if_neg (fun h => hr h.1), if_neg hr]

/-- The disc of a deck that is told to stow (R30). -/
def stowedDisc (l : Link) : Disc := if l.state = .ready then .absent else l.disc

/-- The state in which UNLOAD requests its STOW_DISC (R30). -/
def unloading (d : Deck) (s : State) : State :=
  if (s.deck d).link.state = .ready then discardDisc d (unloadRecord d s) else unloadRecord d s

theorem unloading_deck (d : Deck) (s : State) :
    (unloading d s).deck d =
      { s.deck d with link := { (s.deck d).link with disc := stowedDisc (s.deck d).link } } := by
  unfold unloading stowedDisc
  split <;> simp

/-- The state after UNLOAD (R30, R80). -/
def unloaded (d : Deck) (s : State) : State :=
  onDeck d flushedUnit (raiseNotice (.deck d) (.deckState .stowing none none none) (onLink d (movingLink (.stowDisc true)) (unloading d s)))

theorem unloading_zone (d : Deck) (s : State) (y : ZoneId) : (unloading d s).zone y = s.zone y := by
  unfold unloading; split <;> simp

/-- An idle deck's zone is at rest (R113). -/
theorem zone_atRest_of_idle {d : Deck} {s : State} (hrest : RestForm s) (hz : zoneIdle d s = true) :
    ∀ z, zoneOf d s = some z → (s.zone z).atRest := fun z h => by
  unfold zoneIdle at hz
  rw [h] at hz
  exact hrest z (by simpa using hz)

theorem unloadDeck_taken (d : Deck) (s : State) (hst : (s.deck d).link.state = .noDisc ∨ (s.deck d).link.state = .ready)
    (hz : zoneIdle d s = true) (hrest : RestForm s) (ho : (s.deck d).link.outstanding = none) :
    unloadDeck d s = (unloaded d s, ok []) := by
  have hne : (s.deck d).link.state ≠ .fault := by rcases hst with h | h <;> rw [h] <;> decide
  have hdrop : wouldDrop d (.stowDisc true) s = false := by
    unfold wouldDrop
    rw [hostRequest_sent d _ rfl s hne ho]
  have hgate : unloadGate (s.deck d).link.state = .open_ := by rcases hst with h | h <;> rw [h] <;> rfl
  have hu := unloading_deck d s
  unfold unloadDeck
  rw [hgate]
  dsimp only
  have hstate : ((unloadRecord d s).deck d).link.state = (s.deck d).link.state := by rw [unloadRecord_deck]
  have hstalled : ¬ ((unloadRecord d s).deck d).link.state = .stalled := by
    rw [hstate]; rcases hst with h | h <;> rw [h] <;> decide
  rw [if_neg (by simp [hz]), if_neg (by simp [hdrop]), if_neg hstalled, hstate]
  change (flush d (request d (hostRequest (.stowDisc true)) (unloading d s)).1, ok []) = _
  rw [hostRequest_sent d _ rfl _ (by rw [hu]; exact hne) (by rw [hu]; exact ho)]
  dsimp only
  rw [flush_of_rest]
  · rfl
  · intro z hzo
    have hsrc : ∀ y, ((raiseNotice (.deck d) (.deckState (movedBy (.stowDisc true)) none none none)
        (onLink d (movingLink (.stowDisc true)) (unloading d s))).zone y) = s.zone y := fun y => by
      rw [raiseNotice_zone, onLink_zone, unloading_zone]
    rw [hsrc]
    rw [zoneOf_congr (fun y => congrArg Zone.source (hsrc y))] at hzo
    exact zone_atRest_of_idle hrest hz z hzo

/-- The link of a deck that does not move is not released (R23). -/
theorem releasedLink_still {l : Link} (h : l.state ∉ [.seeking, .streaming, .stalled]) : releasedLink l = l := if_neg h

/-- A mechanical command's deck does not move (R14). -/
theorem moving_notMem {c : DeckCommand} {l : Link} (hc : c.isMechanical = true) :
    (movingLink c l).state ∉ [.seeking, .streaming, .stalled] := by
  change movedBy c ∉ _
  cases c
  case fetchDisc | readIndex | stowDisc | park => simp [movedBy]
  all_goals cases hc

theorem unloaded_deck (d : Deck) (s : State) :
    (unloaded d s).deck d =
      flushedUnit { s.deck d with link := movingLink (.stowDisc true) { (s.deck d).link with disc := stowedDisc (s.deck d).link } } := by
  unfold unloaded
  rw [onDeck_same, raiseNotice_deck, onLink_same, unloading_deck]

theorem flushedUnit_emptied (u : DeckUnit) : (flushedUnit u).emptied :=
  ⟨rfl, rfl, rfl, rfl, rfl, rfl, rfl, rfl, rfl, rfl, rfl, rfl, rfl, rfl, rfl⟩

/-- Settles O36: the gates of R30, the stop note's record, and STOW_DISC over a flushed ring. -/
theorem unloadStowsTheDisc : Obligations.UnloadStowsTheDisc := by
  intro d s hs
  rw [exec_unload d s hs]
  obtain ⟨hbusy, hclosed, hzone⟩ := unloadDeck_refused d s
  refine ⟨fun h => ?_, fun h => ?_, fun h hz => ?_, fun hst hz hrest ho hw => ?_⟩
  · rw [hbusy h]; rfl
  · rw [hclosed h]; rfl
  · rw [hzone h hz]; rfl
  · have hlink : ((unloaded d s).deck d).link = movingLink (.stowDisc true) { (s.deck d).link with disc := stowedDisc (s.deck d).link } := by
      rw [unloaded_deck]
      exact releasedLink_still (moving_notMem (c := .stowDisc true) rfl)
    have htaken := unloadDeck_taken d s hst hz hrest ho
    have hkept : Kept anyDeck s (unloaded d s) := by
      have h := kept_unloadAnswer (deckByte d) s
      unfold unloadAnswer at h
      rw [deckArg_deckByte] at h
      dsimp only at h
      rwa [htaken] at h
    refine ⟨replied .ok [] (unloaded d s), ?_, rfl, ?_, ?_, fun hr => ?_, ?_, ?_, ?_, ?_, ?_, fun e => ?_, fun z m hzo hm hd => ?_⟩
    · rw [exec_unload d s hs, htaken]; rfl
    · rw [replied_deck, hlink]; rfl
    · rw [replied_deck, hlink]; rfl
    · rw [replied_deck, hlink]; exact if_pos hr
    · rw [replied_deck, unloaded_deck]; exact flushedUnit_emptied _
    · rw [replied_deck]
      unfold unloaded unloading
      split <;> simp
    · rw [replied_zone1]
      have := unloading_zone d s .one
      unfold unloaded
      simpa using this
    · rw [replied_zone2]
      have := unloading_zone d s .two
      unfold unloaded
      simpa using this
    · exact hkept.part
    · show (unloaded d s).side e = s.side e
      unfold unloaded unloading
      split <;> simp
    · have htable : (unloaded d s).tray.table = (unloadRecord d s).tray.table := by
        unfold unloaded unloading
        split <;> simp
      rw [replied_tray, htable, unloadRecord_table d s z m hzo hm hd, ← hd]
      rfl

end Sys2Proof.Proofs
end


section
/-!
PROOFS. CUE, PAUSE, UNPAUSE and STOP (R123 to R126, R132, R194).
-/

namespace Sys2Proof.Proofs

open Sys2Proof.Machine

/-! ## No mirror (R131) -/

theorem mirroring_of_ne {s : State} (h : s.zone2.source ≠ .mirror) : mirroring s = false := by
  simpa [mirroring] using h

theorem mirrorSync_of_none {s : State} (h : mirroring s = false) : mirrorSync s = s := by
  simp [mirrorSync, mirrorActive, h]

theorem mirrorStop_of_none {s : State} (h : mirroring s = false) (why : StopReason) : mirrorStop why s = s := by
  simp [mirrorStop, mirrorActive, h]

theorem mirrorPrime_of_none {s : State} (h : mirroring s = false) : mirrorPrime s = s := by
  simp [mirrorPrime, h]

theorem follow_of_none {s : State} (h : mirroring s = false) (z : ZoneId) : follow z s = s := by
  cases z
  · exact mirrorSync_of_none h
  · rfl

theorem mirrorTold_of_none {s : State} (h : mirroring s = false) (why : StopReason) (z : ZoneId) : mirrorTold why z s = s := by
  cases z
  · exact mirrorStop_of_none h why
  · rfl

/-- A cause raised above the ramp's foot only stands in the set (R112). -/
theorem raised_above {z : ZoneId} {s : State} (h : mirroring s = false) (hr : (s.zone z).ramp ≠ 0) : raised z s = s := by
  unfold raised
  rw [follow_of_none h]
  exact if_neg hr

theorem mirroring_congr {s t : State} (h : t.zone2.source = s.zone2.source) : mirroring t = mirroring s := by
  unfold mirroring; rw [h]

/-- A change of a zone that keeps its source keeps the mirror's. -/
theorem mirroring_onZone (z : ZoneId) (f : Zone → Zone) (s : State) (h : ∀ n, (f n).source = n.source) :
    mirroring (onZone z f s) = mirroring s := by
  cases z
  · rfl
  · exact mirroring_congr (h _)

theorem unmirrored_onZone {z : ZoneId} {f : Zone → Zone} {s : State} (hm : mirroring s = false) (h : ∀ n, (f n).source = n.source) :
    mirroring (onZone z f s) = false := (mirroring_onZone z f s h).trans hm

@[simp] theorem mirroring_onDeck (d : Deck) (f : DeckUnit → DeckUnit) (s : State) : mirroring (onDeck d f s) = mirroring s :=
  mirroring_congr (by rw [onDeck_zone2])

theorem deck?_of_source {n : Zone} {d : Deck} (h : n.source = .deck d) : n.deck? = some d := by
  unfold Zone.deck?; rw [h]

/-! ## CUE -/

/-- A ring that fetches its current range and holds no cue record takes a cue as its copy (R73, R100). -/
theorem cueRing_current {d : Deck} {s : State} (hp : (s.deck d).ring.phase = .current) (hc : (s.deck d).ring.cueRecords = [])
    (c : Option PlayRange) : cueRing d c s = onRing d (fun r => { r with cueCopy := c }) s := by
  have hcut : truncateCue d s = s := by rw [truncateCue_eq, if_pos (by simp [hc])]
  unfold cueRing
  dsimp only
  rw [hcut, hp]

/-- The range that a CUE names, as numbers. -/
def askedRange (given : Option (BitVec 24 × BitVec 24)) : Option (Nat × Nat) := given.map fun p => (p.1.toNat, p.2.toNat)

theorem exec_cue (z : ZoneId) (given : Option (BitVec 24 × BitVec 24)) (s : State) (hs : Awake s) :
    exec (.cue (zoneByte z) given) s = .next (settle (cueAnswer (zoneByte z) (askedRange given) s)) := exec_awake rfl hs

/-- The answer of a CUE that names a range (R123). -/
theorem cueAnswer_some (z : ZoneId) (a b : Nat) (s : State) (hopen : ¬ ((s.zone z).source = .mirror ∨ (s.zone z).state = .stopped)) :
    (∀ code, zoneRange z a b s = .refused code → cueAnswer (zoneByte z) (some (a, b)) s = (s, refusal code)) ∧
      ∀ r adjusted, zoneRange z a b s = .accepted r adjusted →
        cueAnswer (zoneByte z) (some (a, b)) s = (cueRange z (some r) s, ok (rangeData r adjusted)) := by
  unfold cueAnswer
  rw [zoneArg_zoneByte]
  dsimp only
  rw [if_neg hopen]
  exact ⟨fun code h => by rw [h], fun r adjusted h => by rw [h]⟩

theorem cueAnswer_none (z : ZoneId) (s : State) (hopen : ¬ ((s.zone z).source = .mirror ∨ (s.zone z).state = .stopped)) :
    cueAnswer (zoneByte z) none s = (cueRange z none s, ok []) := by
  unfold cueAnswer
  rw [zoneArg_zoneByte]
  exact if_neg hopen

theorem cueAnswer_closed (z : ZoneId) (given : Option (Nat × Nat)) (s : State)
    (h : (s.zone z).source = .mirror ∨ (s.zone z).state = .stopped) : cueAnswer (zoneByte z) given s = (s, refusal .badState) := by
  unfold cueAnswer
  rw [zoneArg_zoneByte]
  exact if_pos h

theorem zoneRange_of_source {z : ZoneId} {d : Deck} {s : State} (h : (s.zone z).source = .deck d) (a b : Nat) :
    zoneRange z a b s = rangeCheck (s.deck d).link.usable a b := by
  unfold zoneRange; rw [deck?_of_source h]

theorem rangeData_eq (r : PlayRange) (adjusted : Bool) : rangeData r adjusted = be3 r.last ++ [byte adjusted.toNat] := by
  cases adjusted <;> rfl

theorem cueRange_switching {z : ZoneId} {s : State} (c : Option PlayRange) (h : (s.zone z).causes.switch = true) :
    cueRange z c s = onZone z (fun n => { n with pendingCue := c }) s := by
  unfold cueRange
  exact if_pos h

theorem cueRange_current {z : ZoneId} {d : Deck} {s : State} (c : Option PlayRange) (hsrc : (s.zone z).source = .deck d)
    (h : (s.zone z).causes.switch = false) (hp : (s.deck d).ring.phase = .current) (hc : (s.deck d).ring.cueRecords = []) :
    cueRange z c s = onRing d (fun r => { r with cueCopy := c }) (onZone z (fun n => { n with cue := c }) s) := by
  unfold cueRange
  dsimp only
  rw [if_neg (by simp [h]), deck?_of_source hsrc]
  exact cueRing_current (by rw [onZone_deck]; exact hp) (by rw [onZone_deck]; exact hc) c

/-- Settles O42: the refusals, then the zone's and the ring's part of an accepted CUE. -/
theorem cueSetsTheNextRange : Obligations.CueSetsTheNextRange := by
  intro z given s hs
  rw [exec_cue z given s hs]
  refine ⟨fun h => by rw [cueAnswer_closed z _ s h]; rfl, fun d hsrc hact => ?_⟩
  have hopen : ¬ ((s.zone z).source = .mirror ∨ (s.zone z).state = .stopped) := by
    rintro (h | h)
    · rw [hsrc] at h; cases h
    · exact hact h
  refine ⟨?_, fun cue data hgiven => ?_⟩
  · rintro a b code rfl hcode
    rw [show askedRange (some (a, b)) = some (a.toNat, b.toNat) from rfl,
      (cueAnswer_some z _ _ s hopen).1 code (by rw [zoneRange_of_source hsrc]; exact hcode)]
    rfl
  · have hanswer : cueAnswer (zoneByte z) (askedRange given) s = (cueRange z cue s, ok data) := by
      rcases hgiven with ⟨rfl, rfl, rfl⟩ | ⟨a, b, r, adjusted, rfl, hacc, rfl, rfl⟩
      · exact cueAnswer_none z s hopen
      · rw [← rangeData_eq]
        exact (cueAnswer_some z _ _ s hopen).2 r adjusted (by rw [zoneRange_of_source hsrc]; exact hacc)
    rw [hanswer]
    refine ⟨fun hsw => ?_, fun hsw hp hc => ?_⟩
    · rw [cueRange_switching cue hsw]; rfl
    · rw [cueRange_current cue hsrc hsw hp hc]; rfl

/-! ## PAUSE, UNPAUSE and STOP -/

theorem zonesAnswer_one (first : ZoneId) (f : ZoneId → State → State) (z : ZoneId) (s : State) :
    zonesAnswer first f (zoneByte z) s = (f z s, ok []) := by
  unfold zonesAnswer
  rw [zonesArg_zoneByte]
  cases z <;> cases first <;> rfl

theorem exec_pause (z : ZoneId) (s : State) (hs : Awake s) : exec (.pause (zoneByte z)) s = .next (replied .ok [] (pauseZone z s)) := by
  rw [exec_awake (f := zonesAnswer .two pauseZone (zoneByte z)) rfl hs, zonesAnswer_one]; rfl

theorem exec_unpause (z : ZoneId) (s : State) (hs : Awake s) :
    exec (.unpause (zoneByte z)) s = .next (replied .ok [] (unpauseZone z s)) := by
  rw [exec_awake (f := zonesAnswer .one unpauseZone (zoneByte z)) rfl hs, zonesAnswer_one]; rfl

theorem exec_stop (z : ZoneId) (s : State) (hs : Awake s) :
    exec (.stop (zoneByte z)) s = .next (replied .ok [] (stopRequest z .host false s)) := by
  rw [exec_awake (f := zonesAnswer .one (fun z => stopRequest z .host false) (zoneByte z)) rfl hs, zonesAnswer_one]; rfl

/-- PAUSE, UNPAUSE and STOP leave a STOPPED zone alone (R124 to R126). -/
theorem stopped_kept {z : ZoneId} {s : State} (h : (s.zone z).state = .stopped) :
    pauseZone z s = s ∧ unpauseZone z s = s ∧ stopRequest z .host false s = s := by
  refine ⟨?_, ?_, stopRequest_of_stopped h _ _⟩
  · unfold pauseZone; rw [h]
  · unfold unpauseZone; dsimp only; rw [h]

theorem onZone_self (z : ZoneId) (f : Zone → Zone) (s : State) : (onZone z f s).zone z = f (s.zone z) := onZone_same z f s

/-- PAUSE of a PLAYING zone above the ramp's foot raises the cause (R124). -/
theorem pauseZone_playing {z : ZoneId} {s : State} (hm : mirroring s = false) (hs : (s.zone z).state = .playing)
    (hr : (s.zone z).ramp ≠ 0) : pauseZone z s = onZone z (fun n => { n with causes := { n.causes with pause := true } }) s := by
  have hpause : pauseZone z s = raisePause z s := by unfold pauseZone; rw [hs]
  rw [hpause]
  unfold raisePause
  split
  · next hp =>
    refine (onZone_id z _ s ?_).symm
    cases hn : s.zone z with
    | mk =>
      rw [hn] at hp
      cases hc : (s.zone z).causes
      rw [hn] at hc
      simp_all
  · exact raised_above (unmirrored_onZone hm fun _ => rfl) (by rw [onZone_same]; exact hr)

/-- UNPAUSE of a PLAYING zone clears the cause (R125). -/
theorem unpauseZone_playing {z : ZoneId} {s : State} (hm : mirroring s = false) (hs : (s.zone z).state = .playing) :
    unpauseZone z s = onZone z (fun n => { n with causes := { n.causes with pause := false } }) s := by
  unfold unpauseZone
  dsimp only
  rw [hs]
  dsimp only
  split
  · refine follow_of_none ?_ z
    exact unmirrored_onZone hm fun _ => rfl
  · next hp =>
    refine (onZone_id z _ s ?_).symm
    cases hn : s.zone z with
    | mk =>
      rw [hn] at hp
      cases hc : (s.zone z).causes
      rw [hn] at hc
      simp_all

/-- STOP of a PLAYING zone above the ramp's foot (R119, R126). -/
theorem stopRequest_above {z : ZoneId} {d : Deck} {s : State} (hm : mirroring s = false) (hsrc : (s.zone z).source = .deck d)
    (hs : (s.zone z).state ≠ .stopped) (hr : (s.zone z).ramp ≠ 0) (why : StopReason) (fast : Bool) :
    stopRequest z why fast s = awaitFlush d (onZone z (stopping why fast) s) := by
  have hm' : mirroring (awaitFlush d (onZone z (stopping why fast) s)) = false := by
    unfold awaitFlush
    exact (mirroring_onDeck d _ _).trans (unmirrored_onZone hm fun _ => rfl)
  rw [stopRequest_of_active hs, deck?_of_source hsrc]
  change raised z (mirrorTold why z (awaitFlush d (onZone z (stopping why fast) s))) = _
  rw [mirrorTold_of_none hm', raised_above hm']
  unfold awaitFlush
  rw [onPlan_zone, onZone_same]; exact hr

/-- UNPAUSE of a PAUSED zone (R125). -/
theorem unpauseZone_paused {z : ZoneId} {d : Deck} {s : State} (hm : mirroring s = false) (hsrc : (s.zone z).source = .deck d)
    (hs : (s.zone z).state = .paused) :
    unpauseZone z s =
      enterZone z (if ringReady (s.deck d).ring (s.zone z).set.restart then .playing else .starved)
        (onZone z (fun n =>
          { n with causes := { n.causes with pause := false, starve := !ringReady (s.deck d).ring (s.zone z).set.restart } }) s) := by
  unfold unpauseZone
  dsimp only
  rw [hs, deck?_of_source hsrc]
  refine follow_of_none ?_ z
  refine (mirroring_congr ?_).trans hm
  cases z <;> simp [enterZone, onZone]

theorem ringReady_iff (r : Ring) (n : Nat) :
    ringReady r n = true ↔ n ≤ r.goodDepth ∨ (r.phase = .done ∧ r.goodDepth = r.depth ∧ 1 ≤ r.depth) := by
  simp [ringReady, and_assoc]

theorem enterZone_onZone (z : ZoneId) (st : ZoneState) (f : Zone → Zone) (s : State) (hst : st ≠ .stopped) :
    enterZone z st (onZone z f s) = raiseNotice (.zone z) (.zoneState st none) (onZone z (fun n => { f n with state := st }) s) := by
  unfold enterZone
  dsimp only
  rw [if_neg hst, onZone_onZone]

/-! ### The mirror zone (R132) -/

/-- A PAUSED mirror zone with its own PAUSE has nothing to do at the ramp's foot. -/
theorem mirrorZero_paused {s : State} (hstop : s.zone2.mutes.stop = false) (hpause : s.zone2.mutes.pause = true)
    (hs : s.zone2.state = .paused) : mirrorZero s = s := by
  unfold mirrorZero
  dsimp only
  rw [if_neg (by simp [hstop]), if_pos hpause, if_neg (by simp [hs])]

theorem mirrorZero_pausing {s : State} (hstop : s.zone2.mutes.stop = false) (hpause : s.zone2.mutes.pause = true)
    (hs : s.zone2.state = .starved ∨ s.zone2.state = .playing) : mirrorZero s = enterZone .two .paused s := by
  unfold mirrorZero
  dsimp only
  rw [if_neg (by simp [hstop]), if_pos hpause, if_pos]
  rcases hs with h | h
  · exact .inr (.inr h)
  · exact .inl h

theorem raised_mirror {s : State} (hm : mirroring s = true) (hr : s.zone2.ramp = 0) : raised .two s = mirrorZero s := by
  have hfollow : follow .two s = s := rfl
  have hzero : (s.zone .two).ramp = 0 := hr
  unfold raised reachZero
  rw [hfollow, if_pos hzero, if_pos ⟨rfl, hm⟩]

/-- What a PAUSED mirror zone takes over from zone 1 (R131). -/
structure PausedMirror (s t : State) : Prop where
  zone1     : t.zone1 = s.zone1
  state     : t.zone2.state = .paused
  causes    : t.zone2.causes = s.zone2.causes
  inherited : t.zone2.inherited = inheritedFrom s.zone1
  ramp      : t.zone2.ramp = s.zone2.ramp
  source    : t.zone2.source = s.zone2.source
  deckA     : t.deckA = s.deckA
  deckB     : t.deckB = s.deckB
  tray      : t.tray = s.tray

theorem mirrorSync_paused {s : State} (hm : mirroring s = true) (hs : s.zone2.state = .paused) (hstop : s.zone2.causes.stop = false)
    (hpause : s.zone2.causes.pause = true) : PausedMirror s (mirrorSync s) := by
  unfold mirrorSync
  rw [if_pos ((mirrorActive_iff s).2 ⟨hm, by rw [hs]; decide⟩)]
  dsimp only
  split
  · next h => exact ⟨rfl, hs, rfl, h.symm, rfl, rfl, rfl, rfl, rfl⟩
  · generalize hu : (if (inheritedFrom s.zone1).starve = true ∧ ¬ s.zone2.inherited.starve = true then
      onZoneStats .two (fun t => { t with starves := bump 1 t.starves })
        (onZone .two (fun n => { n with inherited := inheritedFrom s.zone1 }) s)
      else onZone .two (fun n => { n with inherited := inheritedFrom s.zone1 }) s) = u
    have h : PausedMirror s u := by
      subst hu
      split <;> exact ⟨rfl, hs, rfl, rfl, rfl, rfl, rfl, rfl, rfl⟩
    have hmutes : u.zone2.mutes.stop = false ∧ u.zone2.mutes.pause = true := by
      unfold Zone.mutes
      rw [h.causes, h.inherited]
      simp [Causes.union, inheritedFrom, hstop, hpause, Causes.empty]
    split
    · rw [mirrorZero_paused hmutes.1 hmutes.2 h.state]; exact h
    · rw [if_neg]
      · exact h
      · rintro ⟨-, hst | hst⟩ <;> rw [h.state] at hst <;> cases hst

/-- PAUSE of a mirror zone whose ramp is at 0 (R132). -/
theorem pauseZone_mirror {s : State} (hm : mirroring s = true) (hr : s.zone2.ramp = 0) (hstop : s.zone2.causes.stop = false)
    (hinh : s.zone2.inherited.stop = false) (hpause : s.zone2.causes.pause = false)
    (hs : s.zone2.state = .starved ∨ s.zone2.state = .playing) :
    pauseZone .two s = raiseNotice (.zone .two) (.zoneState .paused none)
      { s with zone2 := { s.zone2 with state := .paused, causes := { s.zone2.causes with pause := true } } } := by
  have hraise : pauseZone .two s = raisePause .two s := by
    unfold pauseZone
    rcases hs with h | h <;> rw [show (s.zone .two).state = _ from h]
    exact if_pos ⟨rfl, hm⟩
  rw [hraise]
  unfold raisePause
  rw [if_neg (by simp [hpause])]
  let u : State := { s with zone2 := { s.zone2 with causes := { s.zone2.causes with pause := true } } }
  have hmutes : u.zone2.mutes.stop = false ∧ u.zone2.mutes.pause = true := by
    simp [u, Zone.mutes, Causes.union, hstop, hinh]
  calc raised .two u = mirrorZero u := raised_mirror hm hr
    _ = enterZone .two .paused u := mirrorZero_pausing hmutes.1 hmutes.2 hs
    _ = _ := rfl

theorem inheritedFrom_paused {n : Zone} (h : n.state = .paused) : (inheritedFrom n).starve = true := by
  unfold inheritedFrom; rw [h]; simp

/-- Zone 1 enters PAUSED before its PAUSED mirror zone: the mirror inherits STARVE (R131, R132). -/
theorem pausedAgain {s : State} (hm : mirroring s = true) (hs : s.zone2.state = .paused) (hstop : s.zone2.causes.stop = false)
    (hpause : s.zone2.causes.pause = true) : PausedMirror (onZone .one (fun n => { n with state := .paused }) s)
      (follow .one (enterZone .one .paused s)) := by
  have hkeep : enterZone .one .paused s = raiseNotice (.zone .one) (.zoneState .paused none)
      (onZone .one (fun n => { n with state := .paused }) s) := rfl
  have h2 : (enterZone .one .paused s).zone2 = s.zone2 := by rw [hkeep]; simp [onZone]
  have h := mirrorSync_paused (s := enterZone .one .paused s) ((mirroring_congr (by rw [h2])).trans hm) (by rw [h2]; exact hs)
    (by rw [h2]; exact hstop) (by rw [h2]; exact hpause)
  have h1 : (enterZone .one .paused s).zone1 = (onZone .one (fun n => { n with state := .paused }) s).zone1 := by rw [hkeep]; simp
  obtain ⟨g1, g2, g3, g4, g5, g6, g7, g8, g9⟩ := h
  rw [h2] at g3 g5 g6
  rw [h1] at g1 g4
  exact ⟨g1, g2, g3, g4, g5, g6, g7.trans (by rw [hkeep]; simp), g8.trans (by rw [hkeep]; simp), g9.trans (by rw [hkeep]; simp)⟩

/-- PAUSE of zone 1 behind its PAUSED mirror, both ramps at 0 (R132, R194). -/
theorem pauseZone_mirrored {s : State} (hm : mirroring s = true) (hs : s.zone2.state = .paused) (hstop : s.zone2.causes.stop = false)
    (hpause : s.zone2.causes.pause = true) (hs1 : s.zone1.state = .playing) (hr1 : s.zone1.ramp = 0)
    (hc1 : s.zone1.causes = Causes.empty) :
    (pauseZone .one s).zone1 = { s.zone1 with state := .paused, causes := { Causes.empty with pause := true } } ∧
      (pauseZone .one s).zone2.state = .paused ∧ (pauseZone .one s).zone2.causes = s.zone2.causes ∧
      (pauseZone .one s).zone2.inherited.starve = true ∧ (pauseZone .one s).deckA = s.deckA ∧ (pauseZone .one s).deckB = s.deckB ∧
      (pauseZone .one s).tray = s.tray := by
  have hraise : pauseZone .one s = raisePause .one s := by unfold pauseZone; rw [show (s.zone .one).state = _ from hs1]
  rw [hraise]
  unfold raisePause
  rw [if_neg (by simp [hc1, Causes.empty])]
  let u : State := { s with zone1 := { s.zone1 with causes := { s.zone1.causes with pause := true } } }
  have hsync : PausedMirror u (mirrorSync u) := mirrorSync_paused hm hs hstop hpause
  have h1 : (mirrorSync u).zone .one = { s.zone1 with causes := { Causes.empty with pause := true } } := by
    rw [show (mirrorSync u).zone .one = u.zone1 from hsync.zone1, ← hc1]
  have hzero : raised .one u = follow .one (enterZone .one .paused (mirrorSync u)) := by
    have hfollow : follow .one u = mirrorSync u := rfl
    unfold raised reachZero
    rw [hfollow]
    dsimp only
    rw [h1, if_pos hr1, if_neg (fun h => nomatch h.1)]
    simp [Causes.empty, hs1]
  have hmw : mirroring (mirrorSync u) = true := (mirroring_congr hsync.source).trans hm
  have hpaused := pausedAgain hmw hsync.state (by rw [hsync.causes]; exact hstop) (by rw [hsync.causes]; exact hpause)
  change (raised .one u).zone1 = _ ∧ (raised .one u).zone2.state = _ ∧ (raised .one u).zone2.causes = _ ∧
    (raised .one u).zone2.inherited.starve = _ ∧ (raised .one u).deckA = _ ∧ (raised .one u).deckB = _ ∧ (raised .one u).tray = _
  rw [hzero]
  refine ⟨?_, hpaused.state, hpaused.causes.trans hsync.causes, ?_, hpaused.deckA.trans hsync.deckA, hpaused.deckB.trans hsync.deckB,
    hpaused.tray.trans hsync.tray⟩
  · rw [hpaused.zone1]
    change { (mirrorSync u).zone .one with state := .paused } = _
    rw [h1]
  · rw [hpaused.inherited]
    exact inheritedFrom_paused rfl

theorem exec_pauseBoth (s : State) (hs : Awake s) :
    exec (.pause 3#8) s = .next (replied .ok [] (together (pauseZone .two) (pauseZone .one) s)) := by
  rw [exec_awake (f := zonesAnswer .two pauseZone 3#8) rfl hs]; rfl

/-- PAUSE of both zones leaves every block but the zones and the notice queue (R194). -/
theorem samePart_pauseBoth (s : State) : SamePart s (together (pauseZone .two) (pauseZone .one) s) :=
  (Kept.together (kept_pauseZone .two s (plays_any _ _)) (kept_pauseZone .one _ (plays_any _ _))).part

/-- PAUSE of both zones that act as a mirror pair at the ramps' foot (R194). -/
theorem pauseBoth_mirrored {s : State} (hm : mirroring s = true) (hr : s.zone2.ramp = 0) (hstop : s.zone2.causes.stop = false)
    (hinh : s.zone2.inherited.stop = false) (hpause : s.zone2.causes.pause = false) (hs : s.zone2.state = .playing)
    (hs1 : s.zone1.state = .playing) (hr1 : s.zone1.ramp = 0) (hc1 : s.zone1.causes = Causes.empty) :
    let t := together (pauseZone .two) (pauseZone .one) s
    t.zone1 = { s.zone1 with state := .paused, causes := { Causes.empty with pause := true } } ∧ t.zone2.state = .paused ∧
      t.zone2.causes = { s.zone2.causes with pause := true } ∧ t.zone2.inherited.starve = true ∧ t.deckA = s.deckA ∧
      t.deckB = s.deckB ∧ t.tray = s.tray := by
  dsimp only
  obtain ⟨q, n, heq⟩ := together_eq (pauseZone .two) (pauseZone .one) s
  rw [heq, pauseZone_mirror hm hr hstop hinh hpause (.inr hs)]
  let u : State := { s with zone2 := { s.zone2 with state := .paused, causes := { s.zone2.causes with pause := true } } }
  have hmir : mirroring (raiseNotice (.zone .two) (.zoneState .paused none) u) = true := by
    rw [mirroring_congr (s := u) (by simp)]; exact hm
  obtain ⟨h1, h2, h3, h4, h5, h6, h7⟩ := pauseZone_mirrored hmir (by simp [u]) (by simpa [u] using hstop) (by simp [u])
    (by simpa [u] using hs1) (by simpa [u] using hr1) (by simpa [u] using hc1)
  exact ⟨h1.trans (by simp [u]), h2, h3.trans (by simp [u]), h4, h5.trans (by simp [u]), h6.trans (by simp [u]),
    h7.trans (by simp [u])⟩

/-- Settles O43: the mirror pair first, then one zone alone, by the zone's state. -/
theorem pauseUnpauseAndStopOneZone : Obligations.PauseUnpauseAndStopOneZone := by
  refine ⟨fun s hs hm hr hstop hinh hpause => ⟨fun hst => ?_, fun hst hs1 hr1 _ hc1 => ?_⟩, fun z s hs hm => ⟨?_, fun d hsrc => ⟨?_, ?_⟩⟩⟩
  · have hmir : mirroring s = true := by simp [mirroring, hm]
    rw [← pauseZone_mirror hmir hr hstop hinh hpause (.inl hst)]
    exact exec_pause .two s hs
  · have hmir : mirroring s = true := by simp [mirroring, hm]
    obtain ⟨h1, h2, h3, h4, h5, h6, h7⟩ := pauseBoth_mirrored hmir hr hstop hinh hpause hst hs1 hr1 hc1
    exact ⟨_, exec_pauseBoth s hs, h1, h2, h3, h4, h5, h6, h7, samePart_pauseBoth s⟩
  · intro hst i hi
    obtain ⟨hp, hu, ht⟩ := stopped_kept hst
    simp only [List.mem_cons, List.not_mem_nil, or_false] at hi
    rcases hi with rfl | rfl | rfl
    · rw [exec_pause z s hs, hp]
    · rw [exec_unpause z s hs, hu]
    · rw [exec_stop z s hs, ht]
  · intro hst hr
    have hnone := mirroring_of_ne hm
    refine ⟨?_, ?_, ?_⟩
    · rw [exec_pause z s hs, pauseZone_playing hnone hst (by omega)]
    · rw [exec_unpause z s hs, unpauseZone_playing hnone hst]
    · rw [exec_stop z s hs, stopRequest_above hnone hsrc (by rw [hst]; decide) (by omega)]
      unfold awaitFlush stopping
      simp
  · intro hst r ready
    have hready : ringReady (s.deck d).ring (s.zone z).set.restart = true ↔ ready := ringReady_iff _ _
    refine ⟨fun h => ?_, fun h => ?_⟩
    · rw [exec_unpause z s hs, unpauseZone_paused (mirroring_of_ne hm) hsrc hst, if_pos (hready.2 h),
        enterZone_onZone _ _ _ _ (by decide), hready.2 h]
      rfl
    · have hnot : ringReady (s.deck d).ring (s.zone z).set.restart = false := by
        rw [← Bool.not_eq_true, hready]; exact h
      rw [exec_unpause z s hs, unpauseZone_paused (mirroring_of_ne hm) hsrc hst, hnot, if_neg (by decide),
        enterZone_onZone _ _ _ _ (by decide)]
      rfl

end Sys2Proof.Proofs
end


section
/-!
PROOFS. TAKEN, LANDED and the delivery that lands a run (R15, R21, R22, R26); traffic that is ignored (R17, R40, R215, R216).
-/

namespace Sys2Proof.Proofs

open Sys2Proof.Machine

/-- An event that keeps the Standby Controller, on a settled part. -/
theorem event_kept {D : Deck → Prop} {s : State} {f : State → State} (h : Settled s) (hk : Kept D s (f s)) : event s f = .next (f s) :=
  event_settled s f h hk.part.2.2.1

theorem exec_taken (d : Deck) (tag : Tag) (s : State) (h : Settled s) : exec (.taken d tag) s = .next (takenReport d tag s) :=
  event_kept (D := anyDeck) h (kept_takenReport trivial tag s)

theorem exec_landed (d : Deck) (tag : Tag) (addr : BitVec 24) (s : State) (h : Settled s) :
    exec (.landed d tag addr) s = .next (landedReport d tag addr.toNat s) :=
  event_kept (D := anyDeck) h (kept_landedReport trivial tag _ s)

/-! ## TAKEN -/

theorem takenReport_again {d : Deck} {o : Outstanding} {s : State} (ho : (s.deck d).link.outstanding = some o) (ht : o.timer = .completion) :
    takenReport d o.tag s = s := by
  unfold takenReport
  dsimp only
  rw [current_of_outstanding _ _ ho]
  dsimp only
  rw [ht]

theorem takenReport_first {d : Deck} {o : Outstanding} {s : State} (ho : (s.deck d).link.outstanding = some o) (ht : o.timer = .acknowledge) :
    takenReport d o.tag s = acknowledged d o s := by
  unfold takenReport
  dsimp only
  rw [current_of_outstanding _ _ ho]
  dsimp only
  rw [ht]

/-- A command with a completion timer starts it when it is acknowledged (R15). -/
theorem acknowledged_timed {d : Deck} {o : Outstanding} {s : State} (hc : o.command.completeAtAck = false) :
    acknowledged d o s = onLink d (fun l => { l with outstanding := some { o with timer := .completion } }) s := by
  unfold acknowledged
  cases h : o.command <;> rw [h] at hc <;> first | rfl | cases hc

theorem onLink_congr {d : Deck} {f g : Link → Link} {s : State} (h : f (s.deck d).link = g (s.deck d).link) : onLink d f s = onLink d g s :=
  onDeck_congr (congrArg (fun l => { s.deck d with link := l }) h)

theorem acknowledged_stall {d : Deck} {o : Outstanding} {s : State} (hc : o.command = .stall) (hs : (s.deck d).link.state = .streaming) :
    acknowledged d o s = onLink d (fun l => { l with outstanding := none, gapTimer := false, state := .stalled }) s := by
  unfold acknowledged
  rw [hc]
  exact onLink_congr (by rw [if_pos hs])

theorem acknowledged_proceed {d : Deck} {o : Outstanding} {s : State} (hc : o.command = .proceed) :
    acknowledged d o s = onLink d (fun l => { l with outstanding := none, state := .streaming, gapTimer := true }) s := by
  unfold acknowledged
  rw [hc]

theorem sendWaiting_none {d : Deck} {s : State} (h : (s.deck d).link.waiting = none) (entered : Bool) :
    sendWaiting d entered s = if entered then announce d s else s := by
  unfold sendWaiting
  dsimp only
  rw [h]

/-- A deck that enters NO_DISC is announced with its reason (R35). -/
theorem announce_noDisc {d : Deck} {s : State} {why : DeckReason} (h : (s.deck d).link.state = .noDisc)
    (hc : (s.deck d).link.cause = .noDisc why) : announce d s = raiseNotice (.deck d) (.deckState .noDisc (some why) none none) s := by
  unfold announce
  dsimp only
  rw [h]
  dsimp only
  rw [hc]

/-- The end of a command that leaves the deck without a disc, nothing waiting (R5, R35). -/
theorem noDisc_announced {d : Deck} {s : State} (why : DeckReason) (h : (s.deck d).link.waiting = none) :
    sendWaiting d true (toNoDisc d why s) =
      raiseNotice (.deck d) (.deckState .noDisc (some why) none none)
        (onLink d (fun l => { l with state := .noDisc, cause := .noDisc why }) (discardDisc d s)) := by
  have hdeck : (toNoDisc d why s).deck d =
      { s.deck d with link := { (s.deck d).link with disc := .absent, state := .noDisc, cause := .noDisc why } } := by
    unfold toNoDisc
    rw [onLink_same, discardDisc_same]
  rw [sendWaiting_none (by rw [hdeck]; exact h), if_pos rfl, announce_noDisc (why := why) (by rw [hdeck]) (by rw [hdeck])]
  rfl

theorem discardDisc_onLink (d : Deck) (f : Link → Link) (s : State) (h : ∀ l, { f l with disc := .absent } = f { l with disc := .absent }) :
    discardDisc d (onLink d f s) = onLink d f (discardDisc d s) := by
  cases d <;> simp [discardDisc, onLink, onDeck, h]

theorem acknowledged_linkReset {d : Deck} {o : Outstanding} {s : State} (hc : o.command = .linkReset) (hw : (s.deck d).link.waiting = none) :
    ((s.deck d).link.state ≠ .fault → acknowledged d o s = onLink d (fun l => { l with outstanding := none }) s) ∧
      ((s.deck d).link.state = .fault → acknowledged d o s = raiseNotice (.deck d) (.deckState .noDisc (some .reset) none none)
        (onLink d (fun l => { l with outstanding := none, state := .noDisc, cause := .noDisc .reset }) (discardDisc d s))) := by
  have hw' : ((clearOutstanding d s).deck d).link.waiting = none := by
    unfold clearOutstanding; rw [onLink_same]; exact hw
  unfold acknowledged
  rw [hc]
  dsimp only
  refine ⟨fun h => ?_, fun h => ?_⟩
  · rw [show ((s.deck d).link.state == DeckState.fault) = false from beq_eq_false_iff_ne.2 h, if_neg (by decide), sendWaiting_none hw']
    rfl
  · rw [h, if_pos (by decide)]
    refine (noDisc_announced .reset hw').trans ?_
    unfold clearOutstanding
    rw [discardDisc_onLink _ _ _ (fun _ => rfl), onLink_onLink]

/-! ## LANDED -/

theorem current_none {d : Deck} {tag : Tag} {s : State} (hno : ∀ o, (s.deck d).link.outstanding = some o → o.tag ≠ tag) :
    (s.deck d).link.current tag = none := by
  cases h : (s.deck d).link.current tag with
  | none => rfl
  | some o =>
    obtain ⟨ho, ht⟩ := current_eq_some _ _ _ h
    exact absurd ht (hno o ho)

theorem staleReport_eq (d : Deck) (s : State) : staleReport d s = onLink d (fun l => { l with stales := min 65535 (l.stales + 1) }) s := rfl

/-! ## A delivery that lands the run (R22, R26) -/

theorem exec_delivery (d : Deck) (tag : Tag) (v : DeliveryArgs) (s : State) (h : Settled s) (hv : v.wellFormed = true) :
    exec (.delivery d tag v) s = .next (deliver d tag v s) := by
  have hk := event_kept (f := deliver d tag v) (D := anyDeck) h (kept_deliver trivial tag v s)
  change (if v.wellFormed then event s (deliver d tag v) else .fault .illFormedCommand) = _
  rw [if_pos hv, hk]

theorem deliveryOnLink_landing {d : Deck} {o : Outstanding} {target : Nat} {s : State} (hst : (s.deck d).link.state = .seeking)
    (ho : (s.deck d).link.outstanding = some o) (hc : o.command = .seek target) : deliveryOnLink d o.tag s = land d none s := by
  unfold deliveryOnLink
  dsimp only
  rw [current_of_outstanding _ _ ho]
  dsimp only
  rw [hc, hst]

/-- On a link with no command outstanding a delivery moves nothing (R26). -/
theorem deliveryOnLink_free {d : Deck} {s : State} (tag : Tag) (ho : (s.deck d).link.outstanding = none) : deliveryOnLink d tag s = s := by
  unfold deliveryOnLink Link.current
  dsimp only
  rw [ho]
  rfl

theorem deliver_landing {d : Deck} {o : Outstanding} {target : Nat} {s : State} (v : DeliveryArgs) (hg : v.good = true)
    (hst : (s.deck d).link.state = .seeking) (ho : (s.deck d).link.outstanding = some o) (hc : o.command = .seek target) :
    deliver d o.tag v s = deliver d o.tag v (land d none s) := by
  unfold deliver
  rw [if_pos hg, if_pos hg, deliveryOnLink_landing hst ho hc, deliveryOnLink_free]
  unfold land
  rw [onLink_same]

/-- Settles O45: TAKEN by the command's timer and kind, then LANDED of the SEEK, the landing delivery, and LANDED on the run tag. -/
theorem takenAndLandedAdvanceTheCommand : Obligations.TakenAndLandedAdvanceTheCommand := by
  refine ⟨fun d o s hs ho => ⟨fun ht => ?_, fun ht => ?_⟩, fun d o target addr s hs ho hc => ?_, fun d o target v s hs hv hg hst ho hc => ?_,
    fun d tag addr s hs hno hrun => ?_⟩
  · rw [exec_taken d _ s hs, takenReport_again ho ht]
  · rw [exec_taken d _ s hs, takenReport_first ho ht]
    refine ⟨fun hc => by rw [acknowledged_timed hc], fun hc hst => by rw [acknowledged_stall hc hst],
      fun hc => by rw [acknowledged_proceed hc], fun hc hw => ?_⟩
    obtain ⟨hrun, hfault⟩ := acknowledged_linkReset hc hw
    exact ⟨fun h => by rw [hrun h], fun h => by rw [hfault h]⟩
  · rw [exec_landed d _ _ s hs, landedReport_ofSeek d o.tag _ target o s (current_of_outstanding _ _ ho) hc]
    rfl
  · have hs' : Settled (land d none s) := by
      unfold land
      exact ⟨by simpa using hs.1, by simpa using hs.2⟩
    rw [exec_delivery d _ v s hs hv, deliver_landing v hg hst ho hc]
    exact (exec_delivery d _ v _ hs' hv).symm
  · rw [exec_landed d _ _ s hs, landedReport_onRun d tag _ s (current_none hno)]
    refine ⟨fun hst hby => ?_, fun hstale => ?_⟩
    · rw [if_pos ⟨hrun, hst, hby⟩]
    · rw [if_neg]
      · rfl
      · rintro ⟨-, hst, hby⟩
        rcases hstale with h | h
        · exact h hst
        · rw [h] at hby; cases hby

end Sys2Proof.Proofs
end


section
/-!
PROOFS. Traffic that is ignored: stale reports and deliveries, discarded and partial frames (R17, R40, R215, R216).
-/

namespace Sys2Proof.Proofs

open Sys2Proof.Machine

/-! ## Stale reports -/

/-- A report whose tag is neither the outstanding command's nor the run's is only counted (R17). -/
theorem linkReport_stale {i : Instr} {d : Deck} {tag : Tag} {s : State} (hi : reportTag i = some (d, tag))
    (hno : (s.deck d).link.current tag = none) (hrun : (s.deck d).link.runTag ≠ some tag) : linkReport i s = staleReport d s := by
  cases i
  case taken e t =>
    cases hi
    simp only [linkReport, takenReport, hno, if_neg hrun]
  case landed e t a =>
    cases hi
    simp only [linkReport]
    rw [landedReport_onRun _ _ _ _ hno]
    exact if_neg fun h => hrun h.1
  case trackSlip e t a =>
    cases hi
    simp only [linkReport, trackSlipReport, if_neg hrun]
  case declined => cases hi; simp only [linkReport, declinedReport, hno]
  case seekMiss => cases hi; simp only [linkReport, seekMissReport, hno]
  case discIn => cases hi; simp only [linkReport, discInReport, hno]
  case slotEmpty => cases hi; simp only [linkReport, slotEmptyReport, hno]
  case index => cases hi; simp only [linkReport, indexReport, hno]
  case stowed => cases hi; simp only [linkReport, stowedReport, hno]
  case parked => cases hi; simp only [linkReport, parkedReport, hno]
  all_goals cases hi

/-- A report is an event of its own meaning. -/
theorem exec_taggedReport {i : Instr} {d : Deck} {tag : Tag} {s : State} (hi : reportTag i = some (d, tag)) (h : Settled s) :
    exec i s = .next (linkReport i s) := by
  have hd : linkDeck i = some d := by
    cases i
    case taken | declined | landed | seekMiss | trackSlip | discIn | slotEmpty | index | stowed | parked => cases hi; rfl
    all_goals cases hi
  have hk := event_kept (f := linkReport i) h (kept_linkReport i d hd s)
  rw [← hk]
  cases i
  case taken | declined | landed | seekMiss | trackSlip | discIn | slotEmpty | index | stowed | parked => rfl
  all_goals cases hi

/-! ## Stale deliveries -/

theorem deliver_bad {d : Deck} {tag : Tag} {v : DeliveryArgs} (s : State) (h : v.good = false) : deliver d tag v s = s := by
  unfold deliver; rw [if_neg (by simp [h])]

/-- A delivery whose tag is neither the outstanding command's nor the run's changes nothing (R40). -/
theorem deliver_stale {d : Deck} {tag : Tag} {s : State} (v : DeliveryArgs) (hno : (s.deck d).link.current tag = none)
    (hrun : (s.deck d).link.runTag ≠ some tag) : deliver d tag v s = s := by
  have hlink : deliveryOnLink d tag s = s := by
    unfold deliveryOnLink
    dsimp only
    rw [hno]
  have hexp : expected (s.deck d) tag = false := by simp [expected, hrun]
  unfold deliver
  split
  · rw [hlink]
    unfold intake
    dsimp only
    rw [hexp]
    rfl
  · rfl

/-! ## Bytes of the two channels -/

theorem controlByte_settled (d : Deck) (b : Byte) (s : State) (h : Settled s) :
    exec (.deckLinkByteReceived d .control b) s = .next (controlByte d b s) :=
  event_kept (f := controlByte d b) h (kept_controlByte d b s)

theorem blockByte_settled (d : Deck) (b : Byte) (s : State) (h : Settled s) :
    exec (.deckLinkByteReceived d .block b) s = .next (blockByte d b s) :=
  event_kept (f := blockByte d b) h (kept_blockByte d b s)

theorem length_decodeSamples : ∀ (n : Nat) (bytes : List Byte), bytes.length = 2 * n → (decodeSamples bytes).length = n
  | 0, bytes, h => by
    rw [List.length_eq_zero_iff.1 h]; rfl
  | n + 1, a :: b :: rest, h => by
    have hrest : rest.length = 2 * n := by simp only [List.length_cons] at h; omega
    rw [decodeSamples, List.length_cons, length_decodeSamples n rest hrest]
  | n + 1, [a], h => by simp at h; omega
  | n + 1, [], h => by simp at h

theorem length_flatMap_marks (bytes : List Byte) : (bytes.flatMap marksOf).length = 8 * bytes.length := by
  induction bytes with
  | nil => rfl
  | cons b rest ih => rw [List.flatMap_cons, List.length_append, ih, List.length_cons, show (marksOf b).length = 8 from rfl]; omega

/-- A whole block frame spells a delivery that carries one block (R215). -/
theorem exec_decodeDelivery (d : Deck) (body : List Byte) (h : body.length = 2506) (s : State) :
    exec (decodeDelivery d body) s = event s (linkReport (decodeDelivery d body)) := by
  have hs : (decodeSamples ((body.drop 5).take 2352)).length = 1176 := length_decodeSamples _ _ (by rw [List.length_take, List.length_drop, h]; rfl)
  have hm : (((body.drop 2357).take 147).flatMap marksOf).length = 1176 := by
    rw [length_flatMap_marks, List.length_take, List.length_drop, h]; rfl
  have hw : (decodeDelivery d body).wellFormed = true := by
    simp only [decodeDelivery, Instr.wellFormed, DeliveryArgs.wellFormed, hs, hm]
    decide
  exact if_pos hw

theorem blockByte_last {d : Deck} {got : List Byte} {b : Byte} {s : State} (hb : (s.deck d).link.blockIn = some got)
    (hl : got.length = 2505) :
    blockByte d b s = linkReport (decodeDelivery d (got ++ [b])) (onLink d (fun l => { l with blockIn := none }) s) := by
  unfold blockByte
  rw [hb]
  exact if_pos (by simp [hl, blockFrameBytes])

theorem blockByte_more {d : Deck} {got : List Byte} {b : Byte} {s : State} (hb : (s.deck d).link.blockIn = some got)
    (hl : got.length + 1 < 2506) : blockByte d b s = onLink d (fun l => { l with blockIn := some (got ++ [b]) }) s := by
  unfold blockByte
  rw [hb]
  exact if_neg (by simp [blockFrameBytes]; omega)

/-- The last byte of a block frame does what the delivery's own row does on the link without the frame (R215). -/
theorem lastBlockByte {d : Deck} {got : List Byte} {b : Byte} {s : State} (hs : Up s) (hb : (s.deck d).link.blockIn = some got)
    (hl : got.length = 2505) :
    exec (.deckLinkByteReceived d .block b) s =
      exec (decodeDelivery d (got ++ [b])) (onLink d (fun l => { l with blockIn := none }) s) := by
  have hup : Up (onLink d (fun l => { l with blockIn := none }) s) := (onLink_resetPin d _ s).trans hs
  rw [exec_decodeDelivery d _ (by simp [hl])]
  change event s (blockByte d b) = _
  unfold event
  rw [whenUp_high _ _ hs, whenUp_high _ _ hup, blockByte_last hb hl]

/-- Settles O52: stale reports and deliveries, discarded frames, and the bytes between and within frames. -/
theorem staleTrafficIsIgnored : Obligations.StaleTrafficIsIgnored := by
  refine ⟨fun i d tag s hs hi hno hrun => ?_, fun d tag v s hs hv hcase => ?_, fun d s hup => ⟨?_, ?_, ?_, fun hs b => ⟨?_, ?_, ?_⟩, ?_⟩⟩
  · rw [exec_taggedReport hi hs, linkReport_stale hi (current_none hno) hrun]; rfl
  · rw [exec_delivery d tag v s hs hv]
    rcases hcase with hbad | ⟨hrun, hno⟩
    · rw [deliver_bad s hbad]
    · rw [deliver_stale v (current_none hno) hrun]
  · refine (whenUp_high s _ hup).trans ?_
    unfold discardControl
    rw [staleReport_eq, onLink_onLink]
  · exact whenUp_high s _ hup
  · exact whenUp_high s _ hup
  · intro hidle
    rw [controlByte_settled d b s hs]
    unfold controlByte
    rw [hidle]
  · intro hidle
    rw [blockByte_settled d b s hs]
    unfold blockByte
    rw [hidle]
  · intro got hgot hl
    rw [blockByte_settled d b s hs, blockByte_more hgot hl]
  · exact fun got b hgot hl => lastBlockByte hup hgot hl

end Sys2Proof.Proofs
end


section
/-!
PROOFS. The reports that end a mechanical command (R21, R28, R30, R31).
-/

namespace Sys2Proof.Proofs

open Sys2Proof.Machine

/-! ## The command that waits (R21) -/

/-- A mechanical command that waits is sent now (R21). -/
theorem sendWaiting_mechanical {d : Deck} {s : State} {c : DeckCommand} {who : Requester}
    (hw : (s.deck d).link.waiting = some { command := c, from_ := who, plan := none }) (hc : c.isMechanical = true) (entered : Bool) :
    sendWaiting d entered s = raiseNotice (.deck d) (.deckState (movedBy c) none none none)
      (onLink d (fun l => movingLink c { l with waiting := none }) s) := by
  have hsend : sendWaiting d entered s =
      send d { command := c, from_ := who, plan := none } (onLink d (fun l => { l with waiting := none }) s) := by
    unfold sendWaiting
    dsimp only
    rw [hw]
    cases c
    case fetchDisc | readIndex | stowDisc | park => rfl
    all_goals cases hc
  rw [hsend, send_mechanical d c hc, onLink_onLink]

/-- The DLU's READ_INDEX behind a fetched disc, nothing waiting (R21, R28). -/
theorem followOn_readIndex {d : Deck} {s : State} (hw : (s.deck d).link.waiting = none) :
    sendWaiting d true (placeWaiting d { command := .readIndex, from_ := .dlu, plan := none } s).1 =
      raiseNotice (.deck d) (.deckState .identifying none none none) (onLink d (movingLink .readIndex) s) := by
  have hplace : placeWaiting d { command := .readIndex, from_ := .dlu, plan := none } s =
      (onLink d (fun l => { l with waiting := some { command := .readIndex, from_ := .dlu, plan := none } }) s, .waits) := by
    unfold placeWaiting; rw [hw]
  rw [hplace]
  dsimp only
  rw [sendWaiting_mechanical (c := .readIndex) (who := .dlu) (by rw [onLink_same]) rfl, onLink_onLink]
  congr 1
  exact onLink_congr (by unfold movingLink Link.hasSent; dsimp only; rw [hw])

/-! ## The ends of FETCH_DISC and STOW_DISC (R28, R30) -/

theorem discInReport_ends {d : Deck} {o : Outstanding} {slot : Nat} {s : State} (ho : (s.deck d).link.outstanding = some o)
    (hc : o.command = .fetchDisc slot) (hw : (s.deck d).link.waiting = none) :
    discInReport d o.tag s = raiseNotice (.deck d) (.deckState .identifying none none none)
      (onLink d (fun l => { Link.hasSent .readIndex l with state := .identifying, runTag := none, gapTimer := false }) s) := by
  unfold discInReport
  rw [current_of_outstanding _ _ ho]
  dsimp only
  rw [hc]
  dsimp only
  unfold clearOutstanding
  rw [followOn_readIndex (by rw [onLink_same, onLink_same]; exact hw), onLink_onLink, onLink_onLink]
  rfl

/-- FETCH_DISC ends without a disc, nothing waiting (R28). -/
theorem fetchEnds_eq {d : Deck} {s : State} (why : DeckReason) (hw : (s.deck d).link.waiting = none) :
    fetchEnds d why s = raiseNotice (.deck d) (.deckState .noDisc (some why) none none)
      (onLink d (fun l => { l with state := .noDisc, cause := .noDisc why, outstanding := none }) (discardDisc d s)) := by
  unfold fetchEnds clearOutstanding
  rw [noDisc_announced why (by rw [onLink_same]; exact hw), discardDisc_onLink _ _ _ (fun _ => rfl), onLink_onLink]

theorem slotEmptyReport_ends {d : Deck} {o : Outstanding} {slot : Nat} {s : State} (ho : (s.deck d).link.outstanding = some o)
    (hc : o.command = .fetchDisc slot) (hw : (s.deck d).link.waiting = none) :
    slotEmptyReport d o.tag s = raiseNotice (.deck d) (.deckState .noDisc (some .emptySlot) none none)
      (onLink d (fun l => { l with state := .noDisc, cause := .noDisc .emptySlot, outstanding := none, lastSlot := none })
        (discardDisc d s)) := by
  unfold slotEmptyReport
  rw [current_of_outstanding _ _ ho]
  dsimp only
  rw [hc]
  dsimp only
  rw [fetchEnds_eq .emptySlot (by rw [onLink_same]; exact hw), discardDisc_onLink _ _ _ (fun _ => rfl), onLink_onLink]

theorem stowedReport_ends {d : Deck} {o : Outstanding} {byUnload : Bool} {s : State} (ho : (s.deck d).link.outstanding = some o)
    (hc : o.command = .stowDisc byUnload) : stowedReport d o.tag s = stowed d byUnload s := by
  unfold stowedReport
  rw [current_of_outstanding _ _ ho]
  dsimp only
  rw [hc]

/-- STOW_DISC is complete, nothing waiting (R30). -/
theorem stowed_eq {d : Deck} {s : State} (byUnload : Bool) (hw : (s.deck d).link.waiting = none) :
    stowed d byUnload s = raiseNotice (.deck d) (.deckState .noDisc (some .unloaded) none none)
      (onLink d (fun l => { l with state := .noDisc, cause := .noDisc .unloaded, outstanding := none,
                                   lastSlot := if byUnload then none else l.lastSlot }) (discardDisc d s)) := by
  unfold stowed clearOutstanding
  dsimp only
  rw [onLink_onLink, noDisc_announced .unloaded (by rw [onLink_same]; exact hw), discardDisc_onLink _ _ _ (fun _ => rfl), onLink_onLink]

/-- The stowing of a LOAD is complete: its FETCH_DISC is sent (R21, R30). -/
theorem stowed_load {d : Deck} {s : State} {slot : Nat}
    (hw : (s.deck d).link.waiting = some { command := .fetchDisc slot, from_ := .host, plan := none }) :
    stowed d false s = raiseNotice (.deck d) (.deckState .loading none none none)
      (onLink d (fun l => { Link.hasSent (.fetchDisc slot) l with
          state := .loading, cause := .noDisc .unloaded, waiting := none, runTag := none, gapTimer := false }) (discardDisc d s)) := by
  unfold stowed clearOutstanding toNoDisc
  dsimp only
  rw [onLink_onLink, discardDisc_onLink _ _ _ (fun _ => rfl), onLink_onLink,
    sendWaiting_mechanical (c := .fetchDisc slot) (who := .host) (by rw [onLink_same, discardDisc_same]; exact hw) rfl, onLink_onLink]
  rfl

/-! ## The end of PARK (R31, R32) -/

theorem parkedReport_ends {d : Deck} {o : Outstanding} {p : Purpose} {s : State} (ho : (s.deck d).link.outstanding = some o)
    (hc : o.command = .park p) : parkedReport d o.tag s = parkComplete d p s := by
  unfold parkedReport
  rw [current_of_outstanding _ _ ho]
  dsimp only
  rw [hc]

theorem parkDone_idle {d : Deck} {s : State} (h : (s.side d).reload = false) : parkDone d s = s := by
  unfold parkDone
  rw [if_neg (by simp [h])]

theorem parkComplete_tray {d : Deck} {s : State} (hw : (s.deck d).link.waiting = none) (hr : (s.side d).reload = false) :
    parkComplete d .tray s = raiseNotice (.deck d) (.deckState .noDisc (some .tray) none none)
      (onLink d (fun l => { l with state := .noDisc, cause := .noDisc .tray, outstanding := none }) (discardDisc d s)) := by
  have hends : sendWaiting d true (toNoDisc d .tray (clearOutstanding d s)) = _ := fetchEnds_eq .tray hw
  unfold parkComplete
  dsimp only
  rw [hends, parkDone_idle]
  rw [raiseNotice_side, onLink_side, discardDisc_side]
  exact hr

theorem announce_parked {d : Deck} {s : State} (h : (s.deck d).link.state = .parked) :
    announce d s = raiseNotice (.deck d) (.deckState .parked none none none) s := by
  unfold announce
  dsimp only
  rw [h]

theorem parkComplete_standby {d : Deck} {s : State} (hw : (s.deck d).link.waiting = none) (hs : s.standby.phase = .standby) :
    parkComplete d .standby s = raiseNotice (.deck d) (.deckState .parked none none none)
      (onLink d (fun l => { l with state := .parked, outstanding := none }) s) := by
  unfold parkComplete clearOutstanding
  dsimp only
  rw [onLink_onLink, sendWaiting_none (by rw [onLink_same]; exact hw), if_pos rfl, announce_parked (by rw [onLink_same]), if_pos]
  simp [inStandby, hs]

/-- Settles O49: each report by the command that it ends. -/
theorem discReportsMoveTheDeck : Obligations.DiscReportsMoveTheDeck := by
  refine ⟨fun d o s hs ho hw => ⟨fun slot hc => ⟨?_, ?_⟩, fun byUnload hc => ?_⟩, fun d o slot s hs ho hc hw => ?_,
    fun d o s hs ho hw => ⟨fun hc hr => ?_, fun hc hph => ?_⟩⟩
  · rw [exec_taggedReport (i := .discIn d o.tag) rfl hs]
    exact congrArg _ (discInReport_ends ho hc hw)
  · rw [exec_taggedReport (i := .slotEmpty d o.tag) rfl hs]
    exact congrArg _ (slotEmptyReport_ends ho hc hw)
  · rw [exec_taggedReport (i := .stowed d o.tag) rfl hs]
    refine congrArg _ ((stowedReport_ends ho hc).trans ((stowed_eq byUnload hw).trans ?_))
    cases byUnload <;> rfl
  · rw [exec_taggedReport (i := .stowed d o.tag) rfl hs]
    exact congrArg _ ((stowedReport_ends ho hc).trans (stowed_load hw))
  · rw [exec_taggedReport (i := .parked d o.tag) rfl hs]
    exact congrArg _ ((parkedReport_ends ho hc).trans (parkComplete_tray hw hr))
  · rw [exec_taggedReport (i := .parked d o.tag) rfl hs]
    exact congrArg _ ((parkedReport_ends ho hc).trans (parkComplete_standby hw hph))

end Sys2Proof.Proofs
end


section
/-!
PROOFS. A zone stopped by its deck, and its ring flushed (R33, R34, R113, R119, R131).
-/

namespace Sys2Proof.Proofs

open Sys2Proof.Machine

/-! ## What the mirror zone's operations touch -/

/-- At most zone 2 and the notice queue differ, and zone 2 keeps its source. -/
def MirrorOnly (s t : State) : Prop :=
  ∃ n q, t = { s with zone2 := n, port := { s.port with queue := q } } ∧ n.source = s.zone2.source

theorem MirrorOnly.refl (s : State) : MirrorOnly s s := ⟨s.zone2, s.port.queue, rfl, rfl⟩

theorem MirrorOnly.trans {s t w : State} (h : MirrorOnly s t) (g : MirrorOnly t w) : MirrorOnly s w := by
  obtain ⟨n, q, rfl, hn⟩ := h
  obtain ⟨m, r, rfl, hm⟩ := g
  exact ⟨m, r, rfl, hm.trans hn⟩

theorem MirrorOnly.zone2 (s : State) (n : Zone) (h : n.source = s.zone2.source) : MirrorOnly s { s with zone2 := n } :=
  ⟨n, s.port.queue, rfl, h⟩

theorem MirrorOnly.notice (u : NoticeUnit) (b : NoticeBody) (s : State) : MirrorOnly s (raiseNotice u b s) := by
  unfold raiseNotice
  split
  · exact ⟨s.zone2, _, rfl, rfl⟩
  · exact .refl s

theorem mirrorOnly_enterZone (st : ZoneState) (s : State) : MirrorOnly s (enterZone .two st s) :=
  (MirrorOnly.zone2 s { s.zone2 with state := st } rfl).trans (.notice _ _ _)

theorem mirrorOnly_mirrorZero (s : State) : MirrorOnly s (mirrorZero s) := by
  unfold mirrorZero
  dsimp only
  split
  · exact (MirrorOnly.zone2 s s.zone2.cleared rfl).trans (mirrorOnly_enterZone _ _)
  · split
    · split
      · exact mirrorOnly_enterZone _ s
      · exact .refl s
    · split
      · split
        · exact mirrorOnly_enterZone _ s
        · exact .refl s
      · exact .refl s

theorem mirrorOnly_mirrorStop (why : StopReason) (s : State) : MirrorOnly s (mirrorStop why s) := by
  have h : MirrorOnly s (onZone .two (fun n => { n with causes := { n.causes with stop := true }, stopReason := why }) s) :=
    .zone2 s _ rfl
  unfold mirrorStop
  dsimp only
  split
  · split
    · exact h.trans (mirrorOnly_mirrorZero _)
    · exact h
  · exact .refl s

theorem mirrorOnly_mirrorSync (s : State) : MirrorOnly s (mirrorSync s) := by
  have h : MirrorOnly s (onZone .two (fun n => { n with inherited := inheritedFrom s.zone1 }) s) := .zone2 s _ rfl
  have hstats (t : State) : MirrorOnly t (onZoneStats .two (fun x => { x with starves := bump 1 x.starves }) t) := .zone2 t _ rfl
  unfold mirrorSync
  dsimp only
  split
  · split
    · exact .refl s
    · generalize hu : (if (inheritedFrom s.zone1).starve = true ∧ ¬ s.zone2.inherited.starve = true then
        onZoneStats .two (fun t => { t with starves := bump 1 t.starves })
          (onZone .two (fun n => { n with inherited := inheritedFrom s.zone1 }) s)
        else onZone .two (fun n => { n with inherited := inheritedFrom s.zone1 }) s) = u
      have hsu : MirrorOnly s u := by
        subst hu
        split
        · exact h.trans (hstats _)
        · exact h
      split
      · exact hsu.trans (mirrorOnly_mirrorZero u)
      · split
        · exact hsu.trans (mirrorOnly_enterZone _ u)
        · exact hsu
  · exact .refl s

/-! ## A zone and its follower -/

/-- What zone `z` does to its follower: nothing for zone 2 or without a mirror, and else to the mirror zone alone. -/
def Told (z : ZoneId) (s t : State) : Prop := MirrorOnly s t ∧ (z = .two ∨ mirroring s = false → t = s)

theorem Told.refl (z : ZoneId) (s : State) : Told z s s := ⟨.refl s, fun _ => rfl⟩

theorem MirrorOnly.mirroring {s t : State} (h : MirrorOnly s t) : mirroring t = mirroring s := by
  obtain ⟨n, q, rfl, hn⟩ := h
  exact mirroring_congr hn

theorem Told.trans {z : ZoneId} {s t w : State} (h : Told z s t) (g : Told z t w) : Told z s w :=
  ⟨h.1.trans g.1, fun hz => (g.2 (hz.imp_right fun hm => h.1.mirroring.trans hm)).trans (h.2 hz)⟩

theorem told_follow (z : ZoneId) (s : State) : Told z s (follow z s) := by
  cases z with
  | one => exact ⟨mirrorOnly_mirrorSync s, fun h => mirrorSync_of_none (h.resolve_left (by decide))⟩
  | two => exact .refl _ s

theorem told_mirrorTold (why : StopReason) (z : ZoneId) (s : State) : Told z s (mirrorTold why z s) := by
  cases z with
  | one => exact ⟨mirrorOnly_mirrorStop why s, fun h => mirrorStop_of_none (h.resolve_left (by decide)) why⟩
  | two => exact .refl _ s

section
variable {z : ZoneId} {s t : State} (h : Told z s t)
include h

theorem Told.zone : t.zone z = s.zone z := by
  cases z with
  | one => obtain ⟨⟨n, q, rfl, -⟩, -⟩ := h; rfl
  | two => rw [h.2 (.inl rfl)]

theorem Told.source (y : ZoneId) : (t.zone y).source = (s.zone y).source := by
  obtain ⟨⟨n, q, rfl, hn⟩, -⟩ := h
  cases y
  · rfl
  · exact hn

theorem Told.deck (d : Deck) : t.deck d = s.deck d := by
  obtain ⟨⟨n, q, rfl, -⟩, -⟩ := h
  cases d <;> rfl

theorem Told.tray : t.tray = s.tray := by
  obtain ⟨⟨n, q, rfl, -⟩, -⟩ := h
  rfl

end

/-! ## A stop request on the zone of a deck (R113, R119) -/

/-- A zone of a deck asked to stop, before it acts (R119, R131). -/
theorem told_stopping (z : ZoneId) (d : Deck) (why : StopReason) (fast : Bool) (s : State) :
    Told z (awaitFlush d (onZone z (stopping why fast) s)) (follow z (mirrorTold why z (awaitFlush d (onZone z (stopping why fast) s)))) :=
  (told_mirrorTold why z _).trans (told_follow z _)

theorem not_mirror_of_deck {z : ZoneId} {d : Deck} {s : State} (h : (s.zone z).source = .deck d) : ¬ (z = .two ∧ mirroring s = true) := by
  rintro ⟨rfl, hm⟩
  have hsrc : s.zone2.source = .deck d := h
  rw [mirroring_of_ne (by rw [hsrc]; simp)] at hm
  cases hm

/-- A zone entered into STOPPED by a stop that hands no note over (R113, R177). -/
def stoppedAt (z : ZoneId) (d : Deck) (s : State) : State := follow z (flush d (enterZone z .stopped (onZone z Zone.cleared s)))

/-- A stop request on an active zone of a deck: at ramp 0 the zone is STOPPED at once, above it falls (R113, R119). -/
theorem stopRequest_active {z : ZoneId} {d : Deck} {s : State} (hsrc : (s.zone z).source = .deck d) (hs : (s.zone z).state ≠ .stopped)
    {why : StopReason} (hwhy : why ≠ .host ∧ why ≠ .standby) (fast : Bool) :
    ∃ u, Told z (awaitFlush d (onZone z (stopping why fast) s)) u ∧
      stopRequest z why fast s = if (s.zone z).ramp = 0 then stoppedAt z d u else u := by
  refine ⟨_, told_stopping z d why fast s, ?_⟩
  have hz : (follow z (mirrorTold why z (awaitFlush d (onZone z (stopping why fast) s)))).zone z = stopping why fast (s.zone z) := by
    rw [(told_stopping z d why fast s).zone]
    unfold awaitFlush
    rw [onPlan_zone, onZone_same]
  rw [stopRequest_of_active hs, deck?_of_source hsrc]
  change raised z (mirrorTold why z (awaitFlush d (onZone z (stopping why fast) s))) = _
  unfold raised
  dsimp only
  generalize follow z (mirrorTold why z (awaitFlush d (onZone z (stopping why fast) s))) = u at hz
  rw [hz, show (stopping why fast (s.zone z)).ramp = (s.zone z).ramp from rfl]
  split
  · have hsrcu : (u.zone z).source = .deck d := by rw [hz]; exact hsrc
    have hzero : reachZero z u = enterStopped z u := by
      unfold reachZero
      dsimp only
      rw [if_neg (not_mirror_of_deck hsrcu), hz, if_neg (by simp [stopping])]
      exact if_pos rfl
    have hnote : takeNote z why u = u := by
      unfold takeNote
      dsimp only
      exact if_neg fun h => h.elim hwhy.1 hwhy.2
    rw [hzero]
    unfold enterStopped stoppedAt
    dsimp only
    rw [deck?_of_source hsrcu, show (u.zone z).stopReason = why by rw [hz]; rfl, hnote]
  · rfl

/-! ## A flush, deck and zones (R79, R139) -/

theorem flush_zone (d : Deck) (s : State) (z : ZoneId) :
    (flush d s).zone z = if zoneOf d s = some z then (s.zone z).unheld else s.zone z := by
  rw [flush_eq, zoneFlushed_eq, zoneOf_onDeck]
  cases hz : zoneOf d s with
  | none => simp
  | some y =>
    by_cases hy : y = z
    · subst hy; simp
    · have hne : z = otherZone y := by cases y <;> cases z <;> simp_all [otherZone]
      subst hne
      simp [hy]

theorem flush_otherDeck (d : Deck) (s : State) : (flush d s).deck (otherDeck d) = s.deck (otherDeck d) := (flush_elsewhere d s).1
theorem flush_tray (d : Deck) (s : State) : (flush d s).tray = s.tray := (flush_elsewhere d s).2.1
theorem flush_port (d : Deck) (s : State) : (flush d s).port = s.port := (flush_elsewhere d s).2.2.1

/-- A deck that does not move keeps its link in a flush (R23). -/
theorem flush_link {d : Deck} {s : State} (h : (s.deck d).link.state ∉ [.seeking, .streaming, .stalled]) :
    ((flush d s).deck d).link = (s.deck d).link := by
  rw [flush_deck]
  exact releasedLink_still h

/-! ## The zone of a deck stopped, its ring flushed and its job cancelled (R33, R34) -/

/-- The zone of a stopped deck, before the flush (R113, R119). -/
def stopOf (why : StopReason) (n : Zone) : Zone :=
  if n.state = .stopped then n else if n.ramp = 0 then n.ended why else stopping why true n

/-- The notices of a stop that acts at once (R111). -/
def portAfter (z : ZoneId) (why : StopReason) (s : State) : Port :=
  if (s.zone z).state ≠ .stopped ∧ (s.zone z).ramp = 0 then (raiseNotice (.zone z) (.zoneState .stopped (some why)) s).port else s.port

@[simp] theorem awaitFlush_zone (d : Deck) (s : State) (z : ZoneId) : (awaitFlush d s).zone z = s.zone z := onPlan_zone d _ s z
@[simp] theorem awaitFlush_tray (d : Deck) (s : State) : (awaitFlush d s).tray = s.tray := onPlan_tray d _ s
@[simp] theorem awaitFlush_port (d : Deck) (s : State) : (awaitFlush d s).port = s.port := onPlan_port d _ s
theorem awaitFlush_other (d : Deck) (s : State) : (awaitFlush d s).deck (otherDeck d) = s.deck (otherDeck d) := onPlan_other d _ s
theorem awaitFlush_link (d : Deck) (s : State) : ((awaitFlush d s).deck d).link = (s.deck d).link := by
  unfold awaitFlush; rw [onPlan_same]

theorem otherZone_of_ne {y z : ZoneId} (h : y ≠ z) : y = otherZone z := by
  cases y <;> cases z <;> first | rfl | exact absurd rfl h

/-- A change of one zone that keeps its source keeps every zone's. -/
theorem onZone_sources {z : ZoneId} {f : Zone → Zone} {s : State} (h : (f (s.zone z)).source = (s.zone z).source) (y : ZoneId) :
    ((onZone z f s).zone y).source = (s.zone y).source := by
  by_cases hy : y = z
  · rw [hy, onZone_same, h]
  · rw [otherZone_of_ne hy, onZone_other]

/-- The active zone `z` of a deck has become `n` (R113, R119), with `p` the port where no zone mirrors; the link of the deck stands. -/
structure ZoneMade (d : Deck) (z : ZoneId) (n : Zone) (p : Port) (s t : State) : Prop where
  link : (t.deck d).link = (s.deck d).link
  other : t.deck (otherDeck d) = s.deck (otherDeck d)
  tray : t.tray = s.tray
  source : ∀ y, (t.zone y).source = (s.zone y).source
  zone : t.zone z = n
  quiet : mirroring s = false → t.zone (otherZone z) = s.zone (otherZone z) ∧ t.port = p

theorem mirroring_of_sources {s t : State} (h : ∀ y, (t.zone y).source = (s.zone y).source) : mirroring t = mirroring s :=
  mirroring_congr (h .two)

section
variable {d : Deck} {z : ZoneId} {n m : Zone} {p q : Port} {s t w : State}

theorem ZoneMade.trans (h : ZoneMade d z n p s t) (g : ZoneMade d z m q t w) : ZoneMade d z m q s w where
  link := g.link.trans h.link
  other := g.other.trans h.other
  tray := g.tray.trans h.tray
  source y := (g.source y).trans (h.source y)
  zone := g.zone
  quiet hm := by
    obtain ⟨hz, -⟩ := h.quiet hm
    obtain ⟨gz, gp⟩ := g.quiet ((mirroring_of_sources h.source).trans hm)
    exact ⟨gz.trans hz, gp⟩

/-- The follower of the zone changes nothing of this. -/
theorem ZoneMade.followed (h : ZoneMade d z n p s t) (g : Told z t w) : ZoneMade d z n p s w where
  link := by rw [g.deck]; exact h.link
  other := (g.deck _).trans h.other
  tray := g.tray.trans h.tray
  source y := (g.source y).trans (h.source y)
  zone := g.zone.trans h.zone
  quiet hm := by rw [g.2 (.inr ((mirroring_of_sources h.source).trans hm))]; exact h.quiet hm

end

theorem ZoneMade.stopping (d : Deck) (z : ZoneId) (why : StopReason) (fast : Bool) (s : State) :
    ZoneMade d z (stopping why fast (s.zone z)) s.port s (awaitFlush d (onZone z (Proofs.stopping why fast) s)) where
  link := by rw [awaitFlush_link, onZone_deck]
  other := by rw [awaitFlush_other, onZone_deck]
  tray := by simp
  source y := by rw [awaitFlush_zone]; exact onZone_sources rfl y
  zone := by rw [awaitFlush_zone, onZone_same]
  quiet _ := by simp

theorem raiseNotice_port_congr (u : NoticeUnit) (b : NoticeBody) {s t : State} (h : s.port = t.port) :
    (raiseNotice u b s).port = (raiseNotice u b t).port := by
  unfold raiseNotice
  rw [h]
  split <;> simp [onPort, h]

/-- Entry into STOPPED of a zone whose deck does not move (R113). -/
theorem ZoneMade.stoppedAt {d : Deck} {z : ZoneId} {s : State} (hzo : zoneOf d s = some z)
    (hstill : (s.deck d).link.state ∉ [.seeking, .streaming, .stalled]) :
    ZoneMade d z { (s.zone z).cleared with state := .stopped }
      (raiseNotice (.zone z) (.zoneState .stopped (some (s.zone z).stopReason)) s).port s (stoppedAt z d s) := by
  let w : State := onZone z (fun n => { n.cleared with state := .stopped }) s
  have hw : enterZone z .stopped (onZone z Zone.cleared s) =
      raiseNotice (.zone z) (.zoneState .stopped (some (s.zone z).stopReason)) w := by
    unfold enterZone
    dsimp only
    rw [onZone_onZone, if_pos rfl, onZone_same]
    rfl
  have hdeck : ∀ e, (enterZone z .stopped (onZone z Zone.cleared s)).deck e = s.deck e := fun e => by simp
  have hzone : ∀ y, (enterZone z .stopped (onZone z Zone.cleared s)).zone y = w.zone y := fun y => by rw [hw, raiseNotice_zone]
  have hwz : w.zone z = { (s.zone z).cleared with state := .stopped } := onZone_same _ _ _
  have hsource : ∀ y, (w.zone y).source = (s.zone y).source := onZone_sources rfl
  have hflush : ZoneMade d z { (s.zone z).cleared with state := .stopped }
      (raiseNotice (.zone z) (.zoneState .stopped (some (s.zone z).stopReason)) s).port s
      (flush d (enterZone z .stopped (onZone z Zone.cleared s))) := by
    refine ⟨?_, ?_, ?_, fun y => ?_, ?_, fun _ => ⟨?_, ?_⟩⟩
    · rw [flush_link (by rw [hdeck]; exact hstill), hdeck]
    · rw [flush_otherDeck, hdeck]
    · rw [flush_tray]; simp
    · rw [flush_zone, hzone]
      split <;> exact hsource y
    · rw [flush_zone, hzone, hwz]
      split <;> rfl
    · rw [flush_zone, hzone, show w.zone (otherZone z) = s.zone (otherZone z) from onZone_other _ _ _]
      rw [zoneOf_congr (fun y => (congrArg Zone.source (hzone y)).trans (hsource y)) d, hzo]
      exact if_neg fun h => by cases z <;> cases h
    · rw [flush_port, hw]
      exact raiseNotice_port_congr _ _ (onZone_port _ _ _)
  exact hflush.followed (told_follow z _)

/-- The zone of a deck has been told to stop (R119): what the zone, its follower and the deck make of it. -/
theorem stopRequest_made {d : Deck} {z : ZoneId} {why : StopReason} (hwhy : why ≠ .host ∧ why ≠ .standby) {s : State}
    (hzo : zoneOf d s = some z) (hst : (s.zone z).state ≠ .stopped)
    (hstill : (s.deck d).link.state ∉ [.seeking, .streaming, .stalled]) :
    ZoneMade d z (stopOf why (s.zone z)) (portAfter z why s) s (stopRequest z why true s) := by
  obtain ⟨u, hu, heq⟩ := stopRequest_active (zoneOf_source d s z hzo) hst hwhy true
  have hasked := (ZoneMade.stopping d z why true s).followed hu
  rw [heq]
  unfold stopOf portAfter
  rw [if_neg hst]
  split
  · next hr =>
    have hstopped := ZoneMade.stoppedAt (s := u) ((zoneOf_congr hasked.source d).trans hzo) (by rw [hasked.link]; exact hstill)
    rw [hasked.zone] at hstopped
    have h := hasked.trans hstopped
    refine { h with quiet := fun hm => ⟨(h.quiet hm).1, ?_⟩ }
    rw [(h.quiet hm).2, if_pos ⟨hst, hr⟩]
    exact raiseNotice_port_congr _ _ (hasked.quiet hm).2
  · next hr =>
    rw [if_neg (fun h => hr h.2)]
    exact hasked

/-- The end of the deck's part in R33 and R34: its zone stopped, its ring flushed, its job cancelled. -/
def stopAndFlush (d : Deck) (why : StopReason) (s : State) : State := cancelJob d (flush d (stopZoneOf d why true s))

/-- A deck that does not move, after its zone has been stopped, its ring flushed and its job cancelled. -/
structure StoppedAndFlushed (d : Deck) (why : StopReason) (s t : State) : Prop where
  link : (t.deck d).link = (s.deck d).link
  emptied : (t.deck d).emptied
  other : t.deck (otherDeck d) = s.deck (otherDeck d)
  tray : t.tray = s.tray
  idle : zoneOf d s = none → t.zone1 = s.zone1 ∧ t.zone2 = s.zone2
  zone : ∀ z, zoneOf d s = some z → t.zone z = (stopOf why (s.zone z)).unheld
  quiet : ∀ z, zoneOf d s = some z → mirroring s = false →
    t.zone (otherZone z) = s.zone (otherZone z) ∧ t.port = portAfter z why s

theorem cancelJob_zone (d : Deck) (s : State) (z : ZoneId) : (cancelJob d s).zone z = s.zone z := by rw [cancelJob_eq, onDeck_zone]

/-- The flush and the cancellation over a deck that does not move. -/
theorem flushed_still {d : Deck} {s : State} (hstill : (s.deck d).link.state ∉ [.seeking, .streaming, .stalled]) :
    ((cancelJob d (flush d s)).deck d).link = (s.deck d).link ∧ ((cancelJob d (flush d s)).deck d).emptied ∧
      (cancelJob d (flush d s)).deck (otherDeck d) = s.deck (otherDeck d) ∧ (cancelJob d (flush d s)).tray = s.tray ∧
      (cancelJob d (flush d s)).port = s.port := by
  rw [cancelJob_eq]
  refine ⟨?_, ?_, ?_, ?_, ?_⟩
  · rw [onDeck_same]
    have hl := flush_link hstill
    change releasedLink ((flush d s).deck d).link = _
    rw [hl]
    exact releasedLink_still hstill
  · rw [onDeck_same, flush_deck]
    exact ⟨rfl, rfl, rfl, rfl, rfl, rfl, rfl, rfl, rfl, rfl, rfl, rfl, rfl, rfl, rfl⟩
  · rw [onDeck_other, flush_otherDeck]
  · rw [onDeck_tray, flush_tray]
  · rw [onDeck_port, flush_port]

theorem stoppedAndFlushed {d : Deck} {why : StopReason} (hwhy : why ≠ .host ∧ why ≠ .standby) {s : State}
    (hstill : (s.deck d).link.state ∉ [.seeking, .streaming, .stalled]) : StoppedAndFlushed d why s (stopAndFlush d why s) := by
  unfold stopAndFlush stopZoneOf
  cases hzo : zoneOf d s with
  | none =>
    obtain ⟨h1, h2, h3, h4, h5⟩ := flushed_still hstill
    have hkeep : ∀ y, (cancelJob d (flush d s)).zone y = s.zone y := fun y => by
      rw [cancelJob_zone, flush_zone, hzo]; exact if_neg (by simp)
    exact ⟨h1, h2, h3, h4, fun _ => ⟨hkeep .one, hkeep .two⟩, fun z h => by rw [hzo] at h; (nomatch h),
      fun z h => by rw [hzo] at h; (nomatch h)⟩
  | some z =>
    have hmade : ZoneMade d z (stopOf why (s.zone z)) (portAfter z why s) s (stopRequest z why true s) := by
      by_cases hst : (s.zone z).state = .stopped
      · rw [stopRequest_of_stopped hst]
        exact ⟨rfl, rfl, rfl, fun _ => rfl, (if_pos hst).symm, fun _ => ⟨rfl, (if_neg fun h => h.1 hst).symm⟩⟩
      · exact stopRequest_made hwhy hzo hst hstill
    have hzo' : zoneOf d (stopRequest z why true s) = some z := (zoneOf_congr hmade.source d).trans hzo
    have hothers : (cancelJob d (flush d (stopRequest z why true s))).zone (otherZone z) = (stopRequest z why true s).zone (otherZone z) := by
      rw [cancelJob_zone, flush_zone, hzo']
      exact if_neg fun h => by cases z <;> cases h
    obtain ⟨h1, h2, h3, h4, h5⟩ := flushed_still (s := stopRequest z why true s) (by rw [hmade.link]; exact hstill)
    refine ⟨h1.trans hmade.link, h2, h3.trans hmade.other, h4.trans hmade.tray, fun h => ?_, fun y h => ?_, fun y h hm => ?_⟩
    · rw [hzo] at h; cases h
    · rw [hzo] at h
      cases h
      rw [cancelJob_zone, flush_zone, hzo', if_pos rfl, hmade.zone]
    · rw [hzo] at h
      cases h
      exact ⟨hothers.trans (hmade.quiet hm).1, h5.trans (hmade.quiet hm).2⟩

end Sys2Proof.Proofs
end


section
/-!
PROOFS. RESET_DECK (R34) and FAULT (R33): the deck's commands cleared, its zone stopped, its ring flushed.
-/

namespace Sys2Proof.Proofs

open Sys2Proof.Machine

/-! ## Requesters told (R20, R34, R171) -/

/-- At most the job phase of the deck's planner and its tray's pending reload differ. -/
def RequestersTold (d : Deck) (s t : State) : Prop := ∃ f g, t = onPlan d f (onSide d g s)

theorem RequestersTold.refl (d : Deck) (s : State) : RequestersTold d s s := ⟨id, id, by cases d <;> rfl⟩

theorem RequestersTold.trans {d : Deck} {s t w : State} (h : RequestersTold d s t) (g : RequestersTold d t w) : RequestersTold d s w := by
  obtain ⟨f, a, rfl⟩ := h
  obtain ⟨f', a', rfl⟩ := g
  exact ⟨f' ∘ f, a' ∘ a, by cases d <;> rfl⟩

theorem RequestersTold.side (d : Deck) (g : TraySide → TraySide) (s : State) : RequestersTold d s (onSide d g s) :=
  ⟨id, g, by cases d <;> rfl⟩

theorem RequestersTold.plan (d : Deck) (f : Planner → Planner) (s : State) : RequestersTold d s (onPlan d f s) :=
  ⟨f, id, by cases d <;> rfl⟩

theorem requestersTold_tellDropped (d : Deck) (r : Request) (s : State) : RequestersTold d s (tellDropped d r s) := by
  unfold tellDropped
  split
  · exact .plan d _ s
  · split
    · exact .side d _ s
    · exact .refl d s
  all_goals exact .refl d s

theorem requestersTold_tellCleared (d : Deck) (s : State) : RequestersTold d s (tellCleared d s) := by
  have hw : ∀ o : Option Request, RequestersTold d s (o.elim s fun w => tellDropped d w s) := fun o => by
    cases o
    · exact .refl d s
    · exact requestersTold_tellDropped d _ s
  have h := hw (s.deck d).link.waiting
  unfold tellCleared
  dsimp only
  cases hwait : (s.deck d).link.waiting <;> rw [hwait] at h <;> dsimp only [Option.elim] at h ⊢ <;> split
  · exact h.trans (.side d _ _)
  · exact h
  · exact h.trans (.side d _ _)
  · exact h

section
variable {d : Deck} {s t : State} (h : RequestersTold d s t)
include h

theorem RequestersTold.link : (t.deck d).link = (s.deck d).link := by
  obtain ⟨f, g, rfl⟩ := h; rw [onPlan_same, onSide_deck]

theorem RequestersTold.other : t.deck (otherDeck d) = s.deck (otherDeck d) := by
  obtain ⟨f, g, rfl⟩ := h; rw [onPlan_other, onSide_deck]

theorem RequestersTold.zone (z : ZoneId) : t.zone z = s.zone z := by
  obtain ⟨f, g, rfl⟩ := h; rw [onPlan_zone, onSide_zone]

theorem RequestersTold.port : t.port = s.port := by
  obtain ⟨f, g, rfl⟩ := h; rw [onPlan_port, onSide_port]

theorem RequestersTold.table : t.tray.table = s.tray.table := by
  obtain ⟨f, g, rfl⟩ := h; rw [onPlan_tray]; cases d <;> rfl

theorem RequestersTold.otherSide : t.side (otherDeck d) = s.side (otherDeck d) := by
  obtain ⟨f, g, rfl⟩ := h; rw [onPlan_side, onSide_other]

end

/-! ## RESET_DECK (R34) -/

theorem exec_resetDeck (d : Deck) (s : State) (hs : Awake s) :
    exec (.resetDeck (deckByte d)) s = .next (replied .ok [] (resetDeck d s)) := by
  have hanswer : resetDeckAnswer (deckByte d) s = (resetDeck d s, ok []) := by
    unfold resetDeckAnswer; rw [deckArg_deckByte]
  rw [exec_awake (f := resetDeckAnswer (deckByte d)) rfl hs, hanswer]
  rfl

/-- A link whose commands, run and places are cleared (R34). -/
def clearedLink (l : Link) : Link :=
  { l with outstanding := none, waiting := none, gapTimer := false, runTag := none, lastSlot := none, lastLanded := none,
           byDelivery := false }

/-- The link of a reset deck (R34). -/
def resetLink (l : Link) : Link :=
  Link.hasSent .linkReset
    (if l.state = .fault then clearedLink l else { clearedLink l with disc := .absent, state := .noDisc, cause := .noDisc .reset })

theorem resetLink_fault {l : Link} (h : l.state = .fault) : resetLink l = Link.hasSent .linkReset (clearedLink l) :=
  congrArg _ (if_pos h)

theorem resetLink_running {l : Link} (h : l.state ≠ .fault) :
    resetLink l = Link.hasSent .linkReset { clearedLink l with disc := .absent, state := .noDisc, cause := .noDisc .reset } :=
  congrArg _ (if_neg h)

/-- RESET_DECK before the zone is told (R34). -/
def resetSent (d : Deck) (s : State) : State :=
  let t := onLink d clearedLink (tellCleared d s)
  sendLinkReset d (if (s.deck d).link.state == .fault then t else toNoDisc d .reset t)

theorem resetDeck_eq (d : Deck) (s : State) :
    resetDeck d s = if (s.deck d).link.state == .fault then stopAndFlush d .deckReset (resetSent d s)
      else announce d (stopAndFlush d .deckReset (resetSent d s)) := rfl

@[simp] theorem announce_deck (d : Deck) (s : State) (e : Deck) : (announce d s).deck e = s.deck e := by
  unfold announce
  dsimp only
  split
  · split <;> simp
  all_goals simp

@[simp] theorem announce_zone (d : Deck) (s : State) (z : ZoneId) : (announce d s).zone z = s.zone z := by
  unfold announce
  dsimp only
  split
  · split <;> simp
  all_goals simp

@[simp] theorem announce_tray (d : Deck) (s : State) : (announce d s).tray = s.tray := by
  unfold announce
  dsimp only
  split
  · split <;> simp
  all_goals simp

theorem resetSent_deck (d : Deck) (s : State) :
    ((resetSent d s).deck d).link = resetLink (s.deck d).link ∧ (resetSent d s).deck (otherDeck d) = s.deck (otherDeck d) ∧
      (resetSent d s).tray.table = s.tray.table ∧ (resetSent d s).side (otherDeck d) = s.side (otherDeck d) := by
  have hk := requestersTold_tellCleared d s
  unfold resetSent
  dsimp only
  rw [sendLinkReset_eq]
  by_cases hf : (s.deck d).link.state = .fault
  · rw [if_pos (by simp [hf]), resetLink_fault hf]
    refine ⟨?_, ?_, ?_, ?_⟩
    · rw [onLink_same, onLink_same, hk.link]; rfl
    · rw [onLink_other, onLink_other, hk.other]
    · rw [onLink_tray, onLink_tray, hk.table]
    · rw [onLink_side, onLink_side, hk.otherSide]
  · rw [if_neg (by simp [hf]), resetLink_running hf]
    unfold toNoDisc
    refine ⟨?_, ?_, ?_, ?_⟩
    · rw [onLink_same, onLink_same, discardDisc_same, onLink_same, hk.link]; rfl
    · rw [onLink_other, onLink_other, discardDisc_other, onLink_other, hk.other]
    · rw [onLink_tray, onLink_tray, discardDisc_table, onLink_tray, hk.table]
    · rw [onLink_side, onLink_side, discardDisc_side, onLink_side, hk.otherSide]

theorem resetLink_still (l : Link) : (resetLink l).state ∉ [.seeking, .streaming, .stalled] := by
  by_cases hf : l.state = .fault
  · rw [resetLink_fault hf, show (Link.hasSent .linkReset (clearedLink l)).state = l.state from rfl, hf]; decide
  · rw [resetLink_running hf]; exact (by decide : DeckState.noDisc ∉ [DeckState.seeking, .streaming, .stalled])

/-- What RESET_DECK clears, keeps and sends on its link (R34). -/
theorem resetLink_fields (l : Link) :
    (resetLink l).outstanding =
        some { command := .linkReset, tag := l.nextTag, resends := 0, limit := 0, timer := .acknowledge } ∧
      (resetLink l).nextTag = l.nextTag + 1 ∧ (resetLink l).waiting = none ∧ (resetLink l).runTag = none ∧
      (resetLink l).gapTimer = false ∧ (resetLink l).lastSlot = none ∧ (resetLink l).lastLanded = none ∧
      (resetLink l).seekTime = l.seekTime ∧ (resetLink l).resends = l.resends ∧ (resetLink l).stales = l.stales ∧
      (resetLink l).declines = l.declines := by
  by_cases h : l.state = .fault
  · rw [resetLink_fault h]; exact ⟨rfl, rfl, rfl, rfl, rfl, rfl, rfl, rfl, rfl, rfl, rfl⟩
  · rw [resetLink_running h]; exact ⟨rfl, rfl, rfl, rfl, rfl, rfl, rfl, rfl, rfl, rfl, rfl⟩

/-- What RESET_DECK makes of its deck and leaves of the rest (R34). -/
theorem resetDeck_fields (d : Deck) (s : State) :
    ((resetDeck d s).deck d).link = resetLink (s.deck d).link ∧ ((resetDeck d s).deck d).emptied ∧
      (resetDeck d s).deck (otherDeck d) = s.deck (otherDeck d) ∧ (resetDeck d s).tray.table = s.tray.table ∧
      (resetDeck d s).side (otherDeck d) = s.side (otherDeck d) := by
  obtain ⟨hlink, hother, htable, hside⟩ := resetSent_deck d s
  have hstill : ((resetSent d s).deck d).link.state ∉ [.seeking, .streaming, .stalled] := by rw [hlink]; exact resetLink_still _
  have h := stoppedAndFlushed (why := .deckReset) (by decide) hstill
  have hdeck : ∀ e, (resetDeck d s).deck e = (stopAndFlush d .deckReset (resetSent d s)).deck e := fun e => by
    rw [resetDeck_eq]; split <;> simp
  have htray : (resetDeck d s).tray = (resetSent d s).tray := by
    rw [resetDeck_eq]
    split
    · exact h.tray
    · rw [announce_tray, h.tray]
  refine ⟨?_, ?_, ?_, ?_, ?_⟩
  · rw [hdeck, h.link, hlink]
  · rw [hdeck]; exact h.emptied
  · rw [hdeck, h.other, hother]
  · rw [htray, htable]
  · rw [side_of_tray htray, hside]

/-- Settles O37: the link cleared and LINK_RESET sent, over a stopped zone and a flushed ring. -/
theorem resetDeckResetsTheLink : Obligations.ResetDeckResetsTheLink := by
  intro d s hs
  obtain ⟨hlink, hempty, hother, htable, hside⟩ := resetDeck_fields d s
  have hpart := (kept_resetDeck (D := anyDeck) (d := d) trivial s).part
  have hlink' : ((replied .ok [] (resetDeck d s)).deck d).link = resetLink (s.deck d).link := by rw [replied_deck, hlink]
  obtain ⟨h1, h2, h3, h4, h5, h6, h7, h8, h9, h10, h11⟩ := resetLink_fields (s.deck d).link
  rw [← hlink'] at h1 h2 h3 h4 h5 h6 h7 h8 h9 h10 h11
  refine ⟨replied .ok [] (resetDeck d s), exec_resetDeck d s hs, rfl, h1, h2, h3, h4, h5, h6, h7, ?_, fun hf => ?_, fun hf => ?_, h8, h9,
    h10, h11, htable, ?_, hpart, hside⟩
  · rw [replied_deck]; exact hempty
  · rw [hlink', resetLink_fault hf]; exact ⟨hf, rfl⟩
  · rw [hlink', resetLink_running hf]; exact ⟨rfl, rfl, rfl⟩
  · rw [replied_deck]; exact hother

end Sys2Proof.Proofs
end


section
/-!
PROOFS. FAULT and the acknowledge timer (R15, R16, R33).
-/

namespace Sys2Proof.Proofs

open Sys2Proof.Machine

/-! ## The zone's record (R174, R176) -/

theorem writeZoneRecord_tray (d : Deck) (why : ResumeReason) (s : State) :
    ∃ t, writeZoneRecord d why s = { s with tray := { s.tray with table := t } } := by
  unfold writeZoneRecord
  split
  · split
    · exact ⟨s.tray.table, rfl⟩
    · split
      · exact ⟨_, rfl⟩
      · exact ⟨s.tray.table, rfl⟩
  · exact ⟨s.tray.table, rfl⟩

theorem writeZoneRecord_idle {d : Deck} {s : State} (why : ResumeReason) (h : zoneIdle d s = true ∨ (s.deck d).link.usable = none) :
    writeZoneRecord d why s = s := by
  unfold writeZoneRecord
  split
  · next z c hz hc =>
    rcases h with h | h
    · unfold zoneIdle at h
      rw [hz] at h
      exact if_pos (by simpa using h)
    · rw [hc] at h; cases h
  · rfl

theorem writeZoneRecord_active {d : Deck} {s : State} {z : ZoneId} {c : Catalogue} {r : ResumeRecord} (why : ResumeReason)
    (hz : zoneOf d s = some z) (hc : (s.deck d).link.usable = some c) (hst : (s.zone z).state ≠ .stopped)
    (hr : zoneRecord z d c why (s.zone z) = some r) : writeZoneRecord d why s = writeRecord r s := by
  unfold writeZoneRecord
  rw [hz, hc]
  dsimp only
  rw [if_neg hst, hr]

/-- The record of a zone as it plays (R174). -/
theorem zoneRecord_playing {z : ZoneId} {d : Deck} {c : Catalogue} {why : ResumeReason} {n : Zone} {r : PlayRange} {p : Nat}
    (hs : n.causes.switch = false) (hr : n.range = some r) (hp : n.position = some p) :
    zoneRecord z d c why n =
      some { fingerprint := c.fingerprint, deck := d, zone := z, range := r, position := p, cue := n.cue, reason := why } := by
  unfold zoneRecord
  rw [if_neg (by simp [hs]), hr, hp]

/-- The record of a zone with a switch pending (R174). -/
theorem zoneRecord_switching {z : ZoneId} {d : Deck} {c : Catalogue} {why : ResumeReason} {n : Zone} {r : PlayRange}
    (hs : n.causes.switch = true) (hr : n.pendingRange = some r) :
    zoneRecord z d c why n =
      some { fingerprint := c.fingerprint, deck := d, zone := z, range := r, position := r.first, cue := n.pendingCue, reason := why } := by
  unfold zoneRecord
  rw [if_pos hs, hr]
  rfl

/-! ## FAULT (R33) -/

/-- A link that enters FAULT, its catalogue not yet unusable (R33 steps 1 and 2). -/
def faultingLink (cause : FaultCause) (l : Link) : Link :=
  { l with state := .fault, cause := .fault cause, faultCause := some cause, outstanding := none, waiting := none,
           gapTimer := false, runTag := none }

theorem inFault_eq (cause : FaultCause) (l : Link) : { faultingLink cause l with disc := l.disc.faulted } = l.inFault cause := by
  rw [← inFault_disc cause l]; rfl

/-- The requester of the waiting command told, the link in FAULT (R33). -/
def faulting (d : Deck) (cause : FaultCause) (s : State) : State :=
  let t := onLink d (faultingLink cause) s
  match (s.deck d).link.waiting with
  | some w => tellDropped d w t
  | none => t

/-- FAULT before the zone is told (R33 steps 1 to 4). -/
def faultMade (d : Deck) (cause : FaultCause) (s : State) : State :=
  onLink d (fun l => { l with disc := l.disc.faulted }) (writeZoneRecord d .fault (faulting d cause s))

theorem enterFault_eq (d : Deck) (cause : FaultCause) (s : State) :
    enterFault d cause s =
      announce d (onSide d (fun t => { t with reload := false }) (stopAndFlush d .deckFault (faultMade d cause s))) := rfl

theorem requestersTold_faulting (d : Deck) (cause : FaultCause) (s : State) :
    RequestersTold d (onLink d (faultingLink cause) s) (faulting d cause s) := by
  unfold faulting
  dsimp only
  split
  · exact requestersTold_tellDropped d _ _
  · exact .refl d _

/-- What FAULT makes of its deck and leaves of the rest before the zone is told (R33). -/
structure FaultMade (d : Deck) (cause : FaultCause) (s t : State) : Prop where
  link : (t.deck d).link = (s.deck d).link.inFault cause
  other : t.deck (otherDeck d) = s.deck (otherDeck d)
  zone : ∀ z, t.zone z = s.zone z
  port : t.port = s.port
  side : t.side (otherDeck d) = s.side (otherDeck d)
  table : t.tray.table = (writeZoneRecord d .fault s).tray.table

theorem faulting_link (d : Deck) (cause : FaultCause) (s : State) :
    ((faulting d cause s).deck d).link = faultingLink cause (s.deck d).link := by
  rw [(requestersTold_faulting d cause s).link, onLink_same]

/-- The record is that of the zone before the deck's state changed. -/
theorem writeZoneRecord_congr {d : Deck} {why : ResumeReason} {s t : State} (hz : ∀ z, t.zone z = s.zone z)
    (hd : (t.deck d).link.disc = (s.deck d).link.disc) (ht : t.tray.table = s.tray.table) :
    (writeZoneRecord d why t).tray.table = (writeZoneRecord d why s).tray.table := by
  have hzo : zoneOf d t = zoneOf d s := zoneOf_congr (fun z => by rw [hz]) d
  have hu : (t.deck d).link.usable = (s.deck d).link.usable := by unfold Link.usable; rw [hd]
  unfold writeZoneRecord
  rw [hzo, hu]
  cases zoneOf d s with
  | none => exact ht
  | some z =>
    cases (s.deck d).link.usable with
    | none => exact ht
    | some c =>
      dsimp only
      rw [hz]
      split
      · exact ht
      · cases zoneRecord z d c why (s.zone z) with
        | none => exact ht
        | some r => exact congrArg (placeRecord r) ht

theorem faultMade_fields (d : Deck) (cause : FaultCause) (s : State) : FaultMade d cause s (faultMade d cause s) := by
  have htold := requestersTold_faulting d cause s
  have hlink := faulting_link d cause s
  have hzone : ∀ z, (faulting d cause s).zone z = s.zone z := fun z => by rw [htold.zone, onLink_zone]
  have htable := writeZoneRecord_congr (why := .fault) hzone (by rw [hlink]; rfl) (by rw [htold.table, onLink_tray])
  obtain ⟨t, ht⟩ := writeZoneRecord_tray d .fault (faulting d cause s)
  have hdeck : ∀ e, (writeZoneRecord d .fault (faulting d cause s)).deck e = (faulting d cause s).deck e := fun e => by
    rw [ht]; cases e <;> rfl
  unfold faultMade
  refine ⟨?_, ?_, fun z => ?_, ?_, ?_, ?_⟩
  · rw [onLink_same, hdeck, hlink]
    exact inFault_eq cause _
  · rw [onLink_other, hdeck, htold.other, onLink_other]
  · rw [onLink_zone, ht, ← hzone]; cases z <;> rfl
  · rw [onLink_port, ht]
    exact htold.port.trans (onLink_port _ _ _)
  · rw [onLink_side, ← onLink_side d (faultingLink cause) s, ← htold.otherSide, ht]; cases d <;> rfl
  · rw [onLink_tray, htable]

/-- A deck that has entered FAULT (R33). -/
structure Faulted (d : Deck) (cause : FaultCause) (s t : State) : Prop where
  link : (t.deck d).link = (s.deck d).link.inFault cause
  emptied : (t.deck d).emptied
  reload : (t.side d).reload = false
  side : t.side (otherDeck d) = s.side (otherDeck d)
  other : t.deck (otherDeck d) = s.deck (otherDeck d)
  table : t.tray.table = (writeZoneRecord d .fault s).tray.table
  idle : zoneOf d s = none → t.zone1 = s.zone1 ∧ t.zone2 = s.zone2
  zone : ∀ z, zoneOf d s = some z → t.zone z = (stopOf .deckFault (s.zone z)).unheld
  quiet : ∀ z, zoneOf d s = some z → mirroring s = false →
    t.zone (otherZone z) = s.zone (otherZone z) ∧
      t.port = (raiseNotice (.deck d) (.deckState .fault none (some cause)
        (if cause = .trouble then (s.deck d).link.trouble else none)) { s with port := portAfter z .deckFault s }).port

theorem announce_fault {d : Deck} {s : State} {cause : FaultCause} (h : (s.deck d).link.state = .fault)
    (hc : (s.deck d).link.faultCause = some cause) :
    announce d s = raiseNotice (.deck d) (.deckState .fault none (some cause)
      (if cause = .trouble then (s.deck d).link.trouble else none)) s := by
  unfold announce
  dsimp only
  rw [h]
  dsimp only
  rw [hc]
  simp

theorem portAfter_congr {z : ZoneId} {why : StopReason} {s t : State} (hz : t.zone z = s.zone z) (hp : t.port = s.port) :
    portAfter z why t = portAfter z why s := by
  unfold portAfter
  rw [hz, hp, raiseNotice_port_congr _ _ hp]

theorem enterFault_faulted (d : Deck) (cause : FaultCause) (s : State) : Faulted d cause s (enterFault d cause s) := by
  have hmade := faultMade_fields d cause s
  have hzo : ∀ z, zoneOf d (faultMade d cause s) = some z ↔ zoneOf d s = some z := fun z => by
    rw [zoneOf_congr (fun z => congrArg Zone.source (hmade.zone z)) d]
  have hstill : ((faultMade d cause s).deck d).link.state ∉ [.seeking, .streaming, .stalled] := by
    rw [hmade.link, show ((s.deck d).link.inFault cause).state = .fault from rfl]; decide
  have h := stoppedAndFlushed (why := .deckFault) (by decide) hstill
  have hport := announce_fault (s := onSide d (fun t => { t with reload := false }) (stopAndFlush d .deckFault (faultMade d cause s)))
    (d := d) (cause := cause) (by rw [onSide_deck, h.link, hmade.link]; rfl) (by rw [onSide_deck, h.link, hmade.link]; rfl)
  rw [onSide_deck, h.link, hmade.link] at hport
  rw [enterFault_eq]
  have htray : ∀ e, (announce d (onSide d (fun t => { t with reload := false })
      (stopAndFlush d .deckFault (faultMade d cause s)))).side e =
      (onSide d (fun t => { t with reload := false }) (stopAndFlush d .deckFault (faultMade d cause s))).side e :=
    side_of_tray (announce_tray _ _)
  refine ⟨?_, ?_, ?_, ?_, ?_, ?_, fun hnone => ?_, fun z hz => ?_, fun z hz hm => ?_⟩
  · rw [announce_deck, onSide_deck, h.link, hmade.link]
  · rw [announce_deck, onSide_deck]; exact h.emptied
  · rw [htray, onSide_same]
  · rw [htray, onSide_other, side_of_tray h.tray, hmade.side]
  · rw [announce_deck, onSide_deck, h.other, hmade.other]
  · rw [announce_tray, ← hmade.table, ← h.tray]; cases d <;> rfl
  · have hkeep : zoneOf d (faultMade d cause s) = none := by
      rw [zoneOf_congr (fun z => congrArg Zone.source (hmade.zone z)) d]; exact hnone
    obtain ⟨h1, h2⟩ := h.idle hkeep
    refine ⟨?_, ?_⟩
    · exact (announce_zone d _ .one).trans ((onSide_zone1 _ _ _).trans (h1.trans (hmade.zone .one)))
    · exact (announce_zone d _ .two).trans ((onSide_zone2 _ _ _).trans (h2.trans (hmade.zone .two)))
  · rw [announce_zone, onSide_zone, h.zone z ((hzo z).2 hz), hmade.zone]
  · have hm' : mirroring (faultMade d cause s) = false := (mirroring_of_sources fun y => by rw [hmade.zone]).trans hm
    obtain ⟨hz1, hp⟩ := h.quiet z ((hzo z).2 hz) hm'
    refine ⟨?_, ?_⟩
    · rw [announce_zone, onSide_zone, hz1, hmade.zone]
    · rw [hport]
      refine raiseNotice_port_congr _ _ ?_
      rw [onSide_port, hp]
      exact portAfter_congr (hmade.zone z) hmade.port

/-! ## The causes of FAULT (R15, R16, R18, R33) -/

/-- What the cause of a FAULT leaves on the link (R18, R33). -/
def notedFault (cause : FaultCause) (code : Byte) (l : Link) : Link :=
  { l with
    trouble := if cause = .trouble then some code.toNat else l.trouble
    decline := if cause = .declined then some code.toNat else l.decline
    declines := if cause = .declined then min 65535 (l.declines + 1) else l.declines }

theorem exec_ackTimer (d : Deck) (s : State) (h : Settled s) : exec (.ackTimerExpiry d) s = .next (ackExpired d s) :=
  event_kept (f := ackExpired d) (D := anyDeck) h (kept_ackExpired trivial s)

theorem exec_completionTimer (d : Deck) (s : State) (h : Settled s) :
    exec (.completionTimerExpiry d) s = .next (completionExpired d s) :=
  event_kept (f := completionExpired d) (D := anyDeck) h (kept_completionExpired trivial s)

theorem exec_deckTrouble (d : Deck) (code : Byte) (s : State) (h : Settled s) :
    exec (.deckTrouble d code) s = .next (deckTroubleReport d code.toNat s) :=
  event_kept (f := deckTroubleReport d code.toNat) (D := anyDeck) h (kept_deckTroubleReport trivial _ s)

theorem exec_declined (d : Deck) (tag : Tag) (reason : Byte) (s : State) (h : Settled s) :
    exec (.declined d tag reason) s = .next (declinedReport d tag reason.toNat s) :=
  event_kept (f := declinedReport d tag reason.toNat) (D := anyDeck) h (kept_declinedReport trivial tag _ s)

theorem onLink_id (d : Deck) (s : State) : onLink d (fun l => l) s = s := by cases d <;> rfl

theorem ackExpired_last {d : Deck} {o : Outstanding} {s : State} (ho : (s.deck d).link.outstanding = some o) (ht : o.timer = .acknowledge)
    (hr : 2 ≤ o.resends) : ackExpired d s = enterFault d .ackTimeout s := by
  unfold ackExpired
  rw [ho]
  dsimp only
  rw [ht]
  exact if_neg (by omega)

theorem ackExpired_resend {d : Deck} {o : Outstanding} {s : State} (ho : (s.deck d).link.outstanding = some o)
    (ht : o.timer = .acknowledge) (hr : o.resends < 2) :
    ackExpired d s = onLink d (fun l =>
      { l with outstanding := some { o with resends := o.resends + 1 }, resends := min 65535 (l.resends + 1),
               sent := l.sent ++ [{ command := o.command, tag := o.tag }] }) s := by
  unfold ackExpired
  rw [ho]
  dsimp only
  rw [ht]
  exact if_pos hr

theorem ackExpired_stopped {d : Deck} {s : State} (h : ∀ o, (s.deck d).link.outstanding = some o → o.timer ≠ .acknowledge) :
    ackExpired d s = s := by
  unfold ackExpired
  split
  · rfl
  · next o ho =>
    split
    · rfl
    · next ht => exact absurd ht (h o ho)

theorem completionExpired_stopped {d : Deck} {s : State} (h : ∀ o, (s.deck d).link.outstanding = some o → o.timer ≠ .completion) :
    completionExpired d s = s := by
  unfold completionExpired
  split
  · rfl
  · next o ho =>
    split
    · rfl
    · next ht => exact absurd ht (h o ho)

theorem completionExpired_running {d : Deck} {o : Outstanding} {s : State} (ho : (s.deck d).link.outstanding = some o)
    (ht : o.timer = .completion) :
    completionExpired d s = if o.command.isMechanical then enterFault d .mechTimeout s else seekMissed d s := by
  unfold completionExpired
  rw [ho]
  dsimp only
  rw [ht]

/-- The link with a command declined (R18). -/
def declinedLink (reason : Nat) (l : Link) : Link := { l with decline := some reason, declines := min 65535 (l.declines + 1) }

theorem declinedReport_fault {d : Deck} {o : Outstanding} {s : State} (reason : Nat) (ho : (s.deck d).link.outstanding = some o)
    (hc : o.command = .readIndex ∨ ∃ p, o.command = .park p) :
    declinedReport d o.tag reason s = enterFault d .declined (onLink d (declinedLink reason) s) := by
  unfold declinedReport
  rw [current_of_outstanding _ _ ho]
  dsimp only
  rcases hc with hc | ⟨p, hc⟩ <;> rw [hc] <;> rfl

/-- Each of the four causes of FAULT (R33). -/
theorem exec_fault {d : Deck} {code : Byte} {cause : FaultCause} {i : Instr} {s : State} (hs : Settled s)
    (h : (i = .deckTrouble d code ∧ cause = .trouble ∧ (s.deck d).link.state ≠ .fault) ∨
      (∃ o, (s.deck d).link.outstanding = some o ∧
        ((i = .ackTimerExpiry d ∧ cause = .ackTimeout ∧ o.timer = .acknowledge ∧ 2 ≤ o.resends) ∨
          (i = .completionTimerExpiry d ∧ cause = .mechTimeout ∧ o.timer = .completion ∧ o.command.isMechanical = true) ∨
          (i = .declined d o.tag code ∧ cause = .declined ∧ (o.command = .readIndex ∨ ∃ p, o.command = .park p))))) :
    exec i s = .next (enterFault d cause (onLink d (notedFault cause code) s)) := by
  rcases h with ⟨rfl, rfl, hst⟩ | ⟨o, ho, ⟨rfl, rfl, ht, hr⟩ | ⟨rfl, rfl, ht, hm⟩ | ⟨rfl, rfl, hc⟩⟩
  · rw [exec_deckTrouble d code s hs]
    unfold deckTroubleReport
    rw [if_neg hst]
    rfl
  · rw [exec_ackTimer d s hs, ackExpired_last ho ht hr, show notedFault .ackTimeout code = fun l => l from rfl, onLink_id]
  · rw [exec_completionTimer d s hs, completionExpired_running ho ht, if_pos hm, show notedFault .mechTimeout code = fun l => l from rfl,
      onLink_id]
  · rw [exec_declined d _ code s hs, declinedReport_fault _ ho hc]
    rfl

/-- The zone of a deck that has entered FAULT, by its state and ramp (R119, R139). -/
theorem faultedZone (n : Zone) :
    (n.state = .stopped → (stopOf .deckFault n).unheld = n.unheld) ∧
      (n.state ≠ .stopped → n.ramp = 0 → (stopOf .deckFault n).unheld = n.ended .deckFault) ∧
      (n.state ≠ .stopped → 0 < n.ramp → (stopOf .deckFault n).unheld =
        { n.unheld with
          causes := { n.causes with stop := true, switch := false, protect := true }, stopReason := .deckFault
          pendingRange := none, pendingCue := none }) := by
  unfold stopOf
  refine ⟨fun h => by rw [if_pos h], fun h hr => by rw [if_neg h, if_pos hr]; rfl, fun h hr => ?_⟩
  rw [if_neg h, if_neg (by omega)]
  simp [stopping, Zone.unheld]

/-- Settles O51: FAULT by its four causes, over a zone stopped and a ring flushed; then the resends. -/
theorem faultsAndResends : Obligations.FaultsAndResends := by
  refine ⟨fun d code cause i s hs hi => ?_, fun d code s hs hf => ?_, fun d s hs => ⟨fun o ho ht hr => ?_, fun h => ?_, fun h => ?_⟩⟩
  · let u := onLink d (notedFault cause code) s
    have h : Faulted d cause u (enterFault d cause u) := enterFault_faulted d cause u
    have hzone : ∀ z, u.zone z = s.zone z := fun z => onLink_zone _ _ _ _
    have hzo : zoneOf d u = zoneOf d s := zoneOf_congr (fun z => by rw [hzone]) d
    have hudeck : (u.deck d).link = notedFault cause code (s.deck d).link := by rw [onLink_same]
    have hudisc : (u.deck d).link.disc = (s.deck d).link.disc := by rw [hudeck]; rfl
    have htable : (enterFault d cause u).tray.table = (writeZoneRecord d .fault s).tray.table :=
      h.table.trans (writeZoneRecord_congr hzone hudisc (by rw [onLink_tray]))
    have hpart : SamePart s (enterFault d cause u) := ((Kept.link s trivial _ rfl).trans (kept_enterFault (D := anyDeck) trivial cause u)).part
    refine ⟨_, exec_fault hs hi, ?_, h.emptied, h.reload, h.side.trans (onLink_side _ _ _ _), hpart, h.other.trans (onLink_other _ _ _),
      fun hidle => ?_, fun hnone => ?_, fun z hz => ?_⟩
    · exact h.link.trans (congrArg _ hudeck)
    · rw [htable, writeZoneRecord_idle _ hidle]
    · obtain ⟨h1, h2⟩ := h.idle (hzo.trans hnone)
      exact ⟨h1.trans (hzone .one), h2.trans (hzone .two)⟩
    · have hafter := h.zone z (hzo.trans hz)
      rw [hzone] at hafter
      obtain ⟨hstopped, hfoot, habove⟩ := faultedZone (s.zone z)
      refine ⟨fun hst => hafter.trans (hstopped hst), fun hst hr => hafter.trans (hfoot hst hr), fun hst hr => hafter.trans (habove hst hr),
        fun hm => ?_, fun c hst hdisc => ?_⟩
      · obtain ⟨hother, hport⟩ := h.quiet z (hzo.trans hz) ((mirroring_of_sources fun y => by rw [hzone]).trans (mirroring_of_ne hm))
        have hcode : (if cause = .trouble then (u.deck d).link.trouble else none) = if cause = .trouble then some code.toNat else none := by
          rw [hudeck]
          split
          · next hc => exact if_pos hc
          · rfl
        have hp : portAfter z .deckFault u = portAfter z .deckFault s := portAfter_congr (hzone z) (onLink_port _ _ _)
        rw [hcode, hp] at hport
        refine ⟨hother.trans (hzone _), fun hquiet => hport.trans (raiseNotice_port_congr _ _ ?_),
          fun hst hr => hport.trans (raiseNotice_port_congr _ _ ?_)⟩
        · exact if_neg fun hst => hquiet.elim (fun h => hst.1 h) fun h => by have := hst.2; omega
        · exact if_pos ⟨hst, hr⟩
      · have hwrite : ∀ r, zoneRecord z d c .fault (s.zone z) = some r → (enterFault d cause u).tray.table = placeRecord r s.tray.table :=
          fun r hr => by rw [htable, writeZoneRecord_active .fault hz ((usable_eq_some _ _).2 hdisc) hst hr]; rfl
        exact ⟨fun r p hsw hr hp => hwrite _ (zoneRecord_playing hsw hr hp), fun r hsw hr => hwrite _ (zoneRecord_switching hsw hr)⟩
  · rw [exec_deckTrouble d code s hs]
    unfold deckTroubleReport
    rw [if_pos hf]
  · rw [exec_ackTimer d s hs, ackExpired_resend ho ht hr]
  · rw [exec_ackTimer d s hs, ackExpired_stopped h]
  · rw [exec_completionTimer d s hs, completionExpired_stopped h]

end Sys2Proof.Proofs
end


section
/-!
PROOFS. DECLINED (R18, R98): what follows by the command's kind.
-/

namespace Sys2Proof.Proofs

open Sys2Proof.Machine

/-! ## The planner's SEEK toward the fetch address (R91, R92) -/

theorem fetchName_isFetch (u : DeckUnit) : (fetchName u).isFetch = true := by
  unfold fetchName
  split
  · rfl
  · split
    · rfl
    · split <;> rfl

theorem fetchName_of_ne {u : DeckUnit} (h : u.plan.job ≠ .playStart) : fetchName u ≠ .playStart := by
  unfold fetchName
  rw [if_neg h]
  split
  · decide
  · split <;> decide

/-- The plan of a run toward the fetch address (R92). -/
def fetchPlan (u : DeckUnit) (p : Spot) : RunPlan :=
  { job := fetchName u, target := p, k := anchorsBefore u.ring p u.plan.overlap, span := none }

theorem planFor_fetch {u : DeckUnit} (h : u.plan.job ≠ .playStart) (p : Spot) : planFor u (fetchName u) p none = fetchPlan u p := by
  unfold planFor fetchPlan
  rw [if_neg (fetchName_of_ne h)]

theorem seekFetch_sent {d : Deck} {s : State} {p : Spot} (hp : (s.deck d).ring.fetchSpot = some p) (hj : (s.deck d).plan.job ≠ .playStart)
    (hl : (s.deck d).link.startable) (hb : ¬ ((s.deck d).plan.backoff = true ∧ (s.deck d).plan.backoffTarget = some p)) :
    seekFetch d s = onDeck d (seekSent (fetchPlan (s.deck d) p)) s := by
  unfold seekFetch
  rw [hp]
  dsimp only
  rw [seekFor_eq d _ p none s hl hb, planFor_fetch hj]

/-- A ring with a fetch address and segment is fetching (R71). -/
theorem fetching_of_spot {r : Ring} {p : Spot} (h : r.fetchSpot = some p) : r.fetching = true := by
  unfold Ring.fetchSpot at h
  unfold Ring.fetching
  cases hseg : r.fetchSeg with
  | none => rw [hseg] at h; cases hr : r.fetchAddr <;> rw [hr] at h <;> cases h
  | some g =>
    unfold Ring.fetchSeg at hseg
    cases hph : r.phase <;> rw [hph] at hseg
    case current | cue => rfl
    all_goals cases hseg

/-! ## DECLINED -/

section
variable {d : Deck} {o : Outstanding} {s : State} (reason : Nat) (ho : (s.deck d).link.outstanding = some o)
include ho

theorem declinedReport_seek {target : Nat} (hc : o.command = .seek target) :
    declinedReport d o.tag reason s = seekMissed d (onLink d (declinedLink reason) s) := by
  unfold declinedReport
  rw [current_of_outstanding _ _ ho]
  dsimp only
  rw [hc]
  rfl

theorem declinedReport_stall (hc : o.command = .stall) :
    declinedReport d o.tag reason s = onStallDeclined d (clearOutstanding d (onLink d (declinedLink reason) s)) := by
  unfold declinedReport
  rw [current_of_outstanding _ _ ho]
  dsimp only
  rw [hc]
  rfl

theorem declinedReport_proceed (hc : o.command = .proceed) :
    declinedReport d o.tag reason s = onProceedDeclined d (clearOutstanding d (onLink d (declinedLink reason) s)) := by
  unfold declinedReport
  rw [current_of_outstanding _ _ ho]
  dsimp only
  rw [hc]
  rfl

theorem declinedReport_fetchDisc {slot : Nat} (hc : o.command = .fetchDisc slot) :
    declinedReport d o.tag reason s = fetchEnds d .declined (onLink d (declinedLink reason) s) := by
  unfold declinedReport
  rw [current_of_outstanding _ _ ho]
  dsimp only
  rw [hc]
  rfl

theorem declinedReport_stowDisc {byUnload : Bool} (hc : o.command = .stowDisc byUnload) :
    declinedReport d o.tag reason s = stowed d byUnload (onLink d (declinedLink reason) s) := by
  unfold declinedReport
  rw [current_of_outstanding _ _ ho]
  dsimp only
  rw [hc]
  rfl

theorem declinedReport_linkReset (hc : o.command = .linkReset) :
    declinedReport d o.tag reason s = ackExpired d (onLink d (declinedLink reason) s) := by
  unfold declinedReport
  rw [current_of_outstanding _ _ ho]
  dsimp only
  rw [hc]
  rfl

end

theorem seekMissReport_current {d : Deck} {o : Outstanding} {target : Nat} {s : State} (ho : (s.deck d).link.outstanding = some o)
    (hc : o.command = .seek target) : seekMissReport d o.tag s = seekMissed d s := by
  unfold seekMissReport
  rw [current_of_outstanding _ _ ho]
  dsimp only
  rw [hc]

/-- The link with a declined command ended (R18, R21). -/
def declinedEnded (reason : Nat) (l : Link) : Link := { declinedLink reason l with outstanding := none }

theorem clearOutstanding_declined (d : Deck) (reason : Nat) (s : State) :
    clearOutstanding d (onLink d (declinedLink reason) s) = onLink d (declinedEnded reason) s := onLink_onLink d _ _ s

theorem onStallDeclined_held {d : Deck} {s : State} (h1 : (s.deck d).plan.phase = .held) (h2 : (s.deck d).link.state = .streaming) :
    onStallDeclined d s = onPlan d (fun p => { p with phase := .run }) s := if_pos ⟨h1, h2⟩

theorem onStallDeclined_other {d : Deck} {s : State} (h : ¬ ((s.deck d).plan.phase = .held ∧ (s.deck d).link.state = .streaming)) :
    onStallDeclined d s = s := if_neg h

/-- The deck after a declined PROCEED (R92, R98). -/
def reseekUnit (p : Spot) (u : DeckUnit) : DeckUnit :=
  let v : DeckUnit := { u with plan := { u.plan with phase := if u.plan.phase = .run then .idle else u.plan.phase } }
  seekSent (fetchPlan v p) v

theorem ring_reseek (p : Spot) (u : DeckUnit) : (reseekUnit p u).ring = { u.ring with overflow := false } :=
  congrArg (fun b => { u.ring with overflow := b }) (if_pos (fetchName_isFetch _))

theorem endRun_eq (d : Deck) (s : State) :
    endRun d s = onDeck d (fun u => { u with plan := { u.plan with phase := if u.plan.phase = .run then .idle else u.plan.phase } }) s := rfl

theorem onProceedDeclined_seeks {d : Deck} {s : State} {p : Spot} (hp : (s.deck d).ring.fetchSpot = some p)
    (hj : (s.deck d).plan.job ≠ .playStart) (hst : (s.deck d).link.state = .stalled) (ho : (s.deck d).link.outstanding = none)
    (hf : (s.deck d).plan.flushAwaited = false) (hb : (s.deck d).plan.backoff = false) :
    onProceedDeclined d s = onDeck d (reseekUnit p) s := by
  have hu : (endRun d s).deck d = { s.deck d with plan := { (s.deck d).plan with
      phase := if (s.deck d).plan.phase = .run then .idle else (s.deck d).plan.phase } } := by rw [endRun_eq, onDeck_same]
  unfold onProceedDeclined
  dsimp only
  rw [if_neg, seekFetch_sent (p := p), endRun_eq, onDeck_same, onDeck_onDeck]
  · exact onDeck_congr rfl
  · rw [hu]; exact hp
  · rw [hu]; exact hj
  · rw [hu]
    exact ⟨by rw [hst]; rfl, fun o h => by rw [ho] at h; cases h⟩
  · rw [hu]; exact fun h => by rw [hb] at h; cases h.1
  · rw [hu]
    rintro (h | h)
    · rw [hf] at h; cases h
    · exact h (fetching_of_spot hp)

theorem part_of_declined (d : Deck) (tag : Tag) (reason : Nat) (s : State) : SamePart s (declinedReport d tag reason s) :=
  (kept_declinedReport (D := anyDeck) trivial tag reason s).part

theorem settled_onLink {s : State} (h : Settled s) (d : Deck) (f : Link → Link) : Settled (onLink d f s) :=
  ⟨(onLink_resetPin d f s).trans h.1, by rw [onLink_standby]; exact h.2⟩

/-- Settles O46: DECLINED by the kind of the outstanding command. -/
theorem declinedIsRecorded : Obligations.DeclinedIsRecorded := by
  intro d o reason s hs ho declined noted
  have hexec := exec_declined d o.tag reason s hs
  have hlink : ((onLink d (declinedEnded reason.toNat) s).deck d).link = noted (s.deck d).link := by rw [onLink_same]; rfl
  refine ⟨fun target hc => ?_, fun hc => ⟨fun h => ?_, fun h1 h2 => ?_⟩, fun p hc hst hf hp hb hj => ?_, fun slot hc hw => ?_,
    fun byUnload hc => ?_, fun hc => ?_, fun hc => ?_⟩
  · have ho' : ((onLink d declined s).deck d).link.outstanding = some o := by rw [onLink_same]; exact ho
    rw [hexec, declinedReport_seek _ ho hc, exec_taggedReport (i := .seekMiss d o.tag) rfl (settled_onLink hs d declined)]
    exact congrArg _ (seekMissReport_current ho' hc).symm
  · rw [hexec, declinedReport_stall _ ho hc, clearOutstanding_declined, onStallDeclined_other]
    · rfl
    · rw [onLink_same]
      exact fun hboth => h.elim (fun h => h hboth.1) fun h => h hboth.2
  · rw [hexec, declinedReport_stall _ ho hc, clearOutstanding_declined, onStallDeclined_held]
    · rfl
    · rw [onLink_same]; exact h1
    · rw [onLink_same]; exact h2
  · have hpart := part_of_declined d o.tag reason.toNat s
    have heq : declinedReport d o.tag reason.toNat s = onDeck d (reseekUnit p) (onLink d (declinedEnded reason.toNat) s) := by
      rw [declinedReport_proceed _ ho hc, clearOutstanding_declined]
      refine onProceedDeclined_seeks ?_ ?_ ?_ ?_ ?_ ?_ <;> rw [onLink_same]
      · exact hp
      · exact hj
      · exact hst
      · rfl
      · exact hf
      · exact hb
    rw [heq] at hexec hpart
    have hdeck : (onDeck d (reseekUnit p) (onLink d (declinedEnded reason.toNat) s)).deck d =
        reseekUnit p { s.deck d with link := noted (s.deck d).link } := by rw [onDeck_same, onLink_same]; rfl
    refine ⟨_, hexec, ?_⟩
    dsimp only
    rw [hdeck]
    refine ⟨rfl, rfl, rfl, rfl, rfl, rfl, rfl, ?_, ?_, ?_, ?_, ?_, ?_, hpart⟩
    · exact ring_reseek p _
    · rw [onDeck_other, onLink_other]
    · rw [onDeck_zone1, onLink_zone1]
    · rw [onDeck_zone2, onLink_zone2]
    · rw [onDeck_port, onLink_port]
    · rw [onDeck_tray, onLink_tray]
  · rw [hexec, declinedReport_fetchDisc _ ho hc, fetchEnds_eq _ (by rw [onLink_same]; exact hw),
      discardDisc_onLink _ _ _ (fun _ => rfl), onLink_onLink]
    rfl
  · have ho' : ((onLink d declined s).deck d).link.outstanding = some o := by rw [onLink_same]; exact ho
    rw [hexec, declinedReport_stowDisc _ ho hc, exec_taggedReport (i := .stowed d o.tag) rfl (settled_onLink hs d declined)]
    exact congrArg _ (stowedReport_ends ho' hc).symm
  · have h := enterFault_faulted d .declined (onLink d (declinedLink reason.toNat) s)
    have hpart := part_of_declined d o.tag reason.toNat s
    rw [declinedReport_fault _ ho hc] at hexec hpart
    have hlink' := h.link
    rw [onLink_same] at hlink'
    refine ⟨_, hexec, ?_, ?_, h.emptied, h.other.trans (onLink_other _ _ _), hpart⟩
    · rw [hlink']; exact inFault_faulted _ _
    · rw [hlink']; rfl
  · rw [hexec, declinedReport_linkReset _ ho hc, exec_ackTimer d _ (settled_onLink hs d declined)]
    rfl

end Sys2Proof.Proofs
end


section
/-!
PROOFS. A fetch run that fails: seek misses and slips (R24, R25, R92, R102, R105).
-/

namespace Sys2Proof.Proofs

open Sys2Proof.Machine

/-! ## The failure noted (R25, R102, R105) -/

/-- The slip address that a failure leaves (R25). -/
def slipOf (f : Failure) (old : Option Nat) : Option Nat :=
  match f with
  | .slip (some a) => some a
  | .slip none | .seekMiss | .refusedGap | .abandoned => old

/-- The streak and its statistic after a failure (R102). -/
def streakOf (counts : Bool) (p : Planner) : Planner :=
  if counts then { p with seekMisses := min 3 (p.seekMisses + 1), stats := { p.stats with seekMisses := bump 1 p.stats.seekMisses } } else p

/-- The planner after a fetch-type run toward `t` has failed (R25, R102, R105). -/
def failedPlan (f : Failure) (t : Spot) (counts : Bool) (p : Planner) : Planner :=
  { streakOf counts { p with lastSlip := slipOf f p.lastSlip, backoff := true, backoffTarget := some t, recovery := true } with
    phase := if p.phase = .run then .idle else p.phase }

/-- A READY deck whose fetch-type run toward `t` has failed (R39, R102, R105). -/
def failedUnit (f : Failure) (t : Spot) (counts : Bool) (u : DeckUnit) : DeckUnit :=
  { u with intake := { u.intake with ctx := closedCtx u.intake.ctx }, plan := failedPlan f t counts u.plan }

theorem streakOf_keeps (counts : Bool) (p : Planner) :
    (streakOf counts p).backoff = p.backoff ∧ (streakOf counts p).backoffTarget = p.backoffTarget ∧
      (streakOf counts p).recovery = p.recovery ∧ (streakOf counts p).lastSlip = p.lastSlip ∧ (streakOf counts p).entries = p.entries ∧
      (streakOf counts p).flushAwaited = p.flushAwaited ∧ (streakOf counts p).job = p.job ∧ (streakOf counts p).overlap = p.overlap ∧
      (streakOf counts p).seekMisses = if counts then min 3 (p.seekMisses + 1) else p.seekMisses := by
  unfold streakOf
  cases counts <;> exact ⟨rfl, rfl, rfl, rfl, rfl, rfl, rfl, rfl, rfl⟩

/-- What a failure leaves of the planner, and what it makes of it. -/
theorem failedPlan_fields (f : Failure) (t : Spot) (counts : Bool) (p : Planner) :
    (failedPlan f t counts p).backoff = true ∧ (failedPlan f t counts p).backoffTarget = some t ∧
      (failedPlan f t counts p).recovery = true ∧ (failedPlan f t counts p).lastSlip = slipOf f p.lastSlip ∧
      (failedPlan f t counts p).entries = p.entries ∧ (failedPlan f t counts p).flushAwaited = p.flushAwaited ∧
      (failedPlan f t counts p).job = p.job ∧ (failedPlan f t counts p).overlap = p.overlap ∧
      (failedPlan f t counts p).seekMisses = if counts then min 3 (p.seekMisses + 1) else p.seekMisses :=
  streakOf_keeps counts { p with lastSlip := slipOf f p.lastSlip, backoff := true, backoffTarget := some t, recovery := true }

/-- A release of a READY deck only closes its run context (R23, R39). -/
theorem release_of_ready {d : Deck} {s : State} (h : (s.deck d).link.state = .ready) :
    release d s = onDeck d (fun u => { u with intake := { u.intake with ctx := closedCtx u.intake.ctx } }) s := by
  rw [release_ready d s h, closeRun_eq]

theorem failNoted_eq {d : Deck} {s : State} {t : Spot} (f : Failure) (ht : (s.deck d).plan.target = some t) :
    failNoted d f s =
      onPlan d (fun p => { p with lastSlip := slipOf f p.lastSlip, backoff := true, backoffTarget := some t }) s := by
  unfold failNoted
  rw [ht]
  cases f with
  | slip a => cases a <;> cases d <;> rfl
  | seekMiss | refusedGap | abandoned => cases d <;> rfl

theorem failCounted_eq {d : Deck} {s : State} {job : Job} (counts : Bool) (hj : job ≠ .playStart) :
    failCounted d job counts s = onPlan d (fun p => streakOf counts { p with recovery := true }) s := by
  unfold failCounted
  have hr : ∀ p : Planner, (p.recovery || job != .playStart) = true := fun p => by simp [hj]
  simp only [hr]
  cases counts <;> cases d <;> rfl

/-- The state in which the planner decides after a failed run (R102). -/
theorem failed_eq {d : Deck} {s : State} {t : Spot} (f : Failure) (counts : Bool) (ht : (s.deck d).plan.target = some t)
    (hj : (s.deck d).plan.job ≠ .playStart) (hl : (s.deck d).link.state = .ready) :
    endRun d (release d (failCounted d (s.deck d).plan.job counts (failNoted d f s))) = onDeck d (failedUnit f t counts) s := by
  rw [failCounted_eq counts hj, failNoted_eq f ht, release_of_ready, endRun_eq]
  · unfold onPlan
    simp only [onDeck_onDeck]
    refine onDeck_congr ?_
    unfold failedUnit failedPlan streakOf
    cases counts <;> rfl
  · unfold onPlan
    rw [onDeck_same, onDeck_same]
    exact hl

/-- A fetch-type run but PLAY_START's fails with its streak below the limit: the planner decides (R102). -/
theorem runFailed_decides {d : Deck} {s : State} {t : Spot} (f : Failure) (ht : (s.deck d).plan.target = some t)
    (hj : (s.deck d).plan.job ∈ [.fetch, .cueFetch, .skipRecovery, .voidOver]) (hl : (s.deck d).link.state = .ready)
    (hlow : f.counts (s.deck d).plan.job (s.deck d).intake.ctx = true → (s.deck d).plan.seekMisses < 2) :
    runFailed d f s =
      decide_ d .failed (onDeck d (failedUnit f t (f.counts (s.deck d).plan.job (s.deck d).intake.ctx)) s) := by
  have hkind : (s.deck d).plan.job ≠ .repair ∧ (s.deck d).plan.job.isFetch = true ∧ (s.deck d).plan.job ≠ .playStart := by
    simp only [List.mem_cons, List.not_mem_nil, or_false] at hj
    rcases hj with h | h | h | h <;> rw [h] <;> decide
  obtain ⟨hrepair, hfetch, hstart⟩ := hkind
  rw [runFailed_eq, if_neg hrepair, if_pos hfetch]
  dsimp only
  rw [failed_eq f _ ht hstart hl, if_neg]
  rintro ⟨hc, h3⟩
  have hmisses := (failedPlan_fields f t (f.counts (s.deck d).plan.job (s.deck d).intake.ctx) (s.deck d).plan).2.2.2.2.2.2.2.2
  rw [onDeck_same] at h3
  change (failedPlan f t _ (s.deck d).plan).seekMisses = 3 at h3
  rw [hmisses, if_pos hc] at h3
  have := hlow hc
  omega

/-! ## The decision after a failure (R95, R96) -/

/-- With an empty repair list and room below the high mark, a planner that awaits no flush fetches (R95). -/
theorem choose_fetch {d : Deck} {s : State} (hf : (s.deck d).plan.flushAwaited = false) (he : (s.deck d).plan.entries = [])
    (hfetching : (s.deck d).ring.fetching = true) (hh : (s.deck d).plan.phase ≠ .held) (hd : (s.deck d).ring.depth < (s.deck d).ring.high)
    (hc : (s.deck d).ring.high ≤ (s.deck d).ring.cap) : choose d s = .fetch := by
  have heff : (s.deck d).ring.depth < effHigh d s := by
    unfold effHigh
    split
    · omega
    · exact hd
  have hwanted : fetchWanted d s = true := by
    unfold fetchWanted
    dsimp only
    rw [hfetching, if_neg hh]
    simpa using heff
  unfold choose
  dsimp only
  rw [if_neg (by simp [hf]), he]
  simp only [List.find?_nil, hwanted, if_true, ite_self]

theorem plannerActs_ready {u : DeckUnit} {p : Spot} (hp : u.ring.fetchSpot = some p) (hl : u.link.state = .ready) :
    plannerActs u = true := by
  have hne : u.ring.phase ≠ .idle := fun h => by
    have := fetching_of_spot hp
    rw [Ring.fetching, h] at this
    cases this
  simp [plannerActs, hl, DeckState.runnable, hne]

/-- A READY deck whose planner fetches after a failure seeks toward the fetch address (R96). -/
theorem decide_seeks {d : Deck} {s : State} {p : Spot} (hp : (s.deck d).ring.fetchSpot = some p) (hl : (s.deck d).link.state = .ready)
    (hc : choose d s = .fetch) : decide_ d .failed s = seekFetch d s := by
  unfold decide_
  dsimp only
  rw [if_neg (by simp [plannerActs_ready hp hl]), hc]
  dsimp only
  rw [if_neg (by decide), if_neg (by rw [hl]; exact fun h => by cases h.2)]

/-- A SEEK whose target waits for the backoff timer is not sent: a READY deck waits (R105). -/
theorem seekFetch_waits {d : Deck} {s : State} {p : Spot} (hp : (s.deck d).ring.fetchSpot = some p) (hl : (s.deck d).link.state = .ready)
    (hb : (s.deck d).plan.backoff = true) (hbt : (s.deck d).plan.backoffTarget = some p) :
    seekFetch d s = onDeck d (fun u =>
      { u with intake := { u.intake with ctx := closedCtx u.intake.ctx }
               plan := { u.plan with job := fetchName (s.deck d), phase := .backoff, target := some p } }) s := by
  unfold seekFetch
  rw [hp]
  unfold seekFor
  dsimp only
  rw [if_pos ⟨hb, hbt⟩, release_of_ready hl]
  exact onDeck_onDeck d _ _ s

theorem fetchName_recovers {u : DeckUnit} (hj : u.plan.job ≠ .playStart) (hr : u.plan.recovery = true) : fetchName u = .skipRecovery := by
  unfold fetchName
  rw [if_neg hj, if_pos hr]

/-! ## A seek miss of a FETCH run (R24, R102, R105) -/

theorem runEnds_deck (d : Deck) (s : State) :
    (runEnds d s).deck d =
      { s.deck d with link := { (s.deck d).link with outstanding := none, state := .ready, runTag := none, gapTimer := false } } :=
  onLink_same d _ s

theorem completionExpired_seek {d : Deck} {o : Outstanding} {target : Nat} {s : State} (ho : (s.deck d).link.outstanding = some o)
    (ht : o.timer = .completion) (hc : o.command = .seek target) : completionExpired d s = seekMissed d s := by
  rw [completionExpired_running ho ht, if_neg (by rw [hc]; exact Bool.false_ne_true)]

theorem exec_seekMissed {d : Deck} {o : Outstanding} {target : Nat} {i : Instr} {s : State} (hs : Settled s)
    (ho : (s.deck d).link.outstanding = some o) (hc : o.command = .seek target)
    (hi : i = .seekMiss d o.tag ∨ (i = .completionTimerExpiry d ∧ o.timer = .completion)) : exec i s = .next (seekMissed d s) := by
  rcases hi with rfl | ⟨rfl, ht⟩
  · rw [exec_taggedReport (i := .seekMiss d o.tag) rfl hs]
    exact congrArg _ (seekMissReport_current ho hc)
  · rw [exec_completionTimer d s hs, completionExpired_seek ho ht hc]

/-- A failed run whose target is the fetch address still: the deck waits for the backoff timer (R96, R105). -/
theorem decide_backsOff {d : Deck} {s : State} {p : Spot} (f : Failure) (counts : Bool) (hp : (s.deck d).ring.fetchSpot = some p)
    (hj : (s.deck d).plan.job ≠ .playStart) (hl : (s.deck d).link.state = .ready)
    (hc : choose d (onDeck d (failedUnit f p counts) s) = .fetch) :
    decide_ d .failed (onDeck d (failedUnit f p counts) s) = onDeck d (fun u =>
      { u with intake := { u.intake with ctx := closedCtx u.intake.ctx }
               plan := { failedPlan f p counts u.plan with job := .skipRecovery, phase := .backoff, target := some p } }) s := by
  have hu : (onDeck d (failedUnit f p counts) s).deck d = failedUnit f p counts (s.deck d) := onDeck_same ..
  obtain ⟨hb, hbt, hrec, -, -, -, hjob, -, -⟩ := failedPlan_fields f p counts (s.deck d).plan
  have hname : fetchName (failedUnit f p counts (s.deck d)) = .skipRecovery :=
    fetchName_recovers (by rw [show (failedUnit f p counts (s.deck d)).plan.job = (s.deck d).plan.job from hjob]; exact hj) hrec
  rw [decide_seeks (by rw [hu]; exact hp) (by rw [hu]; exact hl) hc,
    seekFetch_waits (by rw [hu]; exact hp) (by rw [hu]; exact hl) (by rw [hu]; exact hb) (by rw [hu]; exact hbt), hu, hname, onDeck_onDeck]
  rfl

/-- Settles O47: the run fails, its target is the fetch address, and the SEEK waits for the backoff timer. -/
theorem seekMissBacksOff : Obligations.SeekMissBacksOff := by
  intro d o target p i s hs ho hc hi hjob ht hm hf he hph hp hd hcap
  have hexec := exec_seekMissed hs ho hc hi
  have hpart : SamePart s (seekMissed d s) := (kept_seekMissed (D := anyDeck) trivial s).part
  have hrun := runEnds_deck d s
  have hmiss : seekMissed d s = decide_ d .failed (onDeck d (failedUnit .seekMiss p true) (runEnds d s)) := by
    have h := runFailed_decides (d := d) (s := runEnds d s) (t := p) .seekMiss (by rw [hrun]; exact ht)
      (by rw [hrun]; exact hjob ▸ List.mem_cons_self) (by rw [hrun]) (fun _ => by rw [hrun]; exact hm)
    rwa [show Failure.counts .seekMiss _ _ = true by simp [Failure.counts]] at h
  have hchoose : choose d (onDeck d (failedUnit .seekMiss p true) (runEnds d s)) = .fetch := by
    obtain ⟨-, -, -, -, hent, hflush, -, -, -⟩ := failedPlan_fields .seekMiss p true (s.deck d).plan
    apply choose_fetch <;> rw [onDeck_same, hrun]
    · exact hflush.trans hf
    · exact hent.trans he
    · exact fetching_of_spot hp
    · show (if (s.deck d).plan.phase = .run then .idle else (s.deck d).plan.phase) ≠ .held
      rw [if_pos hph]; decide
    · exact hd
    · exact hcap
  rw [hmiss, decide_backsOff .seekMiss true (by rw [hrun]; exact hp) (by rw [hrun]; rw [hjob]; decide) (by rw [hrun]) hchoose] at hexec hpart
  refine ⟨_, hexec, ?_, ?_, ?_, ?_, ?_, ?_, ?_, hpart, ?_⟩
  · rw [onDeck_same, hrun]
  · rw [onDeck_same, hrun]
    have hcount : min 3 ((s.deck d).plan.seekMisses + 1) = (s.deck d).plan.seekMisses + 1 := by omega
    unfold failedPlan streakOf
    rw [if_pos rfl, hcount]
    rfl
  · rw [onDeck_same, hrun]
  · rw [onDeck_zone1]; exact onLink_zone1 _ _ _
  · rw [onDeck_zone2]; exact onLink_zone2 _ _ _
  · rw [onDeck_port]; exact onLink_port _ _ _
  · rw [onDeck_tray]; exact onLink_tray _ _ _
  · rw [onDeck_other]; exact onLink_other _ _ _

end Sys2Proof.Proofs
end


section
/-!
PROOFS. Slips (R25, R92, R102, R105).
-/

namespace Sys2Proof.Proofs

open Sys2Proof.Machine

/-! ## The slip reported (R25) -/

theorem exec_gapTimer (d : Deck) (s : State) (h : Settled s) : exec (.deliveryGapTimerExpiry d) s = .next (gapExpired d s) :=
  event_kept (f := gapExpired d) (D := anyDeck) h (kept_gapExpired trivial s)

theorem proceeding_of_map {l : Link} (h : l.outstanding.map (·.command) = some .proceed) : l.proceeding = true := by
  unfold Link.proceeding
  cases ho : l.outstanding with
  | none => rw [ho] at h; cases h
  | some o =>
    rw [ho] at h
    have hc : o.command = .proceed := Option.some.inj h
    simp [hc]

theorem trackSlip_slips {d : Deck} {tag : Tag} {a : Nat} {s : State} (hrun : (s.deck d).link.runTag = some tag)
    (h : (s.deck d).link.state = .streaming ∨
      ((s.deck d).link.state = .stalled ∧ (s.deck d).link.outstanding.map (·.command) = some .proceed)) :
    trackSlipReport d tag a s = slipped d (some a) s := by
  unfold trackSlipReport
  dsimp only
  rw [if_pos hrun]
  rcases h with hst | ⟨hst, ho⟩
  · rw [hst]
  · rw [hst]
    exact if_pos (proceeding_of_map ho)

/-- Both ways in which a slip is noticed (R25). -/
theorem exec_slipped {d : Deck} {tag : Tag} {addr : BitVec 24} {i : Instr} {slip : Option Nat} {s : State} (hs : Settled s)
    (h : (i = .trackSlip d tag addr ∧ slip = some addr.toNat ∧ (s.deck d).link.runTag = some tag ∧
        ((s.deck d).link.state = .streaming ∨
          ((s.deck d).link.state = .stalled ∧ (s.deck d).link.outstanding.map (·.command) = some .proceed))) ∨
      (i = .deliveryGapTimerExpiry d ∧ slip = (s.deck d).intake.ctx.lastPlaced ∧ (s.deck d).link.gapTimer = true ∧
        (s.deck d).link.state = .streaming)) : exec i s = .next (slipped d slip s) := by
  rcases h with ⟨rfl, rfl, hrun, hst⟩ | ⟨rfl, rfl, hgap, hst⟩
  · rw [exec_taggedReport (i := .trackSlip d tag addr) rfl hs]
    exact congrArg _ (trackSlip_slips hrun hst)
  · rw [exec_gapTimer d s hs]
    exact congrArg _ (if_pos ⟨hgap, hst⟩)

theorem slipOf_slip (slip old : Option Nat) : slipOf (.slip slip) old = if slip = none then old else slip := by
  cases slip <;> rfl

/-! ## What is decided (R95, R96, R105) -/

/-- With an empty repair list the planner awaits a flush, fetches, or does nothing (R95). -/
theorem choose_of_empty {d : Deck} {s : State} (he : (s.deck d).plan.entries = []) :
    choose d s = .flushAwaited ∨ choose d s = .fetch ∨ choose d s = .nothing := by
  unfold choose
  dsimp only
  rw [he]
  simp only [List.find?_nil]
  split
  · exact .inl rfl
  · split
    · exact .inr (.inl rfl)
    · split
      · exact .inr (.inl rfl)
      · exact .inr (.inr rfl)

/-- A READY deck whose planner has been given another job, its run context closed (R91, R96). -/
def rejobbed (job : Job) (phase : JobPhase) (target : Option Spot) (u : DeckUnit) : DeckUnit :=
  { u with intake := { u.intake with ctx := closedCtx u.intake.ctx }, plan := { u.plan with job := job, phase := phase, target := target } }

theorem release_rejobbed {d : Deck} {s : State} {f : Planner → Planner} (hl : (s.deck d).link.state = .ready)
    (hf : ∃ j ph t, f (s.deck d).plan = { (s.deck d).plan with job := j, phase := ph, target := t }) :
    ∃ j ph t, onPlan d f (release d s) = onDeck d (rejobbed j ph t) s := by
  obtain ⟨j, ph, t, hf⟩ := hf
  refine ⟨j, ph, t, ?_⟩
  rw [release_of_ready hl]
  unfold onPlan
  rw [onDeck_onDeck]
  refine onDeck_congr ?_
  unfold rejobbed
  dsimp only
  rw [hf]

/-- The decision on a READY deck with an empty repair list whose SEEK toward the fetch address would wait for the backoff timer: nothing
is sent (R96, R105). -/
theorem decide_sendsNothing {d : Deck} {s : State} {p : Spot} (hp : (s.deck d).ring.fetchSpot = some p)
    (hl : (s.deck d).link.state = .ready) (he : (s.deck d).plan.entries = []) (hb : (s.deck d).plan.backoff = true)
    (hbt : (s.deck d).plan.backoffTarget = some p) : ∃ j ph t, decide_ d .failed s = onDeck d (rejobbed j ph t) s := by
  have hacts := plannerActs_ready hp hl
  rcases choose_of_empty he with hc | hc | hc
  · have heq : decide_ d .failed s = onPlan d (fun p => { p with phase := .idle }) (release d s) := by
      unfold decide_
      dsimp only
      rw [if_neg (by simp [hacts]), hc]
      exact if_neg (by simp)
    rw [heq]
    exact release_rejobbed hl ⟨_, _, _, rfl⟩
  · rw [decide_seeks hp hl hc, seekFetch_waits hp hl hb hbt]
    exact ⟨_, _, _, rfl⟩
  · have heq : decide_ d .failed s = release d (onPlan d (fun p => { p with phase := .held }) s) := by
      unfold decide_
      dsimp only
      rw [if_neg (by simp [hacts]), hc]
      dsimp only
      rw [if_neg (fun h => h.2.2 rfl)]
      unfold hold
      rw [if_pos (fetching_of_spot hp)]
      exact if_neg (by simp)
    rw [heq, release_of_ready (by rw [onPlan_same]; exact hl)]
    unfold onPlan
    rw [onDeck_onDeck]
    exact ⟨(s.deck d).plan.job, .held, (s.deck d).plan.target, onDeck_congr rfl⟩

/-- A READY deck whose failed run was not toward the fetch address seeks it at once (R92, R96). -/
theorem decide_seeksOn {d : Deck} {s : State} {p t : Spot} (f : Failure) (counts : Bool) (hp : (s.deck d).ring.fetchSpot = some p)
    (hne : p ≠ t) (hj : (s.deck d).plan.job ≠ .playStart) (hl : (s.deck d).link.state = .ready) (ho : (s.deck d).link.outstanding = none)
    (hc : choose d (onDeck d (failedUnit f t counts) s) = .fetch) :
    decide_ d .failed (onDeck d (failedUnit f t counts) s) = onDeck d (fun u =>
      seekSent { job := .skipRecovery, target := p, k := anchorsBefore (s.deck d).ring p (s.deck d).plan.overlap, span := none }
        (failedUnit f t counts u)) s := by
  have hu : (onDeck d (failedUnit f t counts) s).deck d = failedUnit f t counts (s.deck d) := onDeck_same ..
  obtain ⟨-, hbt, hrec, -, -, -, hjob, hover, -⟩ := failedPlan_fields f t counts (s.deck d).plan
  have hjob' : (failedUnit f t counts (s.deck d)).plan.job ≠ .playStart := fun h => hj (hjob.symm.trans h)
  have hplan : fetchPlan (failedUnit f t counts (s.deck d)) p =
      { job := .skipRecovery, target := p, k := anchorsBefore (s.deck d).ring p (s.deck d).plan.overlap, span := none } := by
    unfold fetchPlan
    rw [fetchName_recovers hjob' hrec, show (failedUnit f t counts (s.deck d)).plan.overlap = (s.deck d).plan.overlap from hover]
    rfl
  rw [decide_seeks (by rw [hu]; exact hp) (by rw [hu]; exact hl) hc, seekFetch_sent (p := p), hu, hplan, onDeck_onDeck]
  · rw [hu]; exact hp
  · rw [hu]; exact hjob'
  · rw [hu]; exact ⟨by rw [show (failedUnit f t counts (s.deck d)).link.state = .ready from hl]; rfl, fun o h => by
      rw [show (failedUnit f t counts (s.deck d)).link.outstanding = none from ho] at h; cases h⟩
  · rw [hu]
    rintro ⟨-, h⟩
    rw [show (failedUnit f t counts (s.deck d)).plan.backoffTarget = some t from hbt] at h
    exact hne (Option.some.inj h).symm

/-! ## The slip of a fetch run (R25, R102) -/

/-- The link of a deck whose run has ended (R24, R25). -/
def runEnded (l : Link) : Link := { l with outstanding := none, state := .ready, runTag := none, gapTimer := false }

/-- Whether a slip counts in the seek-miss streak (R102). -/
def slipCounts (u : DeckUnit) : Bool := u.intake.ctx.lastPlaced.isNone

theorem slipped_decides {d : Deck} {s : State} {t : Spot} (slip : Option Nat) (ht : (s.deck d).plan.target = some t)
    (hj : (s.deck d).plan.job ∈ [.fetch, .cueFetch, .skipRecovery, .voidOver])
    (hlow : (s.deck d).plan.seekMisses < 2 ∨ (s.deck d).intake.ctx.lastPlaced ≠ none) :
    slipped d slip s = decide_ d .failed (onDeck d (failedUnit (.slip slip) t (slipCounts (s.deck d))) (runEnds d s)) := by
  have hrun := runEnds_deck d s
  have hcounts : Failure.counts (.slip slip) (s.deck d).plan.job (s.deck d).intake.ctx = slipCounts (s.deck d) := by
    simp only [List.mem_cons, List.not_mem_nil, or_false] at hj
    unfold Failure.counts slipCounts
    rcases hj with h | h | h | h <;> rw [h] <;> rfl
  have h := runFailed_decides (d := d) (s := runEnds d s) (t := t) (.slip slip) (by rw [hrun]; exact ht) (by rw [hrun]; exact hj)
    (by rw [hrun]) (fun hc => by
      rw [hrun] at hc ⊢
      rw [show Failure.counts (.slip slip) (s.deck d).plan.job (s.deck d).intake.ctx = slipCounts (s.deck d) from hcounts] at hc
      refine hlow.resolve_right fun hne => hne ?_
      exact Option.isNone_iff_eq_none.1 hc)
  rw [hrun] at h
  rw [show Failure.counts (.slip slip) (s.deck d).plan.job (s.deck d).intake.ctx = slipCounts (s.deck d) from hcounts] at h
  exact h

/-- What a slip leaves of the planner, whatever is decided. -/
theorem slipPlan_fields (slip : Option Nat) (t : Spot) (u : DeckUnit) :
    (failedPlan (.slip slip) t (slipCounts u) u.plan).lastSlip = (if slip = none then u.plan.lastSlip else slip) ∧
      (failedPlan (.slip slip) t (slipCounts u) u.plan).backoff = true ∧
      (failedPlan (.slip slip) t (slipCounts u) u.plan).backoffTarget = some t ∧
      (failedPlan (.slip slip) t (slipCounts u) u.plan).recovery = true ∧
      (failedPlan (.slip slip) t (slipCounts u) u.plan).seekMisses =
        if u.intake.ctx.lastPlaced = none then min 3 (u.plan.seekMisses + 1) else u.plan.seekMisses := by
  obtain ⟨h1, h2, h3, h4, -, -, -, -, h5⟩ := failedPlan_fields (.slip slip) t (slipCounts u) u.plan
  refine ⟨h4.trans (slipOf_slip _ _), h1, h2, h3, h5.trans ?_⟩
  unfold slipCounts
  cases u.intake.ctx.lastPlaced <;> rfl

/-- Settles O48: the slip ends the run; the planner then waits for the backoff timer or seeks on. -/
theorem slipEndsTheRun : Obligations.SlipEndsTheRun := by
  intro d tag addr target i slip s hs u hi hj hlow he ht ended misses same
  have hexec := exec_slipped hs hi
  have hpart : SamePart s (slipped d slip s) := (kept_slipped (D := anyDeck) trivial slip s).part
  have hrun : (runEnds d s).deck d = { u with link := ended } := runEnds_deck d s
  obtain ⟨p1, p2, p3, p4, p5⟩ := slipPlan_fields slip target u
  have hent := (failedPlan_fields (.slip slip) target (slipCounts u) u.plan).2.2.2.2.1
  have hflush := (failedPlan_fields (.slip slip) target (slipCounts u) u.plan).2.2.2.2.2.1
  have hsame : ∀ g : DeckUnit → DeckUnit, slipped d slip s = onDeck d g (runEnds d s) →
      ((g { u with link := ended }).plan.lastSlip = (if slip = none then u.plan.lastSlip else slip)) →
      (g { u with link := ended }).plan.backoff = true → (g { u with link := ended }).plan.backoffTarget = some target →
      (g { u with link := ended }).plan.recovery = true → (g { u with link := ended }).plan.seekMisses = misses →
      same (onDeck d g (runEnds d s)) := fun g hg h1 h2 h3 h4 h5 => by
    rw [hg] at hpart
    have hdeck : (onDeck d g (runEnds d s)).deck d = g { u with link := ended } := by rw [onDeck_same, hrun]
    refine ⟨?_, ?_, ?_, ?_, ?_, ?_, ?_, ?_, ?_, hpart, ?_⟩
    · rw [hdeck]; exact h1
    · rw [hdeck]; exact h2
    · rw [hdeck]; exact h3
    · rw [hdeck]; exact h4
    · rw [hdeck]; exact h5
    · rw [onDeck_zone1]; exact onLink_zone1 _ _ _
    · rw [onDeck_zone2]; exact onLink_zone2 _ _ _
    · rw [onDeck_port]; exact onLink_port _ _ _
    · rw [onDeck_tray]; exact onLink_tray _ _ _
    · rw [onDeck_other]; exact onLink_other _ _ _
  have hdecides := slipped_decides slip ht hj hlow
  have hfailed : (onDeck d (failedUnit (.slip slip) target (slipCounts u)) (runEnds d s)).deck d =
      failedUnit (.slip slip) target (slipCounts u) { u with link := ended } := by rw [onDeck_same, hrun]
  refine ⟨fun hp => ?_, fun p hp hne hf hph hd hcap => ?_⟩
  · obtain ⟨j, ph, t, hdec⟩ := decide_sendsNothing (d := d) (p := target)
      (s := onDeck d (failedUnit (.slip slip) target (slipCounts u)) (runEnds d s)) (by rw [hfailed]; exact hp) (by rw [hfailed]; rfl)
      (by rw [hfailed]; exact hent.trans he) (by rw [hfailed]; exact p2) (by rw [hfailed]; exact p3)
    have heq := hdecides.trans hdec
    rw [onDeck_onDeck] at heq
    rw [heq] at hexec
    refine ⟨_, hexec, hsame _ heq p1 p2 p3 p4 p5, ?_, ?_, ?_⟩ <;> rw [onDeck_same, hrun] <;> rfl
  · have hnot : u.plan.job ≠ .playStart := by
      simp only [List.mem_cons, List.not_mem_nil, or_false] at hj
      rcases hj with h | h | h | h <;> rw [h] <;> decide
    have hchoose : choose d (onDeck d (failedUnit (.slip slip) target (slipCounts u)) (runEnds d s)) = .fetch := by
      apply choose_fetch <;> rw [hfailed]
      · exact hflush.trans hf
      · exact hent.trans he
      · exact fetching_of_spot hp
      · show (if u.plan.phase = .run then .idle else u.plan.phase) ≠ .held
        split
        · decide
        · exact hph
      · exact hd
      · exact hcap
    have heq := hdecides.trans (decide_seeksOn (.slip slip) (slipCounts u) (by rw [hrun]; exact hp) hne (by rw [hrun]; exact hnot)
      (by rw [hrun]) (by rw [hrun]) hchoose)
    rw [hrun] at heq
    rw [heq] at hexec
    refine ⟨_, hexec, hsame _ heq p1 p2 p3 p4 p5, ?_⟩
    dsimp only
    rw [onDeck_same, hrun]
    exact ⟨rfl, rfl, rfl, rfl, rfl, rfl, rfl, rfl, rfl⟩

end Sys2Proof.Proofs
end


section
/-!
PROOFS. A delivery that joins the ring's tail (R41, R42, R43, R67, R72).
-/

namespace Sys2Proof.Proofs

open Sys2Proof.Machine

/-! ## A positioned delivery (R42) -/

/-- The Intake Unit after a positioned delivery (R42). -/
def positionedIntake (a : Nat) (u : DeckUnit) : Intake :=
  let i : Intake := if namesTarget u then { u.intake with abandoned := none, abandonedBy := 0 } else u.intake
  { i with ctx := { i.ctx with anchor := some a, lastPlaced := some a, streak := 0 } }

/-- The planner after a positioned delivery (R42, R99, R102, R103). -/
def positionedPlan (u : DeckUnit) : Planner :=
  { u.plan with
    seekMisses := 0, voids := 0, recovery := u.plan.recovery && !u.intake.ctx.job.isFetch
    job := if u.plan.job = .playStart then .fetch else u.plan.job }

/-- A deck after a positioned delivery (R42). -/
def positionedUnit (a : Nat) (u : DeckUnit) : DeckUnit :=
  { u with intake := positionedIntake a u, plan := positionedPlan u }

theorem positioned_eq (d : Deck) (a : Nat) (s : State) : positioned d a s = onDeck d (positionedUnit a) s := by
  unfold positioned positionedTold
  dsimp only
  split
  · next h =>
    simp only [onCtx, onIntake, onPlan, onDeck_onDeck, onDeck_same]
    refine onDeck_congr ?_
    unfold positionedUnit positionedIntake
    rw [if_pos h]
    rfl
  · next h =>
    simp only [onCtx, onIntake, onPlan, onDeck_onDeck, onDeck_same]
    refine onDeck_congr ?_
    unfold positionedUnit positionedIntake
    rw [if_neg h]
    rfl

theorem positionedIntake_fields (a : Nat) (u : DeckUnit) :
    (positionedIntake a u).ctx.anchor = some a ∧ (positionedIntake a u).ctx.lastPlaced = some a ∧
      (positionedIntake a u).stats = u.intake.stats := by
  unfold positionedIntake
  split <;> exact ⟨rfl, rfl, rfl⟩

/-! ## A block at the tail (R43, R67, R72) -/

/-- A ring with a GOOD record joined at its tail, short of the range's end (R67, R72). -/
def joined (a : Nat) (g : Seg) (b : Block) (r : Ring) : Ring :=
  { r with
    records := r.records ++ [{ addr := a, seg := g, state := .good, doubt := 0, data := b }]
    peak := max r.peak (r.depth + 1)
    fetchAddr := some (a + 1) }

theorem append_eq {r : Ring} {last a : Nat} (g : Seg) (b : Block) (he : r.fetchEnd = some last) (ha : a < last) :
    r.append ⟨a, g⟩ .good 0 b = joined a g b r := by
  unfold Ring.append Ring.advance
  dsimp only
  rw [he]
  dsimp only
  rw [if_pos ha]
  unfold joined
  rw [List.length_append, he]
  rfl

theorem doubtCount_clean {marks : List Bool} (h : ∀ m ∈ marks, m = false) : doubtCount marks = 0 := by
  unfold doubtCount
  exact List.count_eq_zero.2 fun hm => by have := h true hm; cases this

/-- No HIGH report below the high mark (R76). -/
theorem onHigh_below {d : Deck} {s : State} (h : (s.deck d).ring.depth < (s.deck d).ring.high)
    (hc : (s.deck d).ring.high ≤ (s.deck d).ring.cap) : onHigh d s = s := by
  have heff : (s.deck d).ring.high ≤ effHigh d s := by
    unfold effHigh
    split
    · exact hc
    · exact Nat.le_refl _
  unfold onHigh
  exact if_neg fun hh => by have := hh.1; omega

/-- A clean block placed at the tail, short of the range's end and with room below the high mark (R43). -/
theorem placeBlock_clean {d : Deck} {s : State} {a last : Nat} (g : Seg) {b : Block} (hclean : ∀ m ∈ b.marks, m = false)
    (he : (s.deck d).ring.fetchEnd = some last) (ha : a < last) (hd : (s.deck d).ring.depth + 1 < (s.deck d).ring.high)
    (hc : (s.deck d).ring.high ≤ (s.deck d).ring.cap) :
    placeBlock d a g b s =
      onIntakeStats d (fun t => { t with placedNew := bump 1 t.placedNew }) (reportGoodDepth d (onRing d (joined a g b) s)) := by
  have hadd : addRecord d ⟨a, g⟩ .good 0 b s = onRing d (joined a g b) s := by
    unfold addRecord
    exact onDeck_congr (congrArg (fun r => { s.deck d with ring := r }) (append_eq g b he ha))
  have hring : (onRing d (joined a g b) s).deck d = { s.deck d with ring := joined a g b (s.deck d).ring } := onRing_same ..
  have hreport : reportAdded d (onRing d (joined a g b) s) = reportGoodDepth d (onRing d (joined a g b) s) := by
    refine onHigh_below ?_ ?_ <;> rw [reportGoodDepth_deck, hring]
    · show (joined a g b (s.deck d).ring).records.length < _
      unfold joined
      rw [List.length_append]
      exact hd
    · exact hc
  unfold placeBlock
  dsimp only
  rw [doubtCount_clean hclean, if_pos rfl, hadd, if_pos (by rw [hring]; rfl), hreport]
  unfold newRecord
  exact if_pos rfl

/-- With an empty repair list a placement brings no decision point (R93). -/
theorem afterPlacement_empty {d : Deck} {s : State} (before : DeckUnit) (h : (s.deck d).plan.entries = []) : afterPlacement d before s = s := by
  unfold afterPlacement
  dsimp only
  rw [h]
  simp

/-- The state after a clean block has joined the tail (R42, R43, R67). -/
def joinedState (d : Deck) (a : Nat) (g : Seg) (b : Block) (s : State) : State :=
  onIntakeStats d (fun t => { t with placedNew := bump 1 t.placedNew })
    (reportGoodDepth d (onRing d (joined a g b) (onDeck d (positionedUnit a) s)))

theorem joinedState_deck (d : Deck) (a : Nat) (g : Seg) (b : Block) (s : State) :
    (joinedState d a g b s).deck d = { positionedUnit a (s.deck d) with
      ring := joined a g b (s.deck d).ring
      intake := { positionedIntake a (s.deck d) with
        stats := { (positionedIntake a (s.deck d)).stats with placedNew := bump 1 (positionedIntake a (s.deck d)).stats.placedNew } } } := by
  unfold joinedState onIntakeStats onIntake onRing
  rw [onDeck_same, reportGoodDepth_deck, onDeck_same, onDeck_same]
  rfl

theorem placeNew_clean {d : Deck} {s : State} {a last : Nat} (g : Seg) {b : Block} (hclean : ∀ m ∈ b.marks, m = false)
    (he : (s.deck d).ring.fetchEnd = some last) (ha : a < last) (hd : (s.deck d).ring.depth + 1 < (s.deck d).ring.high)
    (hc : (s.deck d).ring.high ≤ (s.deck d).ring.cap) (hes : (s.deck d).plan.entries = []) :
    placeNew d a g b s = joinedState d a g b s := by
  have hblock : placeBlock d a g b (positioned d a s) = joinedState d a g b s := by
    rw [positioned_eq]
    refine placeBlock_clean (last := last) g hclean ?_ ha ?_ ?_ <;> rw [onDeck_same]
    · exact he
    · exact hd
    · exact hc
  unfold placeNew
  rw [hblock]
  refine afterPlacement_empty _ ?_
  rw [joinedState_deck]
  exact hes

/-- An expected delivery with an address, at the fetch address of a fetch-type run (R40, R41). -/
theorem intake_atFetch {d : Deck} {s : State} {tag : Tag} {v : DeliveryArgs} {last : Nat} {g : Seg} (hv : v.valid = true)
    (hexp : expected (s.deck d) tag = true) (hspan : (s.deck d).intake.ctx.span = none)
    (hf : (s.deck d).ring.fetchAddr = some v.addr.toNat) (he : (s.deck d).ring.fetchEnd = some last)
    (hg : (s.deck d).ring.fetchSeg = some g) (hroom : (s.deck d).ring.depth < (s.deck d).ring.cap) :
    intake d tag v s = placeNew d v.addr.toNat g { samples := v.samples, marks := v.marks } s := by
  unfold intake
  dsimp only
  rw [hexp, if_neg (by decide), if_pos hv]
  unfold classify
  dsimp only
  rw [hspan]
  unfold classifyFetch
  dsimp only
  rw [hf, he, hg]
  exact if_pos ⟨rfl, hroom⟩

/-- Settles O53: the delivery is expected, stands at the fetch address, and joins the tail. -/
theorem deliveryJoinsTheRing : Obligations.DeliveryJoinsTheRing := by
  intro d tag v g last s hs hw hgood hv hclean hst hrun ho hopen htag hspan hf he hlast hg hd hc hes
  have hexp : expected (s.deck d) tag = true := by simp [expected, hrun, hst, hopen, htag]
  have hdeliver : deliver d tag v s = joinedState d v.addr.toNat g { samples := v.samples, marks := v.marks } s := by
    unfold deliver
    rw [if_pos hgood, deliveryOnLink_free tag ho, intake_atFetch hv hexp hspan hf he hg (by omega)]
    exact placeNew_clean g hclean he hlast hd hc hes
  have hexec := exec_delivery d tag v s hs hw
  have hpart : SamePart s (deliver d tag v s) := (kept_deliver (D := anyDeck) trivial tag v s).part
  rw [hdeliver] at hexec hpart
  obtain ⟨hanchor, hplaced, hstats⟩ := positionedIntake_fields v.addr.toNat (s.deck d)
  refine ⟨_, hexec, ?_⟩
  dsimp only
  rw [joinedState_deck]
  refine ⟨rfl, hanchor, hplaced, ?_, rfl, ?_, ?_, hpart⟩
  · show bump 1 (positionedIntake v.addr.toNat (s.deck d)).stats.placedNew = _
    rw [hstats]; rfl
  · unfold joinedState onIntakeStats onIntake onRing
    rw [onDeck_other, reportGoodDepth_deck, onDeck_other, onDeck_other]
  · unfold joinedState onIntakeStats onIntake onRing
    rw [onDeck_tray, reportGoodDepth_tray, onDeck_tray, onDeck_tray]

end Sys2Proof.Proofs
end


section
/-!
PROOFS. The beginning of a range over a deck that can start a run (R99, R121, R122).
-/

namespace Sys2Proof.Proofs

open Sys2Proof.Machine

/-! ## The mirror zone primes (R132) -/

theorem mirrorOnly_mirrorPrime (s : State) : MirrorOnly s (mirrorPrime s) := by
  unfold mirrorPrime
  dsimp only
  split
  · split
    · exact ((MirrorOnly.zone2 s { s.zone2 with causes := { s.zone2.causes with stop := false } } rfl).trans
        (mirrorOnly_enterZone _ _)).trans (mirrorOnly_mirrorSync _)
    · exact mirrorOnly_mirrorSync s
  · exact .refl s

theorem told_primed (z : ZoneId) (s : State) : Told z s (primed z s) := by
  cases z with
  | one => exact ⟨mirrorOnly_mirrorPrime s, fun h => mirrorPrime_of_none (h.resolve_left (by decide))⟩
  | two => exact .refl _ s

theorem zoneOf_of_only {z : ZoneId} {d : Deck} {s : State} (h : (s.zone z).source = .deck d) (hother : (s.zone (otherZone z)).source ≠ .deck d) :
    zoneOf d s = some z := by
  unfold zoneOf
  cases z with
  | one => exact if_pos h
  | two => exact (if_neg hother).trans (if_pos h)

/-! ## The zone in PRIMING (R121, R122) -/

/-- The zone at the beginning of a range (R121, R122). -/
def primedZone (r : PlayRange) (cue : Option PlayRange) (n : Zone) : Zone := { Zone.begun r n with state := .priming, cue := cue }

theorem begun_unheld (r : PlayRange) (n : Zone) : Zone.begun r n.unheld = Zone.begun r n := rfl

/-- The zone in PRIMING over its flushed ring, before its follower and the planner act (R121, R122). -/
def primingAlone (z : ZoneId) (d : Deck) (r : PlayRange) (s : State) : State :=
  enterZone z .priming (setNote z none (onZone z (Zone.begun r) (flush d s)))

section
variable {z : ZoneId} {d : Deck} {s : State} (r : PlayRange) (hzo : zoneOf d s = some z)

theorem primingAlone_deck (e : Deck) : (primingAlone z d r s).deck e = (flush d s).deck e := by
  unfold primingAlone
  rw [enterZone_deck, setNote_deck, onZone_deck]

theorem primingAlone_tray : (primingAlone z d r s).tray = (setNote z none s).tray := by
  unfold primingAlone
  rw [enterZone_tray, setNote_onZone, onZone_tray]
  cases z <;> simp only [setNote, flush_tray]

include hzo

theorem primingAlone_zone : (primingAlone z d r s).zone z = primedZone r none (s.zone z) := by
  unfold primingAlone
  rw [enterZone_same, setNote_zone, onZone_same, flush_zone, if_pos hzo]
  rfl

theorem primingAlone_otherZone : (primingAlone z d r s).zone (otherZone z) = s.zone (otherZone z) := by
  unfold primingAlone
  rw [enterZone_other, setNote_zone, onZone_other, flush_zone, hzo]
  exact if_neg fun h => by cases z <;> cases h

omit hzo in
theorem primingAlone_port : (primingAlone z d r s).port = (raiseNotice (.zone z) (.zoneState .priming none) s).port := by
  unfold primingAlone enterZone
  dsimp only
  rw [if_neg (by decide)]
  refine raiseNotice_port_congr _ _ ?_
  rw [onZone_port, setNote_port, onZone_port, flush_port]

end

/-! ## The cue and PLAY_START (R99, R122) -/

/-- The ring with a cue for the range that begins (R73). -/
def withCue (cue : Option PlayRange) (u : DeckUnit) : DeckUnit :=
  { u with ring := { u.ring with cueCopy := cue.elim u.ring.cueCopy some } }

theorem cued_fields {z : ZoneId} {d : Deck} {s : State} (cue : Option PlayRange) (he : Emptied (s.deck d).ring) :
    (cued z d cue s).deck d = withCue cue (s.deck d) ∧ (cued z d cue s).deck (otherDeck d) = s.deck (otherDeck d) ∧
      (cued z d cue s).zone z = { s.zone z with cue := cue.elim (s.zone z).cue some } ∧
      (cued z d cue s).zone (otherZone z) = s.zone (otherZone z) ∧ (cued z d cue s).tray = s.tray ∧ (cued z d cue s).port = s.port := by
  cases cue with
  | none => exact ⟨rfl, rfl, rfl, rfl, rfl, rfl⟩
  | some q =>
    have heq : cued z d (some q) s = onRing d (fun r => { r with cueCopy := some q }) (onZone z (fun n => { n with cue := some q }) s) :=
      emptied_cueRing _ (by rw [onZone_deck]; exact he)
    rw [heq]
    refine ⟨?_, ?_, ?_, ?_, ?_, ?_⟩
    · rw [onRing_same, onZone_deck]; rfl
    · rw [onRing_other, onZone_deck]
    · rw [onRing_zone, onZone_same]; rfl
    · rw [onRing_zone, onZone_other]
    · rw [onRing_tray, onZone_tray]
    · rw [onRing_port, onZone_port]

/-- The deck in which the planner sends PLAY_START's SEEK (R99). -/
def playStarting (r : PlayRange) (u : DeckUnit) : DeckUnit :=
  { u with
    ring := { u.ring with phase := .current, fetchAddr := some r.first, fetchEnd := some r.last }
    plan := { u.plan with job := .playStart, phase := .idle, target := some ⟨r.first, u.ring.tag⟩ } }

/-- The plan of PLAY_START (R92, R99). -/
def startPlan (r : PlayRange) (g : Seg) : RunPlan := { job := .playStart, target := ⟨r.first, g⟩, k := 0, span := none }

theorem playStart_sent {d : Deck} {s : State} (r : PlayRange) (hl : (s.deck d).link.startable) (hc : (s.deck d).ring.cap ≠ 0)
    (hb : (s.deck d).plan.backoff = false) :
    playStart d r s = some (onDeck d (fun u => seekSent (startPlan r (s.deck d).ring.tag) (playStarting r u)) s) := by
  have hstart : onPlan d (fun p => { p with job := .playStart, phase := .idle, target := some ⟨r.first, (s.deck d).ring.tag⟩ })
      (onRing d (fun q => { q with phase := .current, fetchAddr := some r.first, fetchEnd := some r.last }) s) =
      onDeck d (playStarting r) s := by
    unfold onPlan onRing
    rw [onDeck_onDeck]
    exact onDeck_congr rfl
  unfold playStart
  dsimp only
  rw [if_pos ⟨hl.1, hc⟩, hstart, seekFor_eq]
  · rw [onDeck_onDeck, onDeck_same]
    rfl
  · rw [onDeck_same]; exact hl
  · rw [onDeck_same]
    exact fun h => by
      have : (s.deck d).plan.backoff = true := h.1
      rw [hb] at this; cases this

theorem playStart_refused {d : Deck} {s : State} (r : PlayRange) (hl : (s.deck d).link.state.runnable = false) : playStart d r s = none := by
  unfold playStart
  exact if_neg fun h => by have := h.1; rw [hl] at this; cases this

/-! ## The deck of a range begun (R22, R23, R39, R79, R99) -/

/-- The link of a deck on which PLAY_START has been sent (R22, R23). -/
theorem seekingLink_released {l : Link} (a : Nat) :
    seekingLink a (releasedLink l) = { Link.hasSent (.seek a) l.released with
      state := .seeking, runTag := some l.released.nextTag, gapTimer := false, lastLanded := none, byDelivery := false } := by
  unfold releasedLink
  split
  · rfl
  · next hst =>
    have hkeep : l.released = l := by
      unfold Link.released
      cases hs : l.state <;> rw [hs] at hst <;> simp at hst ⊢
    rw [hkeep]
    rfl

/-- The deck of a range begun (R99). -/
def begunDeck (r : PlayRange) (cue : Option PlayRange) (u : DeckUnit) : DeckUnit :=
  seekSent (startPlan r false) (playStarting r (withCue cue (flushedUnit u)))

theorem begunDeck_eq (r : PlayRange) (cue : Option PlayRange) (u : DeckUnit) :
    begunDeck r cue u = { u with
      link := { Link.hasSent (.seek r.first) u.link.released with
        state := .seeking, runTag := some u.link.released.nextTag, gapTimer := false, lastLanded := none, byDelivery := false }
      intake := { u.intake with
        abandoned := none, abandonedBy := 0,
        ctx := { status := .opened, runTag := u.link.released.nextTag, job := .playStart, target := r.first, k := 0, span := none,
                 anchor := none, lastPlaced := none, streak := 0, outcome := .none, blind := false, asked := false, reached := [] } }
      ring := { u.ring with
        records := [], tag := false, phase := .current, fetchAddr := some r.first, fetchEnd := some r.last, cueCopy := cue,
        overflow := false, flushes := min 65535 (u.ring.flushes + 1) }
      plan := { u.plan with
        entries := [], job := .playStart, phase := .run, target := some ⟨r.first, false⟩, recovery := false, flushAwaited := false,
        seekMisses := 0, voids := 0, backoff := false, backoffTarget := none } } := by
  have hlink := seekingLink_released (l := u.link) r.first
  have htag : (releasedLink u.link).nextTag = u.link.released.nextTag := by
    have h := congrArg Link.runTag hlink
    exact Option.some.inj h
  refine deckUnit_ext ?_ ?_ ?_ ?_ rfl
  · exact hlink
  · exact congrArg (fun t : Tag => { u.intake with
        abandoned := none, abandonedBy := 0,
        ctx := { status := .opened, runTag := t, job := .playStart, target := r.first, k := 0, span := none,
                 anchor := none, lastPlaced := none, streak := 0, outcome := .none, blind := false, asked := false, reached := [] } }) htag
  · cases cue <;> rfl
  · rfl

/-- The zone and deck between the flush and PLAY_START (R121, R122). -/
structure Primed (z : ZoneId) (d : Deck) (r : PlayRange) (cue : Option PlayRange) (s t : State) : Prop where
  zone : t.zone z = primedZone r cue (s.zone z)
  deck : t.deck d = withCue cue (flushedUnit (s.deck d))
  other : t.deck (otherDeck d) = s.deck (otherDeck d)
  tray : t.tray = (setNote z none s).tray
  source : ∀ y, (t.zone y).source = (s.zone y).source
  alone : z = .two ∨ mirroring s = false →
    t.zone (otherZone z) = s.zone (otherZone z) ∧ t.port = (raiseNotice (.zone z) (.zoneState .priming none) s).port
  follower : z = .one → t.zone2 = (mirrorPrime (primingAlone z d r s)).zone2

theorem withCue_none (u : DeckUnit) : withCue none u = u := rfl

theorem primedZone_cue (r : PlayRange) (cue : Option PlayRange) (n : Zone) :
    { primedZone r none n with cue := cue.elim none some } = primedZone r cue n := by cases cue <;> rfl

theorem primed_cued {z : ZoneId} {d : Deck} {s : State} (r : PlayRange) (cue : Option PlayRange) (hzo : zoneOf d s = some z) :
    Primed z d r cue s (cued z d cue (priming z d r s)) := by
  have htold : Told z (primingAlone z d r s) (priming z d r s) := told_primed z _
  have hdeck : ∀ e, (priming z d r s).deck e = (flush d s).deck e := fun e => by rw [htold.deck, primingAlone_deck]
  have hzone : (priming z d r s).zone z = primedZone r none (s.zone z) := by rw [htold.zone, primingAlone_zone r hzo]
  obtain ⟨c1, c2, c3, c4, c5, c6⟩ := cued_fields (z := z) (d := d) (s := priming z d r s) cue (by rw [hdeck]; exact emptied_flush s)
  have hother : (primingAlone z d r s).zone (otherZone z) = s.zone (otherZone z) := primingAlone_otherZone r hzo
  have hsame : (cued z d cue (priming z d r s)).zone z = primedZone r cue (s.zone z) := by
    rw [c3, hzone]; exact primedZone_cue r cue _
  refine ⟨hsame, ?_, ?_, ?_, fun y => ?_, fun h => ?_, fun h => ?_⟩
  · rw [c1, hdeck, flush_deck]
  · rw [c2, hdeck, flush_otherDeck]
  · rw [c5, htold.tray, primingAlone_tray]
  · by_cases hy : y = z
    · rw [hy, hsame]; rfl
    · rw [otherZone_of_ne hy, c4, htold.source, hother]
  · have hm : mirroring (primingAlone z d r s) = mirroring s := mirroring_of_sources fun y => by
      by_cases hy : y = z
      · rw [hy, primingAlone_zone r hzo]; rfl
      · rw [otherZone_of_ne hy, hother]
    have heq := htold.2 (h.imp_right hm.trans)
    rw [c4, c6, heq]
    exact ⟨hother, primingAlone_port r⟩
  · subst h; exact c4

theorem beginRange_sent {z : ZoneId} {d : Deck} {s : State} (r : PlayRange) (cue : Option PlayRange) (hzo : zoneOf d s = some z)
    (hl : (s.deck d).link.startable) (hc : (s.deck d).ring.cap ≠ 0) :
    beginRange z r cue s =
      onDeck d (fun u => seekSent (startPlan r false) (playStarting r u)) (cued z d cue (priming z d r s)) := by
  have hp := primed_cued r cue hzo
  rw [beginRange_of_deck (deck?_of_source (zoneOf_source d s z hzo))]
  unfold started
  rw [playStart_sent r]
  · rw [hp.deck]; rfl
  · rw [hp.deck]; exact startable_released hl
  · rw [hp.deck]; exact hc
  · rw [hp.deck]; rfl

/-- The STOPPED mirror zone follows zone 1 into PRIMING (R132). -/
theorem mirrorPrime_stopped {s : State} (hm : s.zone2.source = .mirror) (hs : s.zone2.state = .stopped) (hr : s.zone2.atRest)
    (h1 : inheritedFrom s.zone1 = { Causes.empty with starve := true }) : (mirrorPrime s).zone2 = s.zone2.mirrorPrimed := by
  obtain ⟨-, -, -, -, hramp, hcauses, hinh, -⟩ := hr
  have hmir : mirroring s = true := by simp [mirroring, hm]
  let u : State := enterZone .two .priming (onZone .two (fun n => { n with causes := { n.causes with stop := false } }) s)
  have hprime : mirrorPrime s = mirrorSync u := by
    unfold mirrorPrime
    dsimp only
    rw [if_pos hmir, if_pos hs]
  have hu2 : u.zone2 = { s.zone2 with state := .priming, causes := { s.zone2.causes with stop := false } } := by
    simp [u, enterZone, onZone]
  have hu1 : u.zone1 = s.zone1 := by simp [u, enterZone, onZone]
  let w : State := onZoneStats .two (fun t => { t with starves := bump 1 t.starves })
    (onZone .two (fun n => { n with inherited := { Causes.empty with starve := true } }) u)
  have hw : w.zone2 = s.zone2.mirrorPrimed := by
    have hmade : w.zone2 = { u.zone2 with
        inherited := { Causes.empty with starve := true }, stats := { u.zone2.stats with starves := bump 1 u.zone2.stats.starves } } := rfl
    rw [hmade, hu2]; rfl
  have hquiet : mirrorZero w = w := by
    have hmutes : w.zone2.mutes = { Causes.empty with starve := true } := by
      rw [hw]
      unfold Zone.mutes Zone.mirrorPrimed
      rw [hcauses]
      rfl
    unfold mirrorZero
    dsimp only
    have hstate : w.zone2.state = .priming := by rw [hw]; rfl
    rw [hmutes, hstate]
    rfl
  have hact : mirrorActive u = true := (mirrorActive_iff u).2 ⟨(mirroring_congr (by rw [hu2])).trans hmir, by rw [hu2]; exact ZoneState.noConfusion⟩
  have hold : u.zone2.inherited = Causes.empty := by rw [hu2]; exact hinh
  have hsync : mirrorSync u = w := by
    unfold mirrorSync
    dsimp only
    rw [if_pos hact, hu1, h1, hold, if_neg (by decide)]
    have hramp' : w.zone2.ramp = 0 := by rw [hw]; exact hramp
    exact (if_pos ⟨rfl, hramp'⟩).trans hquiet
  rw [hprime, hsync, hw]

/-- A range begun (R121, R122). -/
theorem rangeBegun {z : ZoneId} {d : Deck} {s : State} (r : PlayRange) (cue : Option PlayRange) (hsrc : (s.zone z).source = .deck d)
    (hother : (s.zone (otherZone z)).source ≠ .deck d) (hl : (s.deck d).link.startable) (hc : (s.deck d).ring.cap ≠ 0) :
    RangeBegun z d r cue s (beginRange z r cue s) ∧ (beginRange z r cue s).tray = (setNote z none s).tray := by
  have hzo := zoneOf_of_only hsrc hother
  have hp := primed_cued r cue hzo
  have heq := beginRange_sent r cue hzo hl hc
  have htray : (beginRange z r cue s).tray = (setNote z none s).tray := by rw [heq, onDeck_tray, hp.tray]
  have hnone : z = .two ∨ s.zone2.source ≠ .mirror → z = .two ∨ mirroring s = false := Or.imp_right mirroring_of_ne
  refine ⟨⟨?_, ?_, ?_, fun h => ?_, fun h1 hm hs hr => ?_, fun h => ?_, ?_, ?_⟩, htray⟩
  · rw [heq, onDeck_zone, hp.zone]; rfl
  · rw [heq, onDeck_same, hp.deck]
    exact begunDeck_eq r cue (s.deck d)
  · rw [heq, onDeck_other, hp.other]
  · rw [heq, onDeck_zone]; exact (hp.alone (hnone h)).1
  · subst h1
    have h2 : (primingAlone .one d r s).zone2 = s.zone2 := primingAlone_otherZone r hzo
    have hz1 : (primingAlone .one d r s).zone1 = primedZone r none s.zone1 := primingAlone_zone r hzo
    rw [heq, onDeck_zone2, hp.follower rfl, mirrorPrime_stopped (by rw [h2]; exact hm) (by rw [h2]; exact hs) (by rw [h2]; exact hr), h2]
    rw [hz1]; rfl
  · rw [heq, onDeck_port, (hp.alone (hnone h)).2]
  · rw [htray]; cases z <;> rfl
  · exact (kept_beginRange (D := anyDeck) z r cue s (plays_any _ _)).part

end Sys2Proof.Proofs
end


section
/-!
PROOFS. PLAY and RESUME (R120 to R122, R179, R180).
-/

namespace Sys2Proof.Proofs

open Sys2Proof.Machine

/-! ## A range begun, carried over (R121, R122, R179) -/

/-- A state that differs from `s` at most in what the beginning of a range overwrites, and in the resume table. -/
structure BeginsLike (z : ZoneId) (d : Deck) (s u : State) : Prop where
  zone : ∀ r cue, primedZone r cue (u.zone z) = primedZone r cue (s.zone z)
  deck : ∀ r cue, begunDeck r cue (u.deck d) = begunDeck r cue (s.deck d)
  deckKept : u.deck (otherDeck d) = s.deck (otherDeck d)
  zoneKept : u.zone (otherZone z) = s.zone (otherZone z)
  port : u.port = s.port
  tray : { u.tray with table := s.tray.table } = s.tray
  part : SamePart s u

theorem samePart_trans {s t u : State} (h : SamePart s t) (g : SamePart t u) : SamePart s u := by
  obtain ⟨h1, h2, h3, h4, h5⟩ := h
  obtain ⟨g1, g2, g3, g4, g5⟩ := g
  exact ⟨g1.trans h1, g2.trans h2, g3.trans h3, g4.trans h4, g5.trans h5⟩

theorem setNote_tray_like {z : ZoneId} {s u : State} (v : Option StopNote) (h : { u.tray with table := s.tray.table } = s.tray) :
    { (setNote z v u).tray with table := s.tray.table } = (setNote z v s).tray := by
  cases z
  · exact congrArg (fun t : Tray => { t with noteOne := v }) h
  · exact congrArg (fun t : Tray => { t with noteTwo := v }) h

/-- The beginning of a range overwrites the difference. -/
theorem rangeBegun_like {z : ZoneId} {d : Deck} {r : PlayRange} {cue : Option PlayRange} {s u t : State} (h : BeginsLike z d s u)
    (g : RangeBegun z d r cue u t) : RangeBegun z d r cue s t where
  theZone := g.theZone.trans (h.zone r cue)
  theDeck := g.theDeck.trans ((begunDeck_eq r cue (u.deck d)).symm.trans ((h.deck r cue).trans (begunDeck_eq r cue (s.deck d))))
  deckKept := g.deckKept.trans h.deckKept
  zoneKept hz := by
    refine (g.zoneKept ?_).trans h.zoneKept
    rcases hz with hz | hz
    · exact .inl hz
    · cases z with
      | one => exact .inr (by rw [show u.zone2 = s.zone2 from h.zoneKept]; exact hz)
      | two => exact .inl rfl
  mirror hz hm hs hr := by
    subst hz
    have h2 : u.zone2 = s.zone2 := h.zoneKept
    rw [g.mirror rfl (by rw [h2]; exact hm) (by rw [h2]; exact hs) (by rw [h2]; exact hr), h2]
  notices hz := by
    have hz' : z = .two ∨ u.zone2.source ≠ .mirror := by
      rcases hz with hz | hz
      · exact .inl hz
      · cases z with
        | one => exact .inr (by rw [show u.zone2 = s.zone2 from h.zoneKept]; exact hz)
        | two => exact .inl rfl
    rw [g.notices hz', raiseNotice_port_congr _ _ h.port]
  tray := (congrArg (fun x : Tray => { x with table := s.tray.table }) g.tray).trans (setNote_tray_like none h.tray)
  part := samePart_trans h.part g.part

/-- A range begun takes the cue that is given after it (R123, R179). -/
theorem rangeBegun_cue {z : ZoneId} {d : Deck} {r : PlayRange} {s t : State} (g : RangeBegun z d r none s t) (hsrc : (s.zone z).source = .deck d)
    (q : PlayRange) : RangeBegun z d r (some q) s (cueRange z (some q) t) ∧ (cueRange z (some q) t).tray = t.tray := by
  have hz : (t.zone z).source = .deck d := by rw [g.theZone]; exact hsrc
  have heq : cueRange z (some q) t = onRing d (fun r => { r with cueCopy := some q }) (onZone z (fun n => { n with cue := some q }) t) :=
    cueRange_current (some q) hz (by rw [g.theZone]; rfl) (by rw [g.theDeck]) (by rw [g.theDeck]; rfl)
  have htray : (cueRange z (some q) t).tray = t.tray := by rw [heq, onRing_tray, onZone_tray]
  refine ⟨⟨?_, ?_, ?_, fun h => ?_, fun hone hm hs hr => ?_, fun h => ?_, ?_, ?_⟩, htray⟩
  · rw [heq, onRing_zone, onZone_same, g.theZone]
  · rw [heq, onRing_same, onZone_deck, g.theDeck]
  · rw [heq, onRing_other, onZone_deck, g.deckKept]
  · rw [heq, onRing_zone, onZone_other, g.zoneKept h]
  · rw [heq, onRing_zone2]
    subst hone
    exact g.mirror rfl hm hs hr
  · rw [heq, onRing_port, onZone_port, g.notices h]
  · rw [htray, g.tray]
  · refine samePart_trans g.part ?_
    rw [heq]
    exact ⟨by rw [onRing_resetPin, onZone_resetPin], by rw [onRing_shock, onZone_shock], by rw [onRing_standby, onZone_standby],
      by rw [onRing_stage, onZone_stage], by rw [onRing_pending, onZone_pending]⟩

/-- The reply changes nothing of a range begun. -/
theorem rangeBegun_replied {z : ZoneId} {d : Deck} {r : PlayRange} {cue : Option PlayRange} {s t : State} (g : RangeBegun z d r cue s t)
    (c : ReplyCode) (data : List Byte) : RangeBegun z d r cue s (Machine.replied c data t) where
  theZone := by rw [replied_zone]; exact g.theZone
  theDeck := by rw [replied_deck]; exact g.theDeck
  deckKept := by rw [replied_deck]; exact g.deckKept
  zoneKept h := by rw [replied_zone]; exact g.zoneKept h
  mirror := g.mirror
  notices := g.notices
  tray := g.tray
  part := g.part

/-! ## PLAY (R120, R121) -/

theorem exec_play (z : ZoneId) (first last : BitVec 24) (s : State) (hs : Awake s) :
    exec (.play (zoneByte z) first last) s = .next (settle (playAnswer (zoneByte z) first.toNat last.toNat s)) := exec_awake rfl hs

section
variable {z : ZoneId} {d : Deck} {s : State} {first last : Nat}

theorem playAnswer_idle (h : (s.zone z).deck? = none) : playAnswer (zoneByte z) first last s = (s, refusal .badState) := by
  unfold playAnswer
  rw [zoneArg_zoneByte]
  dsimp only
  rw [h]

theorem playAnswer_busy (hsrc : (s.zone z).source = .deck d) (h : deckBusy d s = true) :
    playAnswer (zoneByte z) first last s = (s, refusal .busy) := by
  unfold playAnswer
  rw [zoneArg_zoneByte]
  dsimp only
  rw [deck?_of_source hsrc]
  exact if_pos h

theorem playAnswer_open (hsrc : (s.zone z).source = .deck d) (h : deckBusy d s = false) :
    (∀ code, rangeCheck (s.deck d).link.usable first last = .refused code → playAnswer (zoneByte z) first last s = (s, refusal code)) ∧
      ∀ r adjusted, rangeCheck (s.deck d).link.usable first last = .accepted r adjusted →
        playAnswer (zoneByte z) first last s = (playRange z r s, ok (rangeData r adjusted)) := by
  unfold playAnswer
  rw [zoneArg_zoneByte]
  dsimp only
  rw [deck?_of_source hsrc]
  dsimp only
  rw [if_neg (by simp [h]), zoneRange_of_source hsrc]
  exact ⟨fun code hc => by rw [hc], fun r adjusted hc => by rw [hc]⟩

/-- A switch completes at once where the ramp is at 0 and no zone mirrors (R121, R122). -/
theorem playRange_atZero (hsrc : (s.zone z).source = .deck d) (hst : (s.zone z).state ≠ .stopped) (hr : (s.zone z).ramp = 0)
    (hm : mirroring s = false) (r : PlayRange) :
    playRange z r s = beginRange z r none (awaitFlush d (onZone z (switching r (s.zone z).causes.stop) s)) := by
  have hm' : mirroring (awaitFlush d (onZone z (switching r (s.zone z).causes.stop) s)) = false := by
    unfold awaitFlush
    exact (mirroring_onDeck d _ _).trans (unmirrored_onZone hm fun _ => rfl)
  have hzone : (awaitFlush d (onZone z (switching r (s.zone z).causes.stop) s)).zone z =
      switching r (s.zone z).causes.stop (s.zone z) := by rw [awaitFlush_zone, onZone_same]
  rw [playRange_of_active (deck?_of_source hsrc) hst, if_pos hr, mirrorTold_of_none hm']
  unfold raised
  rw [follow_of_none hm']
  dsimp only
  rw [hzone, if_pos (show (switching r (s.zone z).causes.stop (s.zone z)).ramp = 0 from hr)]
  unfold reachZero
  dsimp only
  rw [if_neg (fun h => by rw [hm'] at h; cases h.2), hzone]
  rfl

/-- A switch asked for above the ramp's foot (R121): the ring holds no cue record and fetches the current range. -/
theorem playRange_above (hsrc : (s.zone z).source = .deck d) (hst : (s.zone z).state ≠ .stopped) (hr : (s.zone z).ramp ≠ 0)
    (hm : mirroring s = false) (hp : (s.deck d).ring.phase = .current) (hc : (s.deck d).ring.cueRecords = []) (r : PlayRange) :
    playRange z r s = awaitFlush d (onRing d (fun q => { q with cueCopy := none })
      (onZone z (fun n => { switching r false n with cue := none }) s)) := by
  have hm' : mirroring (awaitFlush d (onRing d (fun q => { q with cueCopy := none })
      (onZone z (fun n => { switching r false n with cue := none }) s))) = false := by
    unfold awaitFlush
    exact (mirroring_onDeck d _ _).trans ((mirroring_onDeck d _ _).trans (unmirrored_onZone hm fun _ => rfl))
  rw [playRange_of_active (deck?_of_source hsrc) hst, if_neg hr, onZone_onZone,
    cueRing_current (by rw [onZone_deck]; exact hp) (by rw [onZone_deck]; exact hc), mirrorTold_of_none hm', raised_above hm']
  rw [awaitFlush_zone, onRing_zone, onZone_same]
  exact hr

/-- The switch's state begins its range like the state before it. -/
theorem beginsLike_switching (r : PlayRange) (stop : Bool) : BeginsLike z d s (awaitFlush d (onZone z (switching r stop) s)) where
  zone r' cue := by rw [awaitFlush_zone, onZone_same]; rfl
  deck r' cue := by
    have hdeck : (awaitFlush d (onZone z (switching r stop) s)).deck d = { s.deck d with plan := { (s.deck d).plan with flushAwaited := true } } := by
      unfold awaitFlush; rw [onPlan_same, onZone_deck]
    rw [hdeck]; rfl
  deckKept := by rw [awaitFlush_other, onZone_deck]
  zoneKept := by rw [awaitFlush_zone, onZone_other]
  port := by rw [awaitFlush_port, onZone_port]
  tray := by rw [awaitFlush_tray, onZone_tray]
  part := by unfold awaitFlush; simp [SamePart]

/-- An accepted PLAY begins its range (R121, R122). -/
theorem playRange_begins (hsrc : (s.zone z).source = .deck d) (hother : (s.zone (otherZone z)).source ≠ .deck d)
    (hz : (s.zone z).state = .stopped ∨ ((s.zone z).ramp = 0 ∧ s.zone2.source ≠ .mirror)) (hl : (s.deck d).link.startable)
    (hc : (s.deck d).ring.cap ≠ 0) (r : PlayRange) :
    RangeBegun z d r none s (playRange z r s) ∧ (playRange z r s).tray.table = s.tray.table := by
  by_cases hst : (s.zone z).state = .stopped
  · rw [playRange_of_stopped (deck?_of_source hsrc) hst]
    obtain ⟨hb, ht⟩ := rangeBegun r none hsrc hother hl hc
    exact ⟨hb, by rw [ht, setNote_table]⟩
  · obtain ⟨hr, hm⟩ := hz.resolve_left hst
    have hlike := beginsLike_switching (z := z) (d := d) (s := s) r (s.zone z).causes.stop
    have hdeck : (awaitFlush d (onZone z (switching r (s.zone z).causes.stop) s)).deck d =
        { s.deck d with plan := { (s.deck d).plan with flushAwaited := true } } := by unfold awaitFlush; rw [onPlan_same, onZone_deck]
    rw [playRange_atZero hsrc hst hr (mirroring_of_ne hm)]
    obtain ⟨hb, ht⟩ := rangeBegun (s := awaitFlush d (onZone z (switching r (s.zone z).causes.stop) s)) r none
      (by rw [awaitFlush_zone, onZone_same]; exact hsrc) (by rw [awaitFlush_zone, onZone_other]; exact hother)
      (by rw [hdeck]; exact hl) (by rw [hdeck]; exact hc)
    refine ⟨rangeBegun_like hlike hb, ?_⟩
    rw [ht, setNote_table, awaitFlush_tray, onZone_tray]

theorem stoppedAt_emptied (z : ZoneId) (d : Deck) (u : State) : ((stoppedAt z d u).deck d).emptied := by
  unfold stoppedAt
  rw [(told_follow z _).deck]
  exact flush_emptied d _

/-- A deck on which no run can start does not move (R22). -/
theorem notRunnable_still {l : Link} (h : l.state.runnable = false) : l.state ∉ [.seeking, .streaming, .stalled] := fun hm => by
  simp only [List.mem_cons, List.not_mem_nil, or_false] at hm
  rcases hm with hm | hm | hm <;> rw [hm] at h <;> cases h

theorem priming_link (hzo : zoneOf d s = some z) (hstill : (s.deck d).link.state ∉ [.seeking, .streaming, .stalled]) (r : PlayRange) :
    ((priming z d r s).deck d).link = (s.deck d).link := by
  rw [show (priming z d r s).deck d = withCue none (flushedUnit (s.deck d)) from (primed_cued r none hzo).deck]
  exact releasedLink_still hstill

/-- PLAY_START refused: the zone passes through PRIMING and is STOPPED (R122). -/
theorem beginRange_refused (hzo : zoneOf d s = some z) (hm : mirroring s = false) (hl : (s.deck d).link.state.runnable = false)
    (r : PlayRange) :
    beginRange z r none s = stoppedAt z d (onZone z (fun n => { n with stopReason := .startRefused }) (priming z d r s)) := by
  have hp := primed_cued r none hzo
  have hlink := priming_link hzo (notRunnable_still hl) r
  have hmw : mirroring (onZone z (fun n => { n with stopReason := .startRefused }) (priming z d r s)) = false :=
    unmirrored_onZone ((mirroring_of_sources hp.source).trans hm) fun _ => rfl
  have hsrc : ((priming z d r s).zone z).source = .deck d := (hp.source z).trans (zoneOf_source d s z hzo)
  rw [beginRange_of_deck (deck?_of_source (zoneOf_source d s z hzo))]
  change started z d r (priming z d r s) = _
  unfold started
  rw [playStart_refused r (by rw [hlink]; exact hl)]
  change startRefused z (priming z d r s) = _
  unfold startRefused
  dsimp only
  generalize hu : onZone z (fun n => { n with stopReason := .startRefused }) (priming z d r s) = u at hmw
  have huz : u.zone z = { (priming z d r s).zone z with stopReason := .startRefused } := by subst hu; exact onZone_same ..
  have hnote : takeNote z .startRefused u = u := by unfold takeNote; exact if_neg (by decide)
  have hstop : enterStopped z u = stoppedAt z d u := by
    unfold enterStopped stoppedAt
    dsimp only
    rw [deck?_of_source (by rw [huz]; exact hsrc), huz, hnote]
  cases z with
  | one =>
    dsimp only
    rw [mirrorStop_of_none hmw]
    exact hstop
  | two => exact hstop

/-- What a refused PLAY_START leaves (R122). -/
theorem startRefused_fields (hzo : zoneOf d s = some z) (hm : mirroring s = false) (hl : (s.deck d).link.state.runnable = false)
    (r : PlayRange) :
    let t := beginRange z r none s
    t.zone z = { (s.zone z).ended .startRefused with tag := false } ∧ t.zone (otherZone z) = s.zone (otherZone z) ∧
      (t.deck d).emptied ∧ t.deck (otherDeck d) = s.deck (otherDeck d) ∧ t.tray = (setNote z none s).tray ∧
      t.port = (raiseNotice (.zone z) (.zoneState .stopped (some .startRefused)) (raiseNotice (.zone z) (.zoneState .priming none) s)).port := by
  dsimp only
  rw [beginRange_refused hzo hm hl r]
  have hp := primed_cued r none hzo
  obtain ⟨halone, hport⟩ := hp.alone (.inr hm)
  have hlink := priming_link hzo (notRunnable_still hl) r
  generalize hu : onZone z (fun n => { n with stopReason := .startRefused }) (priming z d r s) = u
  have huz : u.zone z = { (priming z d r s).zone z with stopReason := .startRefused } := by subst hu; exact onZone_same ..
  have hdeck : ∀ e, u.deck e = (priming z d r s).deck e := fun e => by subst hu; exact onZone_deck ..
  have hsource : ∀ y, (u.zone y).source = (s.zone y).source := fun y => by
    subst hu
    exact (onZone_sources (f := fun n => { n with stopReason := .startRefused }) rfl y).trans (hp.source y)
  have hmade := ZoneMade.stoppedAt (z := z) (d := d) (s := u) ((zoneOf_congr hsource d).trans hzo) (by rw [hdeck, hlink]; exact notRunnable_still hl)
  obtain ⟨hquiet, hqport⟩ := hmade.quiet ((mirroring_of_sources hsource).trans hm)
  have hzone : (priming z d r s).zone z = primedZone r none (s.zone z) := hp.zone
  refine ⟨?_, ?_, ?_, ?_, ?_, ?_⟩
  · rw [hmade.zone, huz, hzone]; rfl
  · rw [hquiet]; subst hu; rw [onZone_other]; exact halone
  · exact stoppedAt_emptied z d u
  · rw [hmade.other, hdeck]; exact hp.other
  · rw [hmade.tray]; subst hu; rw [onZone_tray]; exact hp.tray
  · rw [hqport, huz]
    refine raiseNotice_port_congr _ _ ?_
    subst hu; rw [onZone_port]; exact hport

end

/-! ## RESUME (R179, R180) -/

theorem exec_resume (z : ZoneId) (s : State) (hs : Awake s) :
    exec (.resume (zoneByte z)) s = .next (settle (resumeAnswer (zoneByte z) s)) := exec_awake rfl hs

/-- The record of a fingerprint is the first that carries it (R178). -/
theorem findRecord_some {s : State} {f : BitVec 32} {before after : List ResumeRecord} {q : ResumeRecord}
    (ht : s.tray.table = before ++ q :: after) (hb : ∀ p ∈ before, p.fingerprint ≠ f) (hq : q.fingerprint = f) :
    findRecord f s = some q := by
  unfold findRecord
  rw [ht, List.find?_append, List.find?_eq_none.2 (fun p hp => by simpa using hb p hp)]
  simp [hq]

theorem findRecord_none {s : State} {f : BitVec 32} (h : ∀ r ∈ s.tray.table, r.fingerprint ≠ f) : findRecord f s = none :=
  List.find?_eq_none.2 fun r hr => by simpa using h r hr

section
variable {z : ZoneId} {d : Deck} {s : State}

theorem resumeAnswer_closed (h : (s.zone z).deck? = none ∨ (s.zone z).state ≠ .stopped) :
    resumeAnswer (zoneByte z) s = (s, refusal .badState) := by
  unfold resumeAnswer
  rw [zoneArg_zoneByte]
  dsimp only
  cases hd : (s.zone z).deck? with
  | none => rfl
  | some d => exact if_pos (h.resolve_left (by rw [hd]; simp))

theorem resumeAnswer_busy (hsrc : (s.zone z).source = .deck d) (hst : (s.zone z).state = .stopped) (h : deckBusy d s = true) :
    resumeAnswer (zoneByte z) s = (s, refusal .busy) := by
  unfold resumeAnswer
  rw [zoneArg_zoneByte]
  dsimp only
  rw [deck?_of_source hsrc]
  dsimp only
  rw [if_neg (fun hn => hn hst), if_pos h]

theorem resumeAnswer_noDisc (hsrc : (s.zone z).source = .deck d) (hst : (s.zone z).state = .stopped) (h : deckBusy d s = false)
    (hu : (s.deck d).link.usable = none) : resumeAnswer (zoneByte z) s = (s, refusal .noDisc) := by
  unfold resumeAnswer
  rw [zoneArg_zoneByte]
  dsimp only
  rw [deck?_of_source hsrc]
  dsimp only
  rw [if_neg (fun hn => hn hst), if_neg (by simp [h]), hu]

theorem resumeAnswer_noRecord {c : Catalogue} (hsrc : (s.zone z).source = .deck d) (hst : (s.zone z).state = .stopped)
    (h : deckBusy d s = false) (hu : (s.deck d).link.usable = some c) (hr : findRecord c.fingerprint s = none) :
    resumeAnswer (zoneByte z) s = (s, refusal .badArg) := by
  unfold resumeAnswer
  rw [zoneArg_zoneByte]
  dsimp only
  rw [deck?_of_source hsrc]
  dsimp only
  rw [if_neg (fun hn => hn hst), if_neg (by simp [h]), hu]
  dsimp only
  rw [hr]

/-- RESUME with a record found, by the two range checks (R179, R180). -/
theorem resumeAnswer_found {c : Catalogue} {q : ResumeRecord} (hsrc : (s.zone z).source = .deck d) (hst : (s.zone z).state = .stopped)
    (h : deckBusy d s = false) (hu : (s.deck d).link.usable = some c) (hr : findRecord c.fingerprint s = some q) :
    (∀ code, resumeRange q (some c) s = .refused code → resumeAnswer (zoneByte z) s = (s, refusal code)) ∧
      ∀ r adjusted, resumeRange q (some c) s = .accepted r adjusted →
        (∀ code, resumeCue q (some c) = some (.refused code) → resumeAnswer (zoneByte z) s = (s, refusal code)) ∧
          ((∀ code, resumeCue q (some c) ≠ some (.refused code)) →
            resumeAnswer (zoneByte z) s = (beginResume z q (some c) r s, ok (be3 r.first ++ rangeData r adjusted))) := by
  unfold resumeAnswer
  rw [zoneArg_zoneByte]
  dsimp only
  rw [deck?_of_source hsrc]
  dsimp only
  rw [if_neg (fun hn => hn hst), if_neg (by simp [h]), hu]
  dsimp only
  rw [hr]
  dsimp only
  refine ⟨fun code hc => by rw [hc], fun r adjusted hc => ⟨fun code hcue => by rw [hc, hcue], fun hcue => ?_⟩⟩
  rw [hc]
  cases hq : resumeCue q (some c) with
  | none => rfl
  | some a =>
    cases a with
    | refused code => exact absurd hq (hcue code)
    | accepted m b => rfl

/-- A record's resume begins its range with its cue, if it has one that is accepted (R179). -/
theorem beginResume_begins {q : ResumeRecord} {c : Option Catalogue} {cue : Option PlayRange} (hsrc : (s.zone z).source = .deck d)
    (hother : (s.zone (otherZone z)).source ≠ .deck d) (hl : (s.deck d).link.startable) (hc : (s.deck d).ring.cap ≠ 0) (r : PlayRange)
    (hcue : (∃ m b, resumeCue q c = some (.accepted m b) ∧ cue = some m) ∨
      ((∀ m b, resumeCue q c ≠ some (.accepted m b)) ∧ cue = none)) :
    RangeBegun z d r cue s (beginResume z q c r s) ∧
      (beginResume z q c r s).tray.table = s.tray.table.filter (fun p => p.fingerprint != q.fingerprint) := by
  have hlike : BeginsLike z d s (dropRecord q.fingerprint s) :=
    ⟨fun _ _ => by cases z <;> rfl, fun _ _ => by cases d <;> rfl, by cases d <;> rfl, by cases z <;> rfl, rfl, rfl, ⟨rfl, rfl, rfl, rfl, rfl⟩⟩
  have hzone : ∀ y, (dropRecord q.fingerprint s).zone y = s.zone y := fun y => by cases y <;> rfl
  have hdeck : (dropRecord q.fingerprint s).deck d = s.deck d := by cases d <;> rfl
  obtain ⟨hb, ht⟩ := rangeBegun (s := dropRecord q.fingerprint s) r none (by rw [hzone]; exact hsrc) (by rw [hzone]; exact hother)
    (by rw [hdeck]; exact hl) (by rw [hdeck]; exact hc)
  have hbegun := rangeBegun_like hlike hb
  have htable : (beginRange z r none (dropRecord q.fingerprint s)).tray.table =
      s.tray.table.filter (fun p => p.fingerprint != q.fingerprint) := by rw [ht, setNote_table]; rfl
  rcases hcue with ⟨m, b, hq, rfl⟩ | ⟨hno, rfl⟩
  · have heq : beginResume z q c r s = cueRange z (some m) (beginRange z r none (dropRecord q.fingerprint s)) := by
      unfold beginResume
      dsimp only
      rw [hq]
      dsimp only
      rw [if_neg (by rw [hbegun.theZone]; exact ZoneState.noConfusion)]
    rw [heq]
    obtain ⟨hcued, htray⟩ := rangeBegun_cue hbegun hsrc m
    exact ⟨hcued, by rw [htray, htable]⟩
  · have heq : beginResume z q c r s = beginRange z r none (dropRecord q.fingerprint s) := by
      unfold beginResume
      dsimp only
      split
      · next m b hq => exact absurd hq (hno m b)
      · rfl
      · rfl
    rw [heq]
    exact ⟨hbegun, htable⟩

end

/-- The cue of a record, as the range check answers it (R179). -/
theorem resumeCue_cases {q : ResumeRecord} {c : Option Catalogue} :
    (q.cue = none → resumeCue q c = none) ∧ ∀ p, q.cue = some p → resumeCue q c = some (rangeCheck c p.first p.last) := by
  unfold resumeCue
  exact ⟨fun h => by rw [h]; rfl, fun p h => by rw [h]; rfl⟩

/-- Settles O41: PLAY by its gates and the zone's state, RESUME by its gates and the record. -/
theorem playAndResumeBeginARange : Obligations.PlayAndResumeBeginARange := by
  refine ⟨fun z first last s hs => ⟨fun hd => ?_, fun d hsrc => ⟨fun hbusy => ?_, fun hfree => ⟨fun code hc => ?_, fun r adjusted hacc hother => ?_⟩⟩⟩,
    fun z s hs => ⟨fun h => ?_, fun d hsrc hst => ⟨fun hbusy => ?_, fun hfree => ⟨fun hu => ?_, fun c hdisc => ⟨fun hno => ?_, fun before q after ht hb hq => ?_⟩⟩⟩⟩⟩
  · rw [exec_play z first last s hs, playAnswer_idle hd]; rfl
  · rw [exec_play z first last s hs, playAnswer_busy hsrc hbusy]; rfl
  · rw [exec_play z first last s hs, (playAnswer_open hsrc hfree).1 code hc]; rfl
  · have hexec : exec (.play (zoneByte z) first last) s = .next (replied .ok (be3 r.last ++ [byte adjusted.toNat]) (playRange z r s)) := by
      rw [exec_play z first last s hs, (playAnswer_open hsrc hfree).2 r adjusted hacc, ← rangeData_eq]; rfl
    refine ⟨fun hz hl hcap => ?_, fun hst hr hm hp hcue => ?_, fun hst hm hrun => ?_⟩
    · obtain ⟨hbegun, htable⟩ := playRange_begins hsrc hother hz hl hcap r
      exact ⟨_, hexec, rfl, htable, rangeBegun_replied hbegun _ _⟩
    · rw [hexec, playRange_above hsrc hst (by omega) (mirroring_of_ne hm) hp hcue r]
      rfl
    · have hzo := zoneOf_of_only hsrc hother
      obtain ⟨h1, h2, h3, h4, h5, h6⟩ := startRefused_fields hzo (mirroring_of_ne hm) hrun r
      rw [← playRange_of_stopped (deck?_of_source hsrc) hst r] at h1 h2 h3 h4 h5 h6
      refine ⟨_, hexec, rfl, ?_, ?_, ?_, ?_, h5, ?_, ?_⟩
      · rw [replied_zone]; exact h1
      · rw [replied_zone]; exact h2
      · rw [replied_deck]; exact h3
      · rw [replied_deck]; exact h4
      · exact (kept_playRange (D := anyDeck) z r s (plays_any _ _)).part
      · show (playRange z r s).port.queue = _
        rw [h6]
  · rw [exec_resume z s hs, resumeAnswer_closed h]; rfl
  · rw [exec_resume z s hs, resumeAnswer_busy hsrc hst hbusy]; rfl
  · rw [exec_resume z s hs, resumeAnswer_noDisc hsrc hst hfree hu]; rfl
  · have hu := (usable_eq_some (s.deck d).link c).2 hdisc
    rw [exec_resume z s hs, resumeAnswer_noRecord hsrc hst hfree hu (findRecord_none hno)]; rfl
  · have hu := (usable_eq_some (s.deck d).link c).2 hdisc
    obtain ⟨hrefused, haccepted⟩ := resumeAnswer_found hsrc hst hfree hu (findRecord_some ht hb hq)
    refine ⟨fun code hc => ?_, fun r adjusted hacc => ⟨fun p code hp hc => ?_, fun cue hcue hother hl hcap => ?_⟩⟩
    · rw [exec_resume z s hs, hrefused code hc]; rfl
    · rw [exec_resume z s hs, (haccepted r adjusted hacc).1 code (by rw [resumeCue_cases.2 p hp, hc])]; rfl
    · have hkind : (∀ code, resumeCue q (some c) ≠ some (.refused code)) ∧
          ((∃ m b, resumeCue q (some c) = some (.accepted m b) ∧ cue = some m) ∨
            ((∀ m b, resumeCue q (some c) ≠ some (.accepted m b)) ∧ cue = none)) := by
        rcases hcue with ⟨hnone, rfl⟩ | ⟨p, m, b, hp, hok, rfl⟩
        · rw [resumeCue_cases.1 hnone]
          exact ⟨fun _ => nofun, .inr ⟨fun _ _ => nofun, rfl⟩⟩
        · rw [resumeCue_cases.2 p hp, hok]
          exact ⟨fun _ => nofun, .inl ⟨m, b, rfl, rfl⟩⟩
      obtain ⟨hbegun, htable⟩ := beginResume_begins hsrc hother hl hcap r hkind.2
      refine ⟨replied .ok (be3 r.first ++ rangeData r adjusted) (beginResume z q (some c) r s), ?_, ?_, ?_, rangeBegun_replied hbegun _ _⟩
      · rw [exec_resume z s hs, (haccepted r adjusted hacc).2 hkind.1]; rfl
      · rw [rangeData_eq, ← List.append_assoc]; rfl
      · rw [← hq]; exact htable

end Sys2Proof.Proofs
end


section
/-!
PROOFS. INDEX (R6, R7, R29) and the search of the resume table (R178, R179).
-/

namespace Sys2Proof.Proofs

open Sys2Proof.Machine

/-! ## Valid reports (R6) -/

theorem ascending_iff (l : List Nat) : ascending l = true ↔ l.Pairwise (· < ·) := by
  refine ⟨pairwise_of_ascending l, fun h => ?_⟩
  induction l with
  | nil => rfl
  | cons x rest ih =>
    cases rest with
    | nil => rfl
    | cons y rest =>
      obtain ⟨hx, hrest⟩ := List.pairwise_cons.1 h
      simp [ascending, hx y List.mem_cons_self, ih hrest]

/-- The one entry of a report is DATA exactly where the last check refuses it (R6). -/
theorem loneData_iff {n : Nat} {entries : List TrackField} (h : entries.length = n) :
    (!(n == 1 && entries.all (fun e => e.kind == 1))) = true ↔ ∀ e, entries = [e] → e.kind ≠ 1#8 := by
  subst h
  constructor
  · rintro h e rfl hk
    simp [hk] at h
  · intro h
    match entries, h with
    | [], _ => rfl
    | [e], h => simpa using h e rfl
    | _ :: _ :: _, _ => simp

theorem kind_le_one (k : Byte) : k.toNat ≤ 1 ↔ k = 0#8 ∨ k = 1#8 := by bv_omega

/-- The eight checks of a report (R6). -/
theorem validIndex_iff (count : Byte) (leadOut : BitVec 24) (entries : List TrackField) (ragged : Bool) :
    validIndex count leadOut entries ragged = true ↔
      (count.toNat ≠ 0 ∧ count.toNat ≤ 99) ∧ (entries.length = count.toNat ∧ ragged = false) ∧
        ((∀ e ∈ entries, e.number.toNat ≠ 0 ∧ e.number.toNat ≤ 99) ∧
          entries.Pairwise (fun e f => e.number.toNat < f.number.toNat)) ∧
        (∀ e ∈ entries, e.kind = 0#8 ∨ e.kind = 1#8) ∧ entries.Pairwise (fun e f => e.start.toNat < f.start.toNat) ∧
        (∀ e ∈ entries, e.start.toNat < leadOut.toNat) ∧ leadOut.toNat ≤ 450000 ∧
        ∀ e, entries = [e] → e.kind ≠ 1#8 := by
  have hnumbers : ascending (entries.map fun e => e.number.toNat) = true ↔ entries.Pairwise (fun e f => e.number.toNat < f.number.toNat) := by
    rw [ascending_iff, List.pairwise_map]
  have hstarts : ascending (entries.map fun e => e.start.toNat) = true ↔ entries.Pairwise (fun e f => e.start.toNat < f.start.toNat) := by
    rw [ascending_iff, List.pairwise_map]
  unfold validIndex
  simp only [Bool.and_eq_true, decide_eq_true_eq, List.all_eq_true, hnumbers, hstarts, kind_le_one, Bool.not_eq_true', Nat.one_le_iff_ne_zero]
  constructor
  · rintro ⟨⟨⟨⟨⟨⟨⟨⟨⟨h1, h2⟩, h3⟩, h4⟩, h5⟩, h6⟩, h7⟩, h8⟩, h9⟩, h10⟩
    exact ⟨h1, ⟨h2, h3⟩, ⟨h4, h5⟩, h6, h7, h8, h9, (loneData_iff h2).1 (by rw [h10]; rfl)⟩
  · rintro ⟨h1, ⟨h2, h3⟩, ⟨h4, h5⟩, h6, h7, h8, h9, h10⟩
    exact ⟨⟨⟨⟨⟨⟨⟨⟨⟨h1, h2⟩, h3⟩, h4⟩, h5⟩, h6⟩, h7⟩, h8⟩, h9⟩, by rw [← Bool.not_eq_true']; exact (loneData_iff h2).2 h10⟩

theorem catalogueOf_eq (leadOut : BitVec 24) (entries : List TrackField) :
    catalogueOf leadOut entries =
      { entries := entries.map fun e => { number := e.number.toNat, start := e.start.toNat, data := e.kind == 1#8 }
        leadOut := leadOut.toNat
        fingerprint := fingerprint leadOut.toNat (entries.map fun e => e.start.toNat) } := by
  have hdata : ∀ k : Byte, (k.toNat == 1) = (k == 1#8) := fun k => by
    rw [Bool.eq_iff_iff, beq_iff_eq, beq_iff_eq]; bv_omega
  unfold catalogueOf
  simp only [hdata]

/-! ## INDEX (R29) -/

/-- The state in which the search is asked for: the deck READY with its disc identified (R7, R29). -/
def identified (d : Deck) (c : Catalogue) (s : State) : State :=
  raiseNotice (.deck d) (.discIdentified c.fingerprint)
    (onLink d (fun l => { l with outstanding := none, state := .ready, disc := .usable c }) s)

section
variable {d : Deck} {o : Outstanding} {s : State} {count : Byte} {leadOut : BitVec 24} {entries : List TrackField} {ragged : Bool}
  (ho : (s.deck d).link.outstanding = some o) (hc : o.command = .readIndex) (hw : (s.deck d).link.waiting = none)
include ho hc hw

theorem indexReport_valid (hv : validIndex count leadOut entries ragged = true) :
    indexReport d o.tag count leadOut entries ragged s = searchResume d (identified d (catalogueOf leadOut entries) s) := by
  unfold indexReport
  rw [current_of_outstanding _ _ ho]
  dsimp only
  rw [hc]
  dsimp only
  rw [if_pos hv]
  unfold clearOutstanding
  rw [onLink_onLink, sendWaiting_none]
  · rfl
  · rw [raiseNotice_deck, onLink_same]; exact hw

theorem indexReport_invalid (hv : validIndex count leadOut entries ragged = false) :
    indexReport d o.tag count leadOut entries ragged s = raiseNotice (.deck d) (.deckState .noDisc (some .unreadable) none none)
      (onLink d (fun l => { l with outstanding := none, state := .noDisc, cause := .noDisc .unreadable }) (discardDisc d s)) := by
  unfold indexReport
  rw [current_of_outstanding _ _ ho]
  dsimp only
  rw [hc]
  dsimp only
  rw [if_neg (by simp [hv])]
  exact fetchEnds_eq .unreadable hw

end

theorem identified_deck (d : Deck) (c : Catalogue) (s : State) :
    (identified d c s).deck d =
      { s.deck d with link := { (s.deck d).link with outstanding := none, state := .ready, disc := .usable c } } := by
  unfold identified
  rw [raiseNotice_deck, onLink_same]

@[simp] theorem identified_zone (d : Deck) (c : Catalogue) (s : State) (z : ZoneId) : (identified d c s).zone z = s.zone z := by
  unfold identified; rw [raiseNotice_zone, onLink_zone]

@[simp] theorem identified_tray (d : Deck) (c : Catalogue) (s : State) : (identified d c s).tray = s.tray := by
  unfold identified; rw [raiseNotice_tray, onLink_tray]

/-! ## The search (R178) -/

theorem searchResume_opened {d : Deck} {s : State} (h : (s.side d).level = .opened) : searchResume d s = s := by
  unfold searchResume
  split
  · rfl
  · exact if_pos h

theorem searchResume_unknown {d : Deck} {s : State} {c : Catalogue} (hu : (s.deck d).link.usable = some c)
    (hr : findRecord c.fingerprint s = none) : searchResume d s = s := by
  unfold searchResume
  rw [hu]
  dsimp only
  split
  · rfl
  · rw [hr]

/-- The records with the deck last seen of one of them (R178). -/
def seenTable (d : Deck) (f : BitVec 32) (table : List ResumeRecord) : List ResumeRecord :=
  table.map fun q => if q.fingerprint = f then { q with deck := d } else q

theorem filter_seenTable (d : Deck) (f : BitVec 32) (table : List ResumeRecord) :
    (seenTable d f table).filter (fun q => q.fingerprint != f) = table.filter (fun q => q.fingerprint != f) := by
  induction table with
  | nil => rfl
  | cons q rest ih =>
    have hseen : seenTable d f (q :: rest) = (if q.fingerprint = f then { q with deck := d } else q) :: seenTable d f rest := rfl
    rw [hseen]
    by_cases hq : q.fingerprint = f
    · rw [if_pos hq, List.filter_cons_of_neg (by simp [hq]), List.filter_cons_of_neg (by simp [hq]), ih]
    · rw [if_neg hq, List.filter_cons_of_pos (by simp [hq]), List.filter_cons_of_pos (by simp [hq]), ih]

theorem beginsLike_seenOn (z : ZoneId) (d : Deck) (r : ResumeRecord) (s : State) : BeginsLike z d s (seenOn d r s) :=
  ⟨fun _ _ => by cases z <;> rfl, fun _ _ => by cases d <;> rfl, by cases d <;> rfl, by cases z <;> rfl, rfl, rfl, ⟨rfl, rfl, rfl, rfl, rfl⟩⟩

/-- A record found on a zone that cannot take it is announced (R178). -/
theorem foundRecord_announced {d : Deck} {c : Catalogue} {r : ResumeRecord} {s : State}
    (h : s.standby.phase ≠ .awake ∨ (s.zone r.zone).source ≠ .deck d ∨ s.tray.autoResume = false ∨ (s.zone r.zone).state ≠ .stopped) :
    foundRecord d c r s = raiseNotice (.deck d) (.resumeMatch r.zone r.position r.fingerprint) s := by
  unfold foundRecord
  refine if_pos (h.imp_left fun hs => ?_)
  simpa [inStandby] using hs

/-- A record found on a zone that can take it (R178, R179). -/
theorem foundRecord_resumes {d : Deck} {c : Catalogue} {r : ResumeRecord} {s : State} (hph : s.standby.phase = .awake)
    (hsrc : (s.zone r.zone).source = .deck d) (ha : s.tray.autoResume = true) (hst : (s.zone r.zone).state = .stopped) :
    (∀ code, resumeRange r (some c) s = .refused code →
        foundRecord d c r s = raiseNotice (.deck d) (.resumeMatch r.zone r.position r.fingerprint) s) ∧
      ∀ range adjusted, resumeRange r (some c) s = .accepted range adjusted →
        foundRecord d c r s = beginResume r.zone r (some c) range s := by
  have hopen : ¬ (inStandby s = true ∨ (s.zone r.zone).source ≠ .deck d ∨ s.tray.autoResume = false ∨ (s.zone r.zone).state ≠ .stopped) := by
    rintro (h | h | h | h)
    · simp [inStandby, hph] at h
    · exact h hsrc
    · rw [ha] at h; cases h
    · exact h hst
  unfold foundRecord
  rw [if_neg hopen]
  exact ⟨fun code h => by rw [h], fun range adjusted h => by rw [h]⟩

/-- Settles O50: the checks of R6, then the search by the level and the record found. -/
theorem indexBuildsTheCatalogue : Obligations.IndexBuildsTheCatalogue := by
  refine ⟨validIndex_iff, ?_⟩
  intro d o count leadOut entries ragged s hs ho hc hw f c
  have hcat : catalogueOf leadOut entries = c := catalogueOf_eq leadOut entries
  have hvalid (hv : validIndex count leadOut entries ragged = true) :
      exec (.index d o.tag count leadOut entries ragged) s = .next (searchResume d (identified d c s)) := by
    rw [exec_taggedReport (i := .index d o.tag count leadOut entries ragged) rfl hs]
    exact congrArg _ (hcat ▸ indexReport_valid ho hc hw hv)
  have husable : ((identified d c s).deck d).link.usable = some c := by rw [identified_deck]; rfl
  have htable : (identified d c s).tray.table = s.tray.table := by rw [identified_tray]
  refine ⟨fun hv hno => ?_, ?_, fun hv => ?_⟩
  · rw [hvalid hv, searchResume_unknown husable (findRecord_none fun r hr => hno r (htable ▸ hr))]
    rfl
  · intro hv before r after ht hb hr known seen found
    refine ⟨fun hl => ?_, fun hl => ?_⟩
    · have hlevel : ((identified d c s).side d).level = .opened := by rw [side_of_tray (identified_tray d c s)]; exact hl
      rw [hvalid hv, searchResume_opened hlevel]
      rfl
    · have hlevel : ((identified d c s).side d).level ≠ .opened := by
        rw [side_of_tray (identified_tray d c s), hl]; exact Level.noConfusion
      have hfind : findRecord c.fingerprint (identified d c s) = some r := findRecord_some (htable.trans ht) hb hr
      have hseen : seenOn d r (identified d c s) = { known with tray := { known.tray with table := s.tray.table.map seen } } := by
        unfold seenOn
        rw [htable, hr]
        rfl
      have hexec := hvalid hv
      rw [searchResume_found husable hlevel hfind] at hexec
      have hzone : ∀ y, (seenOn d r (identified d c s)).zone y = s.zone y := fun y => (identified_zone d c s y ▸ by cases y <;> rfl)
      have hdeck : (seenOn d r (identified d c s)).deck d = (identified d c s).deck d := by cases d <;> rfl
      have hauto : (seenOn d r (identified d c s)).tray.autoResume = s.tray.autoResume := by
        show (identified d c s).tray.autoResume = _
        rw [identified_tray]
      have hrewind : (seenOn d r (identified d c s)).tray.rewind = s.tray.rewind := by
        show (identified d c s).tray.rewind = _
        rw [identified_tray]
      have hphase : (seenOn d r (identified d c s)).standby = s.standby := by
        show (identified d c s).standby = _
        unfold identified
        rw [raiseNotice_standby, onLink_standby]
      have hannounced : raiseNotice (.deck d) (.resumeMatch r.zone r.position r.fingerprint) (seenOn d r (identified d c s)) = found := by
        rw [hseen, hr]
      refine ⟨fun hclosed => ?_, fun hph hsrc ha hst => ?_⟩
      · rw [hexec, foundRecord_announced (by rw [hphase, hzone, hauto]; exact hclosed), hannounced]
      · obtain ⟨hrefused, haccepted⟩ := foundRecord_resumes (c := c) (s := seenOn d r (identified d c s)) (r := r) (d := d)
          (by rw [hphase]; exact hph) (by rw [hzone]; exact hsrc) (by rw [hauto]; exact ha) (by rw [hzone]; exact hst)
        have hrange : resumeRange r (some c) (seenOn d r (identified d c s)) =
            rangeCheck (some c) (max r.range.first (r.position - s.tray.rewind)) r.range.last := by unfold resumeRange; rw [hrewind]
        refine ⟨fun code hcode => ?_, fun range adjusted cue hacc hcue hother hcap => ?_⟩
        · rw [hexec, hrefused code (hrange.trans hcode), hannounced]
        · have hkind : (∃ m b, resumeCue r (some c) = some (.accepted m b) ∧ cue = some m) ∨
              ((∀ m b, resumeCue r (some c) ≠ some (.accepted m b)) ∧ cue = none) := by
            rcases hcue with ⟨hnone, rfl⟩ | ⟨p, hp, ⟨m, b, hok, rfl⟩ | ⟨code, hno, rfl⟩⟩
            · rw [resumeCue_cases.1 hnone]
              exact .inr ⟨fun _ _ => nofun, rfl⟩
            · rw [resumeCue_cases.2 p hp, hok]
              exact .inl ⟨m, b, rfl, rfl⟩
            · rw [resumeCue_cases.2 p hp, hno]
              exact .inr ⟨fun _ _ => nofun, rfl⟩
          have hlink : ((seenOn d r (identified d c s)).deck d).link.startable := by
            rw [hdeck, identified_deck]
            exact ⟨rfl, fun o h => by cases h⟩
          obtain ⟨hbegun, hfiltered⟩ := beginResume_begins (s := seenOn d r (identified d c s)) (by rw [hzone]; exact hsrc)
            (by rw [hzone]; exact hother) hlink (by rw [hdeck, identified_deck]; exact hcap) range hkind
          rw [haccepted range adjusted (hrange.trans hacc)] at hexec
          refine ⟨_, hexec, ?_, ?_⟩
          · rw [hfiltered, hr]
            show (seenTable d r.fingerprint (identified d c s).tray.table).filter _ = _
            rw [htable, hr, filter_seenTable]
          · exact rangeBegun_like (beginsLike_seenOn r.zone d r (identified d c s)) hbegun
  · rw [exec_taggedReport (i := .index d o.tag count leadOut entries ragged) rfl hs]
    exact congrArg _ (indexReport_invalid ho hc hw hv)

end Sys2Proof.Proofs
end


section
/-!
PROOFS. The drawer: a debounced opening and the protect sequence, a closing and its reload (R167, R169, R172, R173).
-/

namespace Sys2Proof.Proofs

open Sys2Proof.Machine

theorem exec_trayDebounce (d : Deck) (s : State) (h : Settled s) : exec (.trayDebounceExpiry d) s = .next (trayDebounced d s) :=
  event_kept (f := trayDebounced d) (D := anyDeck) h (kept_trayDebounced (D := anyDeck) (d := d) trivial s)

/-- The tray of a deck debounced: its line's level taken (R167). -/
def levelTaken (d : Deck) (s : State) : State := onSide d (fun t => { t with timer := none, level := t.line }) s

theorem trayDebounced_stopped {d : Deck} {s : State} (h : (s.side d).timer = none) : trayDebounced d s = s := by
  unfold trayDebounced
  dsimp only
  rw [h]

theorem trayDebounced_opened {d : Deck} {s : State} (h : (s.side d).timer ≠ none) (hl : (s.side d).line = .opened) :
    trayDebounced d s = protect d (levelTaken d s) := by
  unfold trayDebounced
  obtain ⟨n, hn⟩ := Option.ne_none_iff_exists'.1 h
  dsimp only
  rw [hn, hl]
  rfl

theorem trayDebounced_closed {d : Deck} {s : State} (h : (s.side d).timer ≠ none) (hl : (s.side d).line = .closed) :
    trayDebounced d s = closing d (levelTaken d s) := by
  unfold trayDebounced
  obtain ⟨n, hn⟩ := Option.ne_none_iff_exists'.1 h
  dsimp only
  rw [hn, hl]
  rfl

@[simp] theorem levelTaken_deck (d : Deck) (s : State) (e : Deck) : (levelTaken d s).deck e = s.deck e := onSide_deck ..
@[simp] theorem levelTaken_zone (d : Deck) (s : State) (z : ZoneId) : (levelTaken d s).zone z = s.zone z := onSide_zone ..

theorem onSide_onSide (d : Deck) (f g : TraySide → TraySide) (s : State) : onSide d f (onSide d g s) = onSide d (fun t => f (g t)) s := by
  cases d <;> rfl

theorem onSide_congr {d : Deck} {f g : TraySide → TraySide} {s : State} (h : f (s.side d) = g (s.side d)) : onSide d f s = onSide d g s := by
  cases d <;> (unfold onSide; dsimp only [State.side] at h ⊢; rw [h])

/-! ## Opening (R169) -/

/-- A mechanical request on a free link is sent, whoever makes it (R19). -/
theorem mechanical_sent (d : Deck) (c : DeckCommand) (hc : c.isMechanical = true) (who : Requester) (s : State)
    (hf : (s.deck d).link.state ≠ .fault) (ho : (s.deck d).link.outstanding = none) :
    request d { command := c, from_ := who, plan := none } s =
      (raiseNotice (.deck d) (.deckState (movedBy c) none none none) (onLink d (movingLink c) s), .sent) := by
  have hv : (s.deck d).link.valid c = true := by
    cases c
    case fetchDisc | readIndex | stowDisc | park => simpa [Link.valid] using hf
    all_goals cases hc
  rw [request_sent d _ s hf (fun o h => by rw [ho] at h; cases h) hv]
  exact congrArg (·, Placing.sent) (send_mechanical d c hc who s)

theorem stopZoneOf_idle {d : Deck} {s : State} (h : zoneIdle d s = true) (why : StopReason) (fast : Bool) : stopZoneOf d why fast s = s := by
  unfold stopZoneOf
  cases hzo : zoneOf d s with
  | none => rfl
  | some z =>
    unfold zoneIdle at h
    rw [hzo] at h
    exact stopRequest_of_stopped (by simpa using h) why fast

/-- The pending reload withdrawn (R169 step 1). -/
def reloadDropped (d : Deck) (s : State) : State := onSide d (fun t => { t with reload := false }) s

@[simp] theorem reloadDropped_deck (d : Deck) (s : State) (e : Deck) : (reloadDropped d s).deck e = s.deck e := onSide_deck ..
@[simp] theorem reloadDropped_zone (d : Deck) (s : State) (z : ZoneId) : (reloadDropped d s).zone z = s.zone z := onSide_zone ..

/-- The zones of an opened drawer's deck, and a mirror of it, told to stop (R169 step 3, R131). -/
def drawerZones (d : Deck) (s : State) : State :=
  if (zoneOf d s == some .one && mirroring s) = true then stopRequest .two .trayOpen true (stopZoneOf d .trayOpen true s)
  else stopZoneOf d .trayOpen true s

/-- The disc of an opened drawer parked and discarded (R169 steps 4 to 7). -/
def parkedAway (d : Deck) (s : State) : State :=
  raiseNotice (.deck d) (.trayChanged .opened)
    (discardDisc d (flush d (cancelJob d (request d { command := .park .tray, from_ := .tray, plan := none } s).1)))

theorem protect_eq (d : Deck) (s : State) :
    protect d s = parkedAway d (drawerZones d (writeZoneRecord d .tray (reloadDropped d s))) := rfl

theorem drawerZones_idle {d : Deck} {s : State} (hz : zoneIdle d s = true) (hm : s.zone2.source = .mirror → s.zone2.state = .stopped) :
    drawerZones d s = s := by
  unfold drawerZones
  rw [stopZoneOf_idle hz]
  split
  · next h =>
    refine stopRequest_of_stopped (z := .two) (hm ?_) _ _
    simpa [mirroring] using (Bool.and_eq_true_iff.1 h).2
  · rfl

/-- A parking deck flushed and its job cancelled (R79, R106). -/
def emptiedUnit (u : DeckUnit) : DeckUnit := flushedUnit { releasedUnit u with plan := cancelledPlan u.plan }

theorem emptiedUnit_link {u : DeckUnit} (h : u.link.state ∉ [.seeking, .streaming, .stalled]) : (emptiedUnit u).link = u.link := by
  change releasedLink (releasedLink u.link) = u.link
  rw [releasedLink_still h, releasedLink_still h]

theorem parkedAway_idle {d : Deck} {s : State} (hst : (s.deck d).link.state = .ready) (ho : (s.deck d).link.outstanding = none)
    (hrest : ∀ z, zoneOf d s = some z → (s.zone z).atRest) :
    parkedAway d s = raiseNotice (.deck d) (.trayChanged .opened) (discardDisc d (onDeck d emptiedUnit
      (raiseNotice (.deck d) (.deckState .parking none none none) (onLink d (movingLink (.park .tray)) s)))) := by
  unfold parkedAway
  rw [mechanical_sent d (.park .tray) rfl .tray s (by rw [hst]; decide) ho, cancelJob_eq, flush_of_rest, onDeck_onDeck]
  · rfl
  · intro z hzo
    have hzone : ∀ y, (onDeck d (fun u => { releasedUnit u with plan := cancelledPlan u.plan })
        (raiseNotice (.deck d) (.deckState (movedBy (.park .tray)) none none none) (onLink d (movingLink (.park .tray)) s))).zone y =
        s.zone y := fun y => by simp
    rw [hzone]
    rw [zoneOf_congr (fun y => congrArg Zone.source (hzone y)) d] at hzo
    exact hrest z hzo

/-- The protect sequence over an idle READY deck (R169). -/
theorem protect_idle {d : Deck} {s : State} (hst : (s.deck d).link.state = .ready) (ho : (s.deck d).link.outstanding = none)
    (hz : zoneIdle d s = true) (hm : s.zone2.source = .mirror → s.zone2.state = .stopped) (hrest : RestForm s) :
    protect d s = raiseNotice (.deck d) (.trayChanged .opened) (discardDisc d (onDeck d emptiedUnit
      (raiseNotice (.deck d) (.deckState .parking none none none) (onLink d (movingLink (.park .tray)) (reloadDropped d s))))) := by
  have hzone : ∀ y, (reloadDropped d s).zone y = s.zone y := reloadDropped_zone d s
  have hzo : zoneOf d (reloadDropped d s) = zoneOf d s := zoneOf_congr (fun y => congrArg Zone.source (hzone y)) d
  have hidle : zoneIdle d (reloadDropped d s) = true := by
    rw [← hz]
    unfold zoneIdle
    rw [hzo]
    simp only [hzone]
  rw [protect_eq, writeZoneRecord_idle _ (.inl hidle), drawerZones_idle hidle (by
    have := hzone .two
    rw [show (reloadDropped d s).zone2 = s.zone2 from this]
    exact hm)]
  refine parkedAway_idle (by rw [reloadDropped_deck]; exact hst) (by rw [reloadDropped_deck]; exact ho) fun z h => ?_
  rw [hzone]
  exact zone_atRest_of_idle hrest hz z (hzo.symm.trans h)

/-! ## Closing (R172, R173) -/

theorem reloadAllowed_iff (d : Deck) (s : State) :
    reloadAllowed d s = true ↔ s.tray.autoReload = true ∧ (s.deck d).link.lastSlot.isSome = true := by
  unfold reloadAllowed; exact Bool.and_eq_true_iff

theorem closing_kept {d : Deck} {s : State} (h : s.tray.autoReload = false ∨ (s.deck d).link.lastSlot = none) :
    closing d s = raiseNotice (.deck d) (.trayChanged .closed) s := by
  have hno : reloadAllowed d (raiseNotice (.deck d) (.trayChanged .closed) s) = false := by
    unfold reloadAllowed
    rw [raiseNotice_tray, raiseNotice_deck]
    rcases h with h | h <;> simp [h]
  unfold closing
  dsimp only
  rw [hno]
  rfl

/-- A reload on a deck without a disc (R173). -/
theorem closing_reloads {d : Deck} {s : State} {slot : Nat} (hauto : s.tray.autoReload = true)
    (hslot : (s.deck d).link.lastSlot = some slot) (hst : (s.deck d).link.state = .noDisc) (ho : (s.deck d).link.outstanding = none)
    (hw : (s.deck d).link.waiting = none) :
    closing d s = raiseNotice (.deck d) (.deckState .loading none none none)
      (onLink d (movingLink (.fetchDisc slot)) (raiseNotice (.deck d) (.trayChanged .closed) s)) := by
  let t := raiseNotice (.deck d) (.trayChanged .closed) s
  have hdeck : t.deck d = s.deck d := raiseNotice_deck ..
  have hyes : reloadAllowed d t = true := by
    rw [reloadAllowed_iff, hdeck, hslot, show t.tray = s.tray from raiseNotice_tray ..]
    exact ⟨hauto, rfl⟩
  have hfree : (t.deck d).link.parkingForTray = false := by
    unfold Link.parkingForTray
    rw [hdeck, ho, hw]
    rfl
  have hreload : reload d t = raiseNotice (.deck d) (.deckState .loading none none none) (onLink d (movingLink (.fetchDisc slot)) t) := by
    unfold reload
    dsimp only
    rw [hdeck, hst, hslot]
    dsimp only
    rw [mechanical_sent d (.fetchDisc slot) rfl .tray t (by rw [hdeck, hst]; decide) (by rw [hdeck]; exact ho)]
    rfl
  unfold closing
  dsimp only
  rw [show raiseNotice (.deck d) (.trayChanged .closed) s = t from rfl, hyes, hfree]
  exact hreload

/-- Settles O32: an idle drawer parked away, and a closing with and without its reload. -/
theorem drawerOpensAndCloses : Obligations.DrawerOpensAndCloses := by
  refine ⟨fun d s hs => ⟨fun h => ?_, fun h hl hst ho hz hm hrest => ?_⟩, fun d s hs h hl => ?_⟩
  · rw [exec_trayDebounce d s hs, trayDebounced_stopped h]
  · have hexec : exec (.trayDebounceExpiry d) s = .next (protect d (levelTaken d s)) := by
      rw [exec_trayDebounce d s hs, trayDebounced_opened h hl]
    have hpart : SamePart s (protect d (levelTaken d s)) := by
      rw [← trayDebounced_opened h hl]
      exact (kept_trayDebounced (D := anyDeck) (d := d) trivial s).part
    have hidle : zoneIdle d (levelTaken d s) = true := by
      rw [← hz]
      unfold zoneIdle
      rw [zoneOf_congr (fun y => congrArg Zone.source (levelTaken_zone d s y)) d]
      simp only [levelTaken_zone]
    have hmirror : (levelTaken d s).zone2 = s.zone2 := levelTaken_zone d s .two
    have hresting : RestForm (levelTaken d s) := fun z h => by rw [levelTaken_zone] at h ⊢; exact hrest z h
    rw [protect_idle (by rw [levelTaken_deck]; exact hst) (by rw [levelTaken_deck]; exact ho) hidle (by rw [hmirror]; exact hm)
      hresting] at hexec hpart
    have hparking : (emptiedUnit { s.deck d with link := movingLink (.park .tray) (s.deck d).link }).link =
        movingLink (.park .tray) (s.deck d).link := emptiedUnit_link (moving_notMem (c := .park .tray) rfl)
    refine ⟨_, hexec, ?_, ?_, ?_, ?_, hpart, ?_, ?_, ?_, ?_, ?_, ?_, ?_⟩
    · simp [reloadDropped, levelTaken, hl]
    · rw [raiseNotice_deck, discardDisc_same, onDeck_same, raiseNotice_deck, onLink_same, reloadDropped_deck, levelTaken_deck, hparking]
      rfl
    · rw [raiseNotice_deck, discardDisc_same, onDeck_same]
      exact flushedUnit_emptied _
    · simp
    · simp [reloadDropped, levelTaken]
    · simp [reloadDropped, levelTaken]
    · simp [reloadDropped, levelTaken]
    · simp [reloadDropped, levelTaken]
    · cases d <;> simp [reloadDropped, levelTaken, discardDisc, onSide]
    · cases d <;> simp [reloadDropped, levelTaken, discardDisc, onSide]
    · refine congrArg Port.queue (raiseNotice_port_congr _ _ ?_)
      rw [discardDisc_port, onDeck_port]
      exact raiseNotice_port_congr _ _ (by simp [reloadDropped, levelTaken])
  · intro closed
    rw [exec_trayDebounce d s hs, trayDebounced_closed h hl]
    have hclosed : levelTaken d s = closed s :=
      onSide_congr (by rw [hl])
    have htray : (levelTaken d s).tray.autoReload = s.tray.autoReload := by cases d <;> rfl
    have hdeck : (levelTaken d s).deck d = s.deck d := levelTaken_deck ..
    refine ⟨fun hno => ?_, fun slot hauto hslot hst ho hw => ?_⟩
    · rw [closing_kept (by rw [htray, hdeck]; exact hno), hclosed]
    · rw [closing_reloads (htray.trans hauto) (by rw [hdeck]; exact hslot) (by rw [hdeck]; exact hst) (by rw [hdeck]; exact ho)
        (by rw [hdeck]; exact hw), hclosed]
      rfl

end Sys2Proof.Proofs
end


section
/-!
PROOFS. The drawer of a playing zone opens (R169): the record written, the zone told to stop, the disc parked away.
-/

namespace Sys2Proof.Proofs

open Sys2Proof.Machine

/-! ## What a deck does alone -/

/-- The zones, the other deck with its tray, the tray lines and the resume table stand; an emptied deck stays emptied. -/
structure DeckAlone (d : Deck) (s t : State) : Prop where
  other : t.deck (otherDeck d) = s.deck (otherDeck d)
  zone : ∀ z, t.zone z = s.zone z
  table : t.tray.table = s.tray.table
  otherSide : t.side (otherDeck d) = s.side (otherDeck d)
  line : (t.side d).line = (s.side d).line
  emptied : (s.deck d).emptied → (t.deck d).emptied

theorem DeckAlone.refl (d : Deck) (s : State) : DeckAlone d s s := ⟨rfl, fun _ => rfl, rfl, rfl, rfl, id⟩

theorem DeckAlone.trans {d : Deck} {s t w : State} (h : DeckAlone d s t) (g : DeckAlone d t w) : DeckAlone d s w :=
  ⟨g.other.trans h.other, fun z => (g.zone z).trans (h.zone z), g.table.trans h.table, g.otherSide.trans h.otherSide,
    g.line.trans h.line, g.emptied ∘ h.emptied⟩

theorem DeckAlone.onDeck (d : Deck) (f : DeckUnit → DeckUnit) (s : State) (h : (s.deck d).emptied → (f (s.deck d)).emptied) :
    DeckAlone d s (onDeck d f s) :=
  ⟨by simp, fun z => by simp, by simp, by simp, by simp, by rw [onDeck_same]; exact h⟩

theorem DeckAlone.onLink (d : Deck) (f : Link → Link) (s : State) : DeckAlone d s (onLink d f s) := .onDeck d _ s id

theorem DeckAlone.notice (d : Deck) (u : NoticeUnit) (b : NoticeBody) (s : State) : DeckAlone d s (raiseNotice u b s) :=
  ⟨by simp, fun z => by simp, by simp, by simp, by simp, by rw [raiseNotice_deck]; exact id⟩

theorem deckAlone_tellDropped (d : Deck) (r : Request) (s : State) : DeckAlone d s (tellDropped d r s) := by
  unfold tellDropped
  split
  · exact .onDeck d _ s fun ⟨h1, h2, h3, h4, h5, h6, h7, h8, h9, _, h11, h12, h13, h14, h15⟩ =>
      ⟨h1, h2, h3, h4, h5, h6, h7, h8, h9, rfl, h11, h12, h13, h14, h15⟩
  · split
    · exact ⟨by simp, fun z => by simp, by cases d <;> rfl, by simp, by simp, by rw [onSide_deck]; exact id⟩
    · exact .refl d s
  all_goals exact .refl d s

theorem deckAlone_cancelJob (d : Deck) (s : State) : DeckAlone d s (cancelJob d s) := by
  rw [cancelJob_eq]
  exact .onDeck d _ s fun ⟨h1, h2, h3, h4, h5, h6, h7, h8, _, _, _, _, _, _, h15⟩ =>
    ⟨h1, h2, h3, h4, h5, h6, h7, h8, rfl, rfl, rfl, rfl, rfl, rfl, h15⟩

theorem deckAlone_placeWaiting (d : Deck) (r : Request) (s : State) : DeckAlone d s (placeWaiting d r s).1 := by
  have hdrop (q : Request) : DeckAlone d s (tellDropped d q s) := deckAlone_tellDropped d q s
  have hplaced (t : State) : DeckAlone d t (onLink d (fun l => { l with waiting := some r }) t) := .onLink d _ t
  have hdisplaced (w : Request) : DeckAlone d s (displace d w s) := by
    unfold displace
    split
    · exact .notice d _ _ s
    · exact hdrop w
  unfold placeWaiting
  split
  · exact hplaced s
  · split
    · exact (hdisplaced _).trans (hplaced _)
    · exact hdrop r

/-- A mechanical request touches its deck alone (R19, R20). -/
theorem deckAlone_request (d : Deck) (c : DeckCommand) (hc : c.isMechanical = true) (who : Requester) (s : State) :
    DeckAlone d s (request d { command := c, from_ := who, plan := none } s).1 := by
  have hdrop := deckAlone_tellDropped d { command := c, from_ := who, plan := none } s
  have hsend : DeckAlone d s (send d { command := c, from_ := who, plan := none } s) := by
    rw [send_mechanical d c hc who s]
    exact (DeckAlone.onLink d _ s).trans (.notice d _ _ _)
  have hmerged (p : Purpose) : DeckAlone d s (mergePark d p s) := by
    unfold mergePark
    split
    · exact .refl d s
    · exact .onLink d _ s
  unfold request
  dsimp only
  split
  · exact hdrop
  · split
    · split
      · exact hsend
      · exact hdrop
    · split
      · split
        · exact hsend
        · exact hdrop
      · split
        · exact hmerged _
        · exact deckAlone_placeWaiting d _ s

/-! ## The disc parked away (R169 steps 4 to 7) -/

/-- The deck of an opened drawer, the zone that plays from it, and what stands. -/
structure ParkedAway (d : Deck) (s t : State) : Prop where
  disc : (t.deck d).link.disc = .absent
  emptied : (t.deck d).emptied
  other : t.deck (otherDeck d) = s.deck (otherDeck d)
  zone : ∀ z, t.zone z = if zoneOf d s = some z then (s.zone z).unheld else s.zone z
  table : t.tray.table = s.tray.table
  otherSide : t.side (otherDeck d) = s.side (otherDeck d)

theorem parkedAway_fields (d : Deck) (s : State) : ParkedAway d s (parkedAway d s) := by
  unfold parkedAway
  let u := cancelJob d (request d { command := .park .tray, from_ := .tray, plan := none } s).1
  have hu : DeckAlone d s u := (deckAlone_request d (.park .tray) rfl .tray s).trans (deckAlone_cancelJob d _)
  have hzo : zoneOf d u = zoneOf d s := zoneOf_congr (fun y => congrArg Zone.source (hu.zone y)) d
  refine ⟨?_, ?_, ?_, fun z => ?_, ?_, ?_⟩
  · rw [raiseNotice_deck, discardDisc_same]
  · rw [raiseNotice_deck, discardDisc_same, flush_deck]
    exact flushedUnit_emptied _
  · rw [raiseNotice_deck, discardDisc_other, flush_otherDeck]
    exact hu.other
  · rw [raiseNotice_zone, discardDisc_zone, flush_zone]
    change (if zoneOf d u = some z then (u.zone z).unheld else u.zone z) = _
    rw [hzo, hu.zone]
  · rw [raiseNotice_tray, discardDisc_table, flush_tray]
    exact hu.table
  · rw [raiseNotice_side, discardDisc_side, side_of_tray (flush_tray _ _)]
    exact hu.otherSide

/-! ## A playing zone's drawer (R169) -/

theorem drawerZones_falling {z : ZoneId} {d : Deck} {s : State} (hzo : zoneOf d s = some z) (hm : mirroring s = false)
    (hst : (s.zone z).state ≠ .stopped) (hr : (s.zone z).ramp ≠ 0) :
    drawerZones d s = awaitFlush d (onZone z (stopping .trayOpen true) s) := by
  unfold drawerZones
  rw [hm, Bool.and_false, if_neg (by decide)]
  unfold stopZoneOf
  rw [hzo]
  exact stopRequest_above hm (zoneOf_source d s z hzo) hst hr .trayOpen true

theorem protect_falling {z : ZoneId} {d : Deck} {s : State} {c : Catalogue} {saved : ResumeRecord} (hzo : zoneOf d s = some z)
    (hm : mirroring s = false) (hst : (s.zone z).state ≠ .stopped) (hr : (s.zone z).ramp ≠ 0) (hc : (s.deck d).link.usable = some c)
    (hrec : zoneRecord z d c .tray (s.zone z) = some saved) :
    protect d s = parkedAway d (awaitFlush d (onZone z (stopping .trayOpen true) (writeRecord saved (reloadDropped d s)))) := by
  let a := writeRecord saved (reloadDropped d s)
  have hzone : ∀ y, (reloadDropped d s).zone y = s.zone y := reloadDropped_zone d s
  have hazone : ∀ y, a.zone y = s.zone y := fun y => by rw [← hzone]; cases y <;> rfl
  have hrecord : writeZoneRecord d .tray (reloadDropped d s) = a :=
    writeZoneRecord_active .tray ((zoneOf_congr (fun y => congrArg Zone.source (hzone y)) d).trans hzo)
      (by rw [reloadDropped_deck]; exact hc) (by rw [hzone]; exact hst) (by rw [hzone]; exact hrec)
  rw [protect_eq, hrecord, drawerZones_falling ((zoneOf_congr (fun y => congrArg Zone.source (hazone y)) d).trans hzo)
    ((mirroring_of_sources fun y => congrArg Zone.source (hazone y)).trans hm) (by rw [hazone]; exact hst) (by rw [hazone]; exact hr)]

/-- Settles O33: the record, the stop of the zone at its ramp, and the disc parked away. -/
theorem openedDrawerSavesThePosition : Obligations.OpenedDrawerSavesThePosition := by
  intro z d s c r p hs ht hl hsrc hother hst hr hdisc hrange hpos hsw
  let saved : ResumeRecord :=
    { fingerprint := c.fingerprint, deck := d, zone := z, range := r, position := p, cue := (s.zone z).cue, reason := .tray }
  let a := writeRecord saved (reloadDropped d (levelTaken d s))
  let b := awaitFlush d (onZone z (stopping .trayOpen true) a)
  have hne : otherDeck d ≠ d := by cases d <;> decide
  have hzo : zoneOf d s = some z := zoneOf_of_only hsrc (by rw [hother]; exact fun h => hne (Source.deck.inj h))
  have hm : mirroring s = false := by
    refine mirroring_of_ne fun h => ?_
    cases z
    · exact absurd (hother.symm.trans h) (by simp)
    · exact absurd (hsrc.symm.trans h) (by simp)
  have hzone : ∀ y, (levelTaken d s).zone y = s.zone y := levelTaken_zone d s
  have hprotect : protect d (levelTaken d s) = parkedAway d b :=
    protect_falling ((zoneOf_congr (fun y => congrArg Zone.source (hzone y)) d).trans hzo)
      ((mirroring_of_sources fun y => congrArg Zone.source (hzone y)).trans hm) (by rw [hzone, hst]; decide) (by rw [hzone]; omega)
      (by rw [levelTaken_deck]; exact (usable_eq_some _ _).2 hdisc)
      (by rw [hzone]; exact zoneRecord_playing hsw hrange hpos)
  have hazone : ∀ y, a.zone y = s.zone y := fun y => by
    rw [← hzone, ← reloadDropped_zone d (levelTaken d s)]; cases y <;> rfl
  have hbzone : b.zone z = stopping .trayOpen true (s.zone z) := by rw [awaitFlush_zone, onZone_same, hazone]
  have hbother : b.zone (otherZone z) = s.zone (otherZone z) := by rw [awaitFlush_zone, onZone_other, hazone]
  have hbsource : ∀ y, (b.zone y).source = (s.zone y).source := fun y => by
    rw [awaitFlush_zone, onZone_sources rfl, hazone]
  have hbo : zoneOf d b = some z := (zoneOf_congr hbsource d).trans hzo
  have hpark := parkedAway_fields d b
  have hexec : exec (.trayDebounceExpiry d) s = .next (parkedAway d b) := by
    rw [exec_trayDebounce d s hs, trayDebounced_opened ht hl, hprotect]
  have hpart : SamePart s (parkedAway d b) := by
    rw [← hprotect, ← trayDebounced_opened ht hl]
    exact (kept_trayDebounced (D := anyDeck) (d := d) trivial s).part
  refine ⟨_, hexec, ?_, ?_, ?_, hpark.disc, hpark.emptied, hpart, ?_⟩
  · rw [hpark.table, awaitFlush_tray, onZone_tray]
    exact congrArg (placeRecord saved) (by cases d <;> rfl)
  · rw [hpark.zone, if_pos hbo, hbzone]
    simp [stopping, Zone.unheld, hsw]
  · rw [hpark.zone, if_neg (by rw [hbo]; cases z <;> simp [otherZone]), hbother]
  · rw [hpark.otherSide, side_of_tray (awaitFlush_tray d _), onZone_side]
    change (reloadDropped d (levelTaken d s)).side (otherDeck d) = _
    unfold reloadDropped levelTaken
    rw [onSide_other, onSide_other]

end Sys2Proof.Proofs
end


section
/-!
PROOFS. Standby entry (R204): the rings flushed, the decks parked, the guard closed.
-/

namespace Sys2Proof.Proofs

open Sys2Proof.Machine

/-! ## The records of the stop notes (R176, R204) -/

/-- At most the resume table, the stop notes and the count of free choices differ. -/
def NotesOnly (s t : State) : Prop :=
  ∃ table one two n, t = { s with tray := { s.tray with table := table, noteOne := one, noteTwo := two }, drawn := n }

theorem notesOnly_consumeNote (z : ZoneId) (why : ResumeReason) (m : StopNote) {s t : State} (h : NotesOnly s t) :
    NotesOnly s (consumeNote z why m t) := by
  obtain ⟨table, one, two, n, rfl⟩ := h
  cases z <;> exact ⟨_, _, _, _, rfl⟩

theorem notesOnly_standbyRecords (s : State) : NotesOnly s (standbyRecords s) := by
  have hrefl : NotesOnly s s := ⟨s.tray.table, s.tray.noteOne, s.tray.noteTwo, s.drawn, rfl⟩
  have hdrawn : NotesOnly s { s with drawn := s.drawn + 1 } := ⟨s.tray.table, s.tray.noteOne, s.tray.noteTwo, s.drawn + 1, rfl⟩
  unfold standbyRecords
  dsimp only
  split
  · split
    · exact notesOnly_consumeNote _ _ _ (notesOnly_consumeNote _ _ _ hdrawn)
    · exact notesOnly_consumeNote _ _ _ (notesOnly_consumeNote _ _ _ hdrawn)
  · exact notesOnly_consumeNote _ _ _ hrefl
  · exact notesOnly_consumeNote _ _ _ hrefl
  · exact hrefl

section
variable {s t : State} (h : NotesOnly s t)
include h

theorem NotesOnly.deck (d : Deck) : t.deck d = s.deck d := by obtain ⟨_, _, _, _, rfl⟩ := h; cases d <;> rfl
theorem NotesOnly.zone (z : ZoneId) : t.zone z = s.zone z := by obtain ⟨_, _, _, _, rfl⟩ := h; cases z <;> rfl
theorem NotesOnly.side (d : Deck) : t.side d = s.side d := by obtain ⟨_, _, _, _, rfl⟩ := h; cases d <;> rfl
theorem NotesOnly.part : SamePart s t := by obtain ⟨_, _, _, _, rfl⟩ := h; exact ⟨rfl, rfl, rfl, rfl, rfl⟩

end

/-! ## Both decks emptied (R204) -/

/-- Both decks flushed, their jobs cancelled. -/
def bothEmptied (s : State) : State := { s with deckA := emptiedUnit s.deckA, deckB := emptiedUnit s.deckB }

theorem bothEmptied_deck (s : State) (d : Deck) : (bothEmptied s).deck d = emptiedUnit (s.deck d) := by cases d <;> rfl

/-- The flushes of standby entry over zones at rest (R204). -/
theorem flushes_of_rest {s : State} (h : ∀ z, (s.zone z).atRest) :
    flush .b (flush .a (cancelJob .b (cancelJob .a s))) = bothEmptied s := by
  have hcancelled : ∀ z, (cancelJob .b (cancelJob .a s)).zone z = s.zone z := fun z => by rw [cancelJob_zone, cancelJob_zone]
  have ha : flush .a (cancelJob .b (cancelJob .a s)) = onDeck .a flushedUnit (cancelJob .b (cancelJob .a s)) :=
    flush_of_rest .a _ fun z _ => by rw [hcancelled]; exact h z
  rw [ha, flush_of_rest .b _ fun z _ => by rw [onDeck_zone, hcancelled]; exact h z, cancelJob_eq, cancelJob_eq]
  rfl

/-! ## The decks parked (R204 step 4) -/

theorem deckAlone_standbyPark (d : Deck) (s : State) : DeckAlone d s (standbyPark d s) := by
  unfold standbyPark
  split
  · exact deckAlone_request d (.park .standby) rfl .standby s
  · exact .refl d s

/-- What the two decks' parts of one event leave. -/
structure DecksAlone (s t : State) : Prop where
  zone : ∀ z, t.zone z = s.zone z
  line : ∀ d, (t.side d).line = (s.side d).line
  emptied : ∀ d, (s.deck d).emptied → (t.deck d).emptied

theorem decksAlone_together {f g : State → State} {s : State} (hf : DeckAlone .a s (f s)) (hg : DeckAlone .b (f s) (g (f s))) :
    DecksAlone s (together f g s) ∧ (together f g s).deckA = (f s).deckA ∧ (together f g s).deckB = (g (f s)).deckB := by
  obtain ⟨q, n, heq⟩ := together_eq f g s
  have hba : (g (f s)).deckA = (f s).deckA := hg.other
  have hab : (f s).deckB = s.deckB := hf.other
  have hsides : (f s).tray.sideB = s.tray.sideB := hf.otherSide
  have hsides' : (g (f s)).tray.sideA = (f s).tray.sideA := hg.otherSide
  have hline : (f s).tray.sideA.line = s.tray.sideA.line := hf.line
  have hline' : (g (f s)).tray.sideB.line = (f s).tray.sideB.line := hg.line
  rw [heq]
  refine ⟨⟨fun z => ?_, fun d => ?_, fun d => ?_⟩, hba, rfl⟩
  · refine Eq.trans ?_ ((hg.zone z).trans (hf.zone z))
    cases z <;> rfl
  · cases d with
    | a => exact (congrArg TraySide.line hsides').trans hline
    | b => exact hline'.trans (congrArg TraySide.line hsides)
  · cases d with
    | a =>
      intro h
      change (g (f s)).deckA.emptied
      rw [hba]
      exact hf.emptied h
    | b =>
      intro h
      refine hg.emptied ?_
      change (f s).deckB.emptied
      rw [hab]
      exact h

/-- A READY deck with a disc is sent PARK (R204 step 4). -/
theorem standbyPark_ready {d : Deck} {s : State} (hst : (s.deck d).link.state = .ready) (ho : (s.deck d).link.outstanding = none)
    (hu : (s.deck d).link.usable ≠ none) : ((standbyPark d s).deck d).link = movingLink (.park .standby) (s.deck d).link := by
  obtain ⟨c, hc⟩ := Option.ne_none_iff_exists'.1 hu
  unfold standbyPark
  rw [hc]
  dsimp only
  rw [mechanical_sent d (.park .standby) rfl .standby s (by rw [hst]; decide) ho]
  dsimp only
  rw [raiseNotice_deck, onLink_same]

/-! ## The guard closed (R159, R204) -/

/-- Two parts of one event that both do nothing. -/
theorem together_still {f g : State → State} {s : State} (hf : f s = s) (hg : g s = s) : together f g s = s := by
  rw [together_of_quiet f g s (.inl (Nat.le_of_eq (by rw [hf]))), hf, hg]

theorem withShock_deck (s : State) (m : Shock) (d : Deck) : State.deck { s with shock := m } d = s.deck d := by cases d <;> rfl

/-- An emptied deck's planner has nothing to decide (R91). -/
theorem decisionPoint_emptied {d : Deck} {s : State} (h : (s.deck d).emptied) : decisionPoint d s = s := by
  obtain ⟨-, hring, -, -, -, -, -, -, hjob, hphase, htarget, -⟩ := h
  have hstill : plannerActs (s.deck d) = false := by unfold plannerActs; rw [hring]; rfl
  have hsame : noJob d s = s := by
    unfold noJob onPlan
    refine (onDeck_congr (g := id) ?_).trans (by cases d <;> rfl)
    rw [← hjob, ← hphase, ← htarget]; rfl
  unfold decisionPoint
  rw [if_neg (by rw [Planner.running, hphase]; decide)]
  unfold decide_
  dsimp only
  rw [hstill]
  exact hsame

/-- The guard closes over emptied decks (R159, R204). -/
theorem closeGuard_emptied {s : State} (h : ∀ d, (s.deck d).emptied) : closeGuard s = { s with shock := { s.shock with guard := none } } := by
  unfold closeGuard
  split
  · let t : State := { s with shock := { s.shock with guard := none } }
    exact together_still (s := t) (decisionPoint_emptied (d := .a) (h .a)) (decisionPoint_emptied (d := .b) (h .b))
  · next hopen =>
    have hnone : s.shock.guard = none := by simpa [guardOpen] using hopen
    conv => lhs; rw [show s = { s with shock := { s.shock with guard := s.shock.guard } } from rfl, hnone]

/-! ## Standby entered (R204) -/

/-- The decks emptied and parked (R204 steps 2 to 4). -/
def standbyDecks (s : State) : State := together (standbyPark .a) (standbyPark .b) (bothEmptied (standbyRecords s))

/-- The converter, the guard and debouncing stopped, the lines recorded, the phase entered (R204 steps 5 to 8). -/
def shutDown (s : State) : State :=
  { s with
    shock := { s.shock with converting := false, guard := none }
    tray := { s.tray with
      debouncing := false, sideA := { s.tray.sideA with timer := none }, sideB := { s.tray.sideB with timer := none } }
    standby := { s.standby with
      phase := .standby, wakeTimer := some s.standby.wakePeriod, recordedA := some s.tray.sideA.line, recordedB := some s.tray.sideB.line } }

theorem shutDown_deck (s : State) (d : Deck) : (shutDown s).deck d = s.deck d := by cases d <;> rfl
theorem shutDown_zone (s : State) (z : ZoneId) : (shutDown s).zone z = s.zone z := by cases z <;> rfl

/-- The lines recorded and the phase entered (R204 steps 6 to 8). -/
def standbyRecorded (s : State) : State :=
  { s with
    tray := { s.tray with
      debouncing := false, sideA := { s.tray.sideA with timer := none }, sideB := { s.tray.sideB with timer := none } }
    standby := { s.standby with
      phase := .standby, wakeTimer := some s.standby.wakePeriod, recordedA := some s.tray.sideA.line, recordedB := some s.tray.sideB.line } }

/-- What standby entry makes of the part over zones at rest (R204). -/
theorem enterStandby_eq {s : State} (h : ∀ z, (s.zone z).atRest) :
    enterStandby s = shutDown (standbyDecks s) := by
  have hrest : ∀ z, ((standbyRecords s).zone z).atRest := fun z => by rw [(notesOnly_standbyRecords s).zone]; exact h z
  have hempty : ∀ d, ((bothEmptied (standbyRecords s)).deck d).emptied := fun d => by
    rw [bothEmptied_deck]; exact flushedUnit_emptied _
  have hparked := (decksAlone_together (deckAlone_standbyPark .a (bothEmptied (standbyRecords s))) (deckAlone_standbyPark .b _)).1
  let w (u : State) : State := together (standbyPark .a) (standbyPark .b) u
  have hunfold : enterStandby s =
      standbyRecorded (closeGuard { w (flush .b (flush .a (cancelJob .b (cancelJob .a (standbyRecords s))))) with
        shock := { (w (flush .b (flush .a (cancelJob .b (cancelJob .a (standbyRecords s)))))).shock with converting := false } }) := rfl
  rw [hunfold, flushes_of_rest hrest, closeGuard_emptied]
  · rfl
  · intro d
    rw [withShock_deck]
    exact hparked.emptied d (hempty d)

/-- The part in standby, as entry leaves it (R204). -/
structure StandbyEntered (s t : State) : Prop where
  standby : t.standby = { s.standby with
    phase := .standby, wakeTimer := some s.standby.wakePeriod, recordedA := some s.tray.sideA.line, recordedB := some s.tray.sideB.line }
  shock : t.shock = { s.shock with converting := false, guard := none }
  debouncing : t.tray.debouncing = false
  timerA : t.tray.sideA.timer = none
  timerB : t.tray.sideB.timer = none
  zone : ∀ z, t.zone z = s.zone z
  pin : t.resetPin = s.resetPin
  stage : t.stage = s.stage
  emptied : ∀ d, (t.deck d).emptied
  parked : ∀ d, (s.deck d).link.state = .ready → (s.deck d).link.outstanding = none → (s.deck d).link.usable ≠ none →
    (t.deck d).link = movingLink (.park .standby) (s.deck d).link

theorem shutDown_entered {s w : State} (hpart : SamePart s w) (hzone : ∀ z, w.zone z = s.zone z)
    (hline : ∀ d, (w.side d).line = (s.side d).line) (hempty : ∀ d, (w.deck d).emptied)
    (hparked : ∀ d, (s.deck d).link.state = .ready → (s.deck d).link.outstanding = none → (s.deck d).link.usable ≠ none →
      (w.deck d).link = movingLink (.park .standby) (s.deck d).link) : StandbyEntered s (shutDown w) := by
  obtain ⟨hpin, hshock, hstandby, hstage, -⟩ := hpart
  have hlineA : w.tray.sideA.line = s.tray.sideA.line := hline .a
  have hlineB : w.tray.sideB.line = s.tray.sideB.line := hline .b
  refine ⟨?_, ?_, rfl, rfl, rfl, fun z => (shutDown_zone w z).trans (hzone z), hpin, hstage, fun d => ?_, fun d => ?_⟩
  · unfold shutDown
    dsimp only
    rw [hstandby, hlineA, hlineB]
  · unfold shutDown
    dsimp only
    rw [hshock]
  · rw [shutDown_deck]; exact hempty d
  · rw [shutDown_deck]; exact hparked d

/-- The decks of standby entry before they are parked (R204 step 3). -/
def standbyFlushed (s : State) : State := bothEmptied (standbyRecords s)

theorem standbyFlushed_deck (s : State) (d : Deck) : (standbyFlushed s).deck d = emptiedUnit (s.deck d) :=
  (bothEmptied_deck _ d).trans (congrArg _ ((notesOnly_standbyRecords s).deck d))

theorem standbyFlushed_zone (s : State) (z : ZoneId) : (standbyFlushed s).zone z = s.zone z := by
  rw [← (notesOnly_standbyRecords s).zone z]; cases z <;> rfl

theorem standbyFlushed_side (s : State) (d : Deck) : (standbyFlushed s).side d = s.side d := by
  rw [← (notesOnly_standbyRecords s).side d]; cases d <;> rfl

theorem standbyFlushed_part (s : State) : SamePart s (standbyFlushed s) := (notesOnly_standbyRecords s).part

theorem standbyDecks_part (s : State) : SamePart s (standbyDecks s) := by
  have h : SamePart (standbyFlushed s) (standbyDecks s) :=
    (Kept.together (kept_standbyPark (D := anyDeck) (d := .a) trivial (standbyFlushed s)) (kept_standbyPark trivial _)).part
  obtain ⟨h1, h2, h3, h4, h5⟩ := h
  obtain ⟨g1, g2, g3, g4, g5⟩ := standbyFlushed_part s
  exact ⟨h1.trans g1, h2.trans g2, h3.trans g3, h4.trans g4, h5.trans g5⟩

/-- A READY deck with a disc is parked at standby entry (R204 step 4). -/
theorem standbyDecks_parked {d : Deck} {s : State} (hst : (s.deck d).link.state = .ready) (ho : (s.deck d).link.outstanding = none)
    (hu : (s.deck d).link.usable ≠ none) : ((standbyDecks s).deck d).link = movingLink (.park .standby) (s.deck d).link := by
  have halone := deckAlone_standbyPark .a (standbyFlushed s)
  obtain ⟨-, hdeckA, hdeckB⟩ := decksAlone_together halone (deckAlone_standbyPark .b (standbyPark .a (standbyFlushed s)))
  have hlink : (emptiedUnit (s.deck d)).link = (s.deck d).link := emptiedUnit_link (by rw [hst]; decide)
  cases d with
  | a =>
    have hd : ((standbyFlushed s).deck .a).link = (s.deck .a).link := (congrArg DeckUnit.link (standbyFlushed_deck s .a)).trans hlink
    refine (congrArg DeckUnit.link hdeckA).trans ((standbyPark_ready (d := .a) ?_ ?_ ?_).trans (congrArg _ hd))
    · rw [hd]; exact hst
    · rw [hd]; exact ho
    · rw [hd]; exact hu
  | b =>
    have hd : ((standbyPark .a (standbyFlushed s)).deck .b).link = (s.deck .b).link :=
      (congrArg DeckUnit.link (halone.other.trans (standbyFlushed_deck s .b))).trans hlink
    refine (congrArg DeckUnit.link hdeckB).trans ((standbyPark_ready (d := .b) ?_ ?_ ?_).trans (congrArg _ hd))
    · rw [hd]; exact hst
    · rw [hd]; exact ho
    · rw [hd]; exact hu

theorem enterStandby_entered {s : State} (h : ∀ z, (s.zone z).atRest) : StandbyEntered s (enterStandby s) := by
  have hboth : DecksAlone (standbyFlushed s) (standbyDecks s) :=
    (decksAlone_together (deckAlone_standbyPark .a (standbyFlushed s)) (deckAlone_standbyPark .b _)).1
  rw [enterStandby_eq h]
  refine shutDown_entered (standbyDecks_part s) (fun z => (hboth.zone z).trans (standbyFlushed_zone s z)) (fun d => ?_) (fun d => ?_)
    fun d => standbyDecks_parked
  · rw [← standbyFlushed_side s d]; exact hboth.line d
  · exact hboth.emptied d (by rw [standbyFlushed_deck]; exact flushedUnit_emptied _)

/-! ## STANDBY (R203, R204) -/

theorem atRest_of_stopped {s : State} (h : RestForm s) (h1 : s.zone1.state = .stopped) (h2 : s.zone2.state = .stopped) (z : ZoneId) :
    (s.zone z).atRest := by
  cases z
  · exact h .one h1
  · exact h .two h2

theorem finishEntry_due {s : State} (h : s.standby.phase = .entering) (h1 : s.zone1.state = .stopped) (h2 : s.zone2.state = .stopped) :
    finishEntry s = enterStandby s := by
  unfold finishEntry
  exact if_pos (by simp [entryDue, h, h1, h2])

/-- STANDBY with both zones STOPPED (R204 step 1). -/
theorem beginStandby_stopped {s : State} (h1 : s.zone1.state = .stopped) (h2 : s.zone2.state = .stopped) :
    beginStandby s = enterStandby { s with standby := { s.standby with phase := .entering } } := by
  let t : State := { s with standby := { s.standby with phase := .entering } }
  have hone : stopRequest .one .standby false t = t := stopRequest_of_stopped (z := .one) (s := t) h1 _ _
  have htwo : stopRequest .two .standby false t = t := stopRequest_of_stopped (z := .two) (s := t) h2 _ _
  unfold beginStandby
  rw [together_still hone htwo]
  exact finishEntry_due (s := t) rfl h1 h2

theorem exec_standby (settings : Option (Byte × BitVec 16)) (s : State) (h : Up s) :
    exec (.standby settings) s = .next (settle (standbyAnswer settings s)) :=
  whenUp_high s (fun s => settle (standbyAnswer settings s)) h

/-- The Standby Controller with the settings of a STANDBY (R203). -/
def standbySettings (settings : Option (Byte × BitVec 16)) (b : Standby) : Standby :=
  { b with
    wakeOnTray := match settings with
      | some (t, _) => t == 1#8
      | none => b.wakeOnTray
    wakePeriod := match settings with
      | some (_, p) => min 2000 (max 100 p.toNat)
      | none => b.wakePeriod }

theorem standbyAnswer_bad {b : Byte} (p : BitVec 16) (s : State) (h : 1 < b.toNat) :
    standbyAnswer (some (b, p)) s = (s, refusal .badArg) := by
  unfold standbyAnswer
  dsimp only
  rw [boolArg_of_one_lt h]

theorem standbyAnswer_taken {settings : Option (Byte × BitVec 16)} {s : State} (hs : s.standby.phase = .awake)
    (h : ∀ b p, settings = some (b, p) → b.toNat ≤ 1) :
    standbyAnswer settings s =
      (beginStandby { s with standby := standbySettings settings s.standby },
        ok (byte (standbySettings settings s.standby).wakeOnTray.toNat :: be2 (standbySettings settings s.standby).wakePeriod)) := by
  unfold standbyAnswer
  cases settings with
  | none =>
    dsimp only
    rw [if_pos hs]
    rfl
  | some v =>
    obtain ⟨b, p⟩ := v
    dsimp only
    rw [boolArg_of_le_one (h b p rfl)]
    dsimp only
    rw [if_pos hs]
    rfl

/-- STANDBY taken with both zones at rest (R203, R204). -/
theorem standby_enters (settings : Option (Byte × BitVec 16)) (s : State) (hs : Awake s) (h1 : s.zone1.state = .stopped)
    (h2 : s.zone2.state = .stopped) (hrest : RestForm s) (h : ∀ b p, settings = some (b, p) → b.toNat ≤ 1) :
    ∃ t, exec (.standby settings) s = .next t ∧
      StandbyEntered { s with standby := standbySettings settings s.standby } t ∧
      t.port.reply = some
        ⟨.ok, byte (standbySettings settings s.standby).wakeOnTray.toNat :: be2 (standbySettings settings s.standby).wakePeriod⟩ := by
  let u : State := { s with standby := { standbySettings settings s.standby with phase := .entering } }
  have hu : StandbyEntered u (enterStandby u) := enterStandby_entered (fun z => by
    have := atRest_of_stopped hrest h1 h2 z
    cases z <;> exact this)
  let data : List Byte :=
    byte (standbySettings settings s.standby).wakeOnTray.toNat :: be2 (standbySettings settings s.standby).wakePeriod
  refine ⟨settle (enterStandby u, ok data), ?_, ?_, rfl⟩
  · rw [exec_standby settings s hs.1, standbyAnswer_taken hs.2 h,
      beginStandby_stopped (s := { s with standby := standbySettings settings s.standby }) h1 h2]
  · refine ⟨hu.standby, hu.shock, hu.debouncing, hu.timerA, hu.timerB, fun z => ?_, hu.pin, hu.stage, fun d => ?_, fun d hst ho hl => ?_⟩
    · rw [settle_zone]
      refine (hu.zone z).trans ?_
      cases z <;> rfl
    · rw [settle_deck]; exact hu.emptied d
    · rw [settle_deck]
      cases d <;> exact hu.parked _ hst ho hl

end Sys2Proof.Proofs
end


section
/-!
PROOFS. Samples of the tray lines and the way out of standby (R32, R205 to R207).
-/

namespace Sys2Proof.Proofs

open Sys2Proof.Machine

/-! ## What a sample and the end of standby leave -/

/-- What the decks' parts of R206 and R207 keep: everything but the decks, the stop notes, the notices and the recorded levels. -/
structure SleepKept (s t : State) : Prop where
  zone : ∀ z, t.zone z = s.zone z
  shock : t.shock = s.shock
  table : t.tray.table = s.tray.table
  side : ∀ d, t.side d = s.side d
  pin : t.resetPin = s.resetPin
  stage : t.stage = s.stage
  standby : { t.standby with recordedA := none, recordedB := none } = { s.standby with recordedA := none, recordedB := none }

theorem SleepKept.refl (s : State) : SleepKept s s := ⟨fun _ => rfl, rfl, rfl, fun _ => rfl, rfl, rfl, rfl⟩

theorem SleepKept.trans {s t w : State} (h : SleepKept s t) (g : SleepKept t w) : SleepKept s w :=
  ⟨fun z => (g.zone z).trans (h.zone z), g.shock.trans h.shock, g.table.trans h.table, fun d => (g.side d).trans (h.side d),
    g.pin.trans h.pin, g.stage.trans h.stage, g.standby.trans h.standby⟩

theorem SleepKept.link (d : Deck) (f : Link → Link) (s : State) : SleepKept s (onLink d f s) :=
  ⟨fun z => by simp, by simp, by simp, fun e => by simp, by simp, by simp, by simp⟩

theorem SleepKept.notice (u : NoticeUnit) (b : NoticeBody) (s : State) : SleepKept s (raiseNotice u b s) :=
  ⟨fun z => by simp, by simp, by simp, fun e => by simp, by simp, by simp, by simp⟩

theorem SleepKept.discarded (d : Deck) (s : State) : SleepKept s (discardDisc d s) :=
  ⟨fun z => by simp, by simp, by simp, fun e => by simp, by simp, by simp, by simp⟩

theorem SleepKept.recorded (d : Deck) (l : Option Level) (s : State) : SleepKept s (setRecorded d l s) := by
  cases d <;> exact ⟨fun z => by cases z <;> rfl, rfl, rfl, fun e => by cases e <;> rfl, rfl, rfl, rfl⟩

theorem SleepKept.levels (s : State) {b : Standby}
    (h : { b with recordedA := none, recordedB := none } = { s.standby with recordedA := none, recordedB := none }) :
    SleepKept s { s with standby := b } :=
  ⟨fun z => by cases z <;> rfl, rfl, rfl, fun d => by cases d <;> rfl, rfl, rfl, h⟩

theorem SleepKept.announced (d : Deck) (s : State) : SleepKept s (announce d s) := by
  obtain ⟨h1, h2, h3, h4, -⟩ := (kept_announce (D := anyDeck) d s).part
  have htray := announce_tray d s
  exact ⟨announce_zone d s, h2, by rw [htray], fun e => side_of_tray htray e, h1, h4, by rw [h3]⟩

theorem SleepKept.together {f g : State → State} {s : State} (hf : SleepKept s (f s)) (hg : SleepKept (f s) (g (f s))) :
    SleepKept s (together f g s) := by
  obtain ⟨q, n, h⟩ := together_eq f g s
  have hboth := hf.trans hg
  rw [h]
  refine ⟨fun z => ?_, hboth.shock, hboth.table, fun d => ?_, hboth.pin, hboth.stage, hboth.standby⟩
  · rw [← hboth.zone z]; cases z <;> rfl
  · rw [← hboth.side d]; cases d <;> rfl

/-! ## Samples (R32, R206) -/

theorem lineMoved_iff (d : Deck) (s : State) : lineMoved d s = true ↔ s.recorded d ≠ some (s.side d).line := by
  unfold lineMoved; simp

theorem sampleDeck_still {d : Deck} {s : State} (h : s.recorded d = some (s.side d).line) : sampleDeck d s = s := by
  unfold sampleDeck
  exact if_neg (by rw [lineMoved_iff]; exact fun hne => hne h)

theorem sleepKept_discSuspect (d : Deck) (s : State) : SleepKept s (discSuspect d s) := by
  unfold discSuspect
  dsimp only
  split
  · exact (SleepKept.discarded d s).trans ((SleepKept.link d _ _).trans (.announced d _))
  · split
    · split
      · exact (SleepKept.link d _ s).trans (.discarded d _)
      · exact .refl s
    · exact .refl s
  · exact .refl s

theorem sleepKept_sampleDeck (d : Deck) (s : State) : SleepKept s (sampleDeck d s) := by
  unfold sampleDeck
  split
  · exact (SleepKept.recorded d _ s).trans ((SleepKept.notice _ _ _).trans (sleepKept_discSuspect d _))
  · exact .refl s

theorem setRecorded_deck (d : Deck) (l : Option Level) (s : State) (e : Deck) : (setRecorded d l s).deck e = s.deck e := by
  cases d <;> cases e <;> rfl

theorem setRecorded_other (d : Deck) (l : Option Level) (s : State) :
    (setRecorded d l s).recorded (otherDeck d) = s.recorded (otherDeck d) := by cases d <;> rfl

theorem setRecorded_same (d : Deck) (l : Option Level) (s : State) : (setRecorded d l s).recorded d = l := by cases d <;> rfl

theorem recorded_of_standby {s t : State} (h : t.standby = s.standby) (d : Deck) : t.recorded d = s.recorded d := by
  cases d <;> simp only [State.recorded, h]

/-- A sample of one deck leaves the other deck and its recorded level. -/
theorem sampleDeck_other (d : Deck) (s : State) :
    (sampleDeck d s).deck (otherDeck d) = s.deck (otherDeck d) ∧
      (sampleDeck d s).recorded (otherDeck d) = s.recorded (otherDeck d) := by
  have hsuspect (t : State) : (discSuspect d t).deck (otherDeck d) = t.deck (otherDeck d) := by
    unfold discSuspect
    dsimp only
    split
    · rw [announce_deck, toNoDisc, onLink_other, discardDisc_other]
    · split
      · split
        · rw [discardDisc_other, onLink_other]
        · rfl
      · rfl
    · rfl
  have hstandby (t : State) : (discSuspect d t).standby = t.standby := (kept_discSuspect (D := anyDeck) trivial t).part.2.2.1
  unfold sampleDeck
  split
  · refine ⟨?_, ?_⟩
    · rw [hsuspect, raiseNotice_deck, setRecorded_deck]
    · rw [recorded_of_standby (hstandby _), recorded_of_standby (raiseNotice_standby _ _ _), setRecorded_other]
  · exact ⟨rfl, rfl⟩

/-! ## Leaving standby (R207) -/

theorem sleepKept_unpark (d : Deck) (s : State) : SleepKept s (unpark d s) := by
  unfold unpark
  split
  · exact (SleepKept.link d _ s).trans (.notice _ _ _)
  · exact .refl s

theorem unpark_other (d : Deck) (s : State) : (unpark d s).deck (otherDeck d) = s.deck (otherDeck d) := by
  unfold unpark
  split
  · rw [raiseNotice_deck, onLink_other]
  · rfl

/-- The link of a PARKED deck that becomes READY (R32). -/
theorem unpark_parked {d : Deck} {s : State} (h : (s.deck d).link.state = .parked) :
    ((unpark d s).deck d).link = { (s.deck d).link with state := .ready, runTag := none } := by
  unfold unpark
  rw [if_pos h, raiseNotice_deck, onLink_same]

/-- Two decks' parts of one event, each of its own deck. -/
theorem together_deck {f g : State → State} {s : State} (hg : ∀ t, (g t).deckA = t.deckA) :
    (together f g s).deckA = (f s).deckA ∧ (together f g s).deckB = (g (f s)).deckB := by
  obtain ⟨q, n, h⟩ := together_eq f g s
  rw [h]
  exact ⟨hg _, rfl⟩

/-- The lines sampled at the end of standby (R207 step 2). -/
def finalSample (s : State) : State :=
  together (sampleDeck .a) (sampleDeck .b) { s with standby := { s.standby with wakeTimer := none } }

/-- The PARKED decks made READY, the recorded levels cleared (R207 step 3). -/
def unparkedDecks (s : State) : State :=
  together (unpark .a) (unpark .b) { s with standby := { s.standby with recordedA := none, recordedB := none } }

/-- The converter restored, debouncing and the phase awake (R207 steps 4 and 5). -/
def awakened (s : State) : State :=
  { s with
    shock := { s.shock with converting := s.shock.enable }
    tray := { s.tray with debouncing := true, sideA := s.tray.sideA.adopt, sideB := s.tray.sideB.adopt }
    standby := { s.standby with phase := .awake } }

theorem awakened_deck (s : State) (d : Deck) : (awakened s).deck d = s.deck d := by cases d <;> rfl
theorem awakened_zone (s : State) (z : ZoneId) : (awakened s).zone z = s.zone z := by cases z <;> rfl
theorem awakened_side (s : State) (d : Deck) : (awakened s).side d = (s.side d).adopt := by cases d <;> rfl

theorem leaveStandby_eq (s : State) : leaveStandby s = awakened (unparkedDecks (finalSample s)) := rfl

/-- A PARKED deck whose line has not moved keeps its link in the last sample (R206). -/
theorem finalSample_link {d : Deck} {s : State} (h : s.recorded d = some (s.side d).line) : ((finalSample s).deck d) = s.deck d := by
  let t : State := { s with standby := { s.standby with wakeTimer := none } }
  obtain ⟨ha, hb⟩ := together_deck (f := sampleDeck .a) (g := sampleDeck .b) (s := t) fun t => (sampleDeck_other .b t).1
  cases d with
  | a => exact ha.trans ((congrArg State.deckA (sampleDeck_still (d := .a) (s := t) h)).trans rfl)
  | b =>
    obtain ⟨hdeck, hrec⟩ := sampleDeck_other .a t
    have hstill : sampleDeck .b (sampleDeck .a t) = sampleDeck .a t := sampleDeck_still (by
      rw [(sleepKept_sampleDeck .a t).side]
      exact hrec.trans h)
    exact hb.trans ((congrArg State.deckB hstill).trans hdeck)

/-- A PARKED deck is READY after standby (R32, R207). -/
theorem unparkedDecks_link {d : Deck} {s : State} (h : (s.deck d).link.state = .parked) :
    ((unparkedDecks s).deck d).link = { (s.deck d).link with state := .ready, runTag := none } := by
  let t : State := { s with standby := { s.standby with recordedA := none, recordedB := none } }
  obtain ⟨ha, hb⟩ := together_deck (f := unpark .a) (g := unpark .b) (s := t) (unpark_other .b)
  cases d with
  | a => exact (congrArg DeckUnit.link ha).trans (unpark_parked (d := .a) (s := t) h)
  | b =>
    have hother : (unpark .a t).deck .b = s.deck .b := unpark_other .a t
    refine (congrArg DeckUnit.link hb).trans ((unpark_parked (d := .b) (by rw [hother]; exact h)).trans ?_)
    rw [hother]

/-- The part awake again (R207). -/
structure Awoken (s t : State) : Prop where
  standby : t.standby = { s.standby with phase := .awake, wakeTimer := none, recordedA := none, recordedB := none }
  debouncing : t.tray.debouncing = true
  side : ∀ d, t.side d = { s.side d with level := (s.side d).line, timer := none }
  shock : t.shock = { s.shock with converting := s.shock.enable }
  zone : ∀ z, t.zone z = s.zone z
  table : t.tray.table = s.tray.table
  pin : t.resetPin = s.resetPin
  stage : t.stage = s.stage
  unparked : ∀ d, (s.deck d).link.state = .parked → s.recorded d = some (s.side d).line →
    (t.deck d).link = { (s.deck d).link with state := .ready, runTag := none }

/-- What the samples and the unparking at the end of standby keep (R207). -/
theorem sleepKept_unparkedDecks (s : State) :
    SleepKept { s with standby := { s.standby with wakeTimer := none } } (unparkedDecks (finalSample s)) := by
  have hsample : SleepKept { s with standby := { s.standby with wakeTimer := none } } (finalSample s) :=
    .together (sleepKept_sampleDeck .a _) (sleepKept_sampleDeck .b _)
  have hlevels : SleepKept (finalSample s)
      { finalSample s with standby := { (finalSample s).standby with recordedA := none, recordedB := none } } := .levels _ rfl
  exact (hsample.trans hlevels).trans (.together (sleepKept_unpark .a _) (sleepKept_unpark .b _))

theorem unparkedDecks_standby (s : State) :
    (unparkedDecks s).standby = { s.standby with recordedA := none, recordedB := none } :=
  (Kept.together (kept_unpark (D := anyDeck) (d := .a) trivial
    { s with standby := { s.standby with recordedA := none, recordedB := none } }) (kept_unpark (d := .b) trivial _)).part.2.2.1

theorem finalSample_standby (s : State) :
    { (finalSample s).standby with recordedA := none, recordedB := none } =
      { s.standby with wakeTimer := none, recordedA := none, recordedB := none } :=
  (SleepKept.together (sleepKept_sampleDeck .a { s with standby := { s.standby with wakeTimer := none } })
    (sleepKept_sampleDeck .b _)).standby

/-- What the end of standby makes of a part whose samples and unparking are done. -/
theorem awoken_of {s w : State} (h : SleepKept { s with standby := { s.standby with wakeTimer := none } } w)
    (hstandby : w.standby = { s.standby with wakeTimer := none, recordedA := none, recordedB := none })
    (hdeck : ∀ d, (s.deck d).link.state = .parked → s.recorded d = some (s.side d).line →
      (w.deck d).link = { (s.deck d).link with state := .ready, runTag := none }) : Awoken s (awakened w) := by
  have hside : ∀ d, w.side d = s.side d := fun d => (h.side d).trans (by cases d <;> rfl)
  have hshock : w.shock = s.shock := h.shock
  refine ⟨?_, rfl, fun d => ?_, ?_, fun z => (awakened_zone _ z).trans ((h.zone z).trans (by cases z <;> rfl)), h.table, h.pin, h.stage,
    fun d hst hrec => ?_⟩
  · change { w.standby with phase := .awake } = _
    rw [hstandby]
  · rw [awakened_side, hside]
    rfl
  · change { w.shock with converting := w.shock.enable } = _
    rw [hshock]
  · rw [awakened_deck]
    exact hdeck d hst hrec

theorem leaveStandby_awoken (s : State) : Awoken s (leaveStandby s) := by
  rw [leaveStandby_eq]
  refine awoken_of (sleepKept_unparkedDecks s) ((unparkedDecks_standby _).trans (finalSample_standby s)) fun d hst hrec => ?_
  have hlink := finalSample_link hrec
  rw [unparkedDecks_link (by rw [hlink]; exact hst), hlink]

/-! ## The wake timer (R206) -/

/-- A PARKED deck whose line has moved has lost its disc (R32, R206). -/
theorem sampleDeck_parked {d : Deck} {s : State} (h : s.recorded d ≠ some (s.side d).line) (hst : (s.deck d).link.state = .parked) :
    sampleDeck d s = raiseNotice (.deck d) (.deckState .noDisc (some .tray) none none)
      (toNoDisc d .tray (raiseNotice (.deck d) .wake (setRecorded d (some (s.side d).line) s))) := by
  have hparked : ((raiseNotice (.deck d) .wake (setRecorded d (some (s.side d).line) s)).deck d).link.state = .parked := by
    rw [raiseNotice_deck, setRecorded_deck]; exact hst
  unfold sampleDeck
  rw [if_pos ((lineMoved_iff d s).2 h)]
  unfold discSuspect
  dsimp only
  rw [hparked]
  dsimp only
  unfold toNoDisc
  exact announce_noDisc (by rw [onLink_same]) (by rw [onLink_same])

theorem wakeExpired_running {n : Nat} {s : State} (hp : s.standby.phase = .standby) (ht : s.standby.wakeTimer = some n) :
    wakeExpired s =
      (let t := together (sampleDeck .a) (sampleDeck .b) s
       let w : State := { t with standby := { t.standby with wakeTimer := some t.standby.wakePeriod } }
       if w.standby.wakeOnTray ∧ (lineMoved .a s || lineMoved .b s) = true then leaveStandby w else w) := by
  unfold wakeExpired
  dsimp only
  rw [hp, ht]

/-- A sample that finds at most the line of `d` moved (R206). -/
theorem samples_of_other {d : Deck} {s : State} (h : s.recorded (otherDeck d) = some (s.side (otherDeck d)).line) :
    together (sampleDeck .a) (sampleDeck .b) s = sampleDeck d s := by
  cases d with
  | a =>
    have hb : sampleDeck .b (sampleDeck .a s) = sampleDeck .a s := sampleDeck_still (by
      rw [(sleepKept_sampleDeck .a s).side]
      exact (sampleDeck_other .a s).2.trans h)
    rw [together_of_quiet _ _ _ (.inr (Nat.le_of_eq (by rw [hb]))), hb]
  | b =>
    have ha : sampleDeck .a s = s := sampleDeck_still h
    rw [together_of_quiet _ _ _ (.inl (Nat.le_of_eq (by rw [ha]))), ha]

theorem exec_wakeTimer (s : State) (h : Up s) : exec .wakeTimerExpiry s = .next (wakeExpired s) := whenUp_high s wakeExpired h

theorem exec_wake (s : State) (h : Up s) : exec .wake s = .next (settle (wakeAnswer s)) := whenUp_high s (fun s => settle (wakeAnswer s)) h

theorem exec_entryComplete (s : State) (h : Up s) : exec .standbyEntryComplete s = .next (finishEntry s) := whenUp_high s finishEntry h

/-- A sample after which the part stays in standby (R206). -/
theorem wakeExpired_stays {d : Deck} {n : Nat} {s : State} (hp : s.standby.phase = .standby) (ht : s.standby.wakeTimer = some n)
    (hother : s.recorded (otherDeck d) = some (s.side (otherDeck d)).line)
    (h : s.recorded d = some (s.side d).line ∨ s.standby.wakeOnTray = false) :
    wakeExpired s =
      { sampleDeck d s with standby := { (sampleDeck d s).standby with wakeTimer := some (sampleDeck d s).standby.wakePeriod } } := by
  have hkept := (sleepKept_sampleDeck d s).standby
  have honTray : (sampleDeck d s).standby.wakeOnTray = s.standby.wakeOnTray := by
    have := congrArg Standby.wakeOnTray hkept
    exact this
  rw [wakeExpired_running hp ht, samples_of_other hother]
  dsimp only
  refine if_neg ?_
  rintro ⟨hon, hmoved⟩
  rw [honTray] at hon
  rcases h with h | h
  · have hstill : ∀ e, lineMoved e s = false := fun e => by
      rw [← Bool.not_eq_true, lineMoved_iff, Decidable.not_not]
      cases d <;> cases e <;> first | exact h | exact hother
    rw [hstill, hstill] at hmoved
    cases hmoved
  · rw [h] at hon
    cases hon

/-- STANDBY taken with both zones at rest: the settings, the reply and the READY decks (R203, R204). -/
theorem standby_settles (settings : Option (Byte × BitVec 16)) (s : State) (hs : Awake s) (h1 : s.zone1.state = .stopped)
    (h2 : s.zone2.state = .stopped) (hrest : RestForm s) (h : ∀ b p, settings = some (b, p) → b.toNat ≤ 1) :
    ∃ t, exec (.standby settings) s = .next t ∧ StandbyEntered { s with standby := standbySettings settings s.standby } t ∧
      t.port.reply = some
        ⟨.ok, byte (standbySettings settings s.standby).wakeOnTray.toNat :: be2 (standbySettings settings s.standby).wakePeriod⟩ ∧
      ∀ d, (s.deck d).link.state = .ready → (s.deck d).link.outstanding = none → (s.deck d).link.usable ≠ none →
        (t.deck d).link = movingLink (.park .standby) (s.deck d).link := by
  obtain ⟨t, hexec, he, hreply⟩ := standby_enters settings s hs h1 h2 hrest h
  refine ⟨t, hexec, he, hreply, fun d hst ho hu => ?_⟩
  have hd : State.deck { s with standby := standbySettings settings s.standby } d = s.deck d := by cases d <;> rfl
  have hlink := he.parked d
  rw [hd] at hlink
  exact hlink hst ho hu

/-- WAKE in standby (R207). -/
theorem exec_wake_asleep (s : State) (hs : Up s) (hp : s.standby.phase = .standby) :
    exec .wake s = .next (settle (leaveStandby s, ok [])) := by
  rw [exec_wake s hs, wakeAnswer, hp]

theorem Awoken.settled {s t : State} (h : Awoken s t) (r : Reply) : Awoken s (settle (t, r)) where
  standby := h.standby
  debouncing := h.debouncing
  side d := (side_of_tray (onPort_tray _ _) d).trans (h.side d)
  shock := h.shock
  zone z := (settle_zone (t, r) z).trans (h.zone z)
  table := h.table
  pin := h.pin
  stage := h.stage
  unparked d := by rw [settle_deck]; exact h.unparked d

/-- The disc of a PARKED deck whose line has moved is lost in a sample (R32, R206). -/
structure DiscLost (d : Deck) (s t : State) : Prop where
  standby : t.standby = (setRecorded d (some (s.side d).line) s).standby
  deck : t.deck d = { s.deck d with link := { (s.deck d).link with state := .noDisc, cause := .noDisc .tray, disc := .absent } }
  other : t.deck (otherDeck d) = s.deck (otherDeck d)
  zone : ∀ z, t.zone z = s.zone z
  shock : t.shock = s.shock
  tray : t.tray = { s.tray with noteOne := keepNote d s.tray.noteOne, noteTwo := keepNote d s.tray.noteTwo }
  queue : t.port.queue = (raiseNotice (.deck d) (.deckState .noDisc (some .tray) none none) (raiseNotice (.deck d) .wake s)).port.queue

theorem discLost_of_parked {d : Deck} {s : State} (h : s.recorded d ≠ some (s.side d).line) (hst : (s.deck d).link.state = .parked) :
    DiscLost d s (sampleDeck d s) := by
  have hkept := sleepKept_sampleDeck d s
  have hother := (sampleDeck_other d s).1
  have hzone := hkept.zone
  have hshock := hkept.shock
  rw [sampleDeck_parked h hst] at hother hzone hshock ⊢
  unfold toNoDisc at hother hzone hshock ⊢
  refine ⟨?_, ?_, hother, hzone, hshock, ?_, ?_⟩
  · simp
  · rw [raiseNotice_deck, onLink_same, discardDisc_same, raiseNotice_deck, setRecorded_deck]
  · simp only [raiseNotice_tray, onLink_tray, discardDisc]
    cases d <;> rfl
  · refine congrArg Port.queue (raiseNotice_port_congr _ _ ?_)
    rw [onLink_port, discardDisc_port]
    exact raiseNotice_port_congr _ _ (by cases d <;> rfl)

/-- Settles O25: standby entered with both zones at rest, left by WAKE, and sampled by the wake timer. -/
theorem standbyIsEnteredAndLeft : Obligations.StandbyIsEnteredAndLeft := by
  refine ⟨fun settings s hs h1 h2 hrest => ⟨?_, fun h => ?_⟩, fun s hs => ⟨fun h => ?_, fun hp h1 h2 hrest => ?_⟩,
    fun s hs => ⟨fun hp => ?_, fun hp => ?_, fun hp => ?_⟩, fun d n s hs hp ht hother => ⟨fun h => ?_, fun h htray hst => ?_⟩⟩
  · rintro b p rfl hb
    rw [exec_standby _ s hs.1, standbyAnswer_bad p s hb]
    rfl
  · obtain ⟨t, hexec, he, hreply, hparked⟩ := standby_settles settings s hs h1 h2 hrest h
    refine ⟨t, hexec, he.standby, hreply, he.shock, he.debouncing, he.timerA, he.timerB, he.zone .one, he.zone .two, he.pin, he.stage,
      he.emptied, fun d hst ho hu => ?_⟩
    rw [hparked d hst ho hu]
    exact ⟨rfl, rfl⟩
  · have hnot : entryDue s = false := by
      unfold entryDue
      rcases h with h | h | h <;> simp [h]
    rw [exec_entryComplete s hs, finishEntry, hnot]
    rfl
  · have he := enterStandby_entered (atRest_of_stopped hrest h1 h2)
    refine ⟨enterStandby s, ?_, he.standby, he.shock, he.debouncing, he.zone .one, he.zone .two, he.pin, he.stage, he.emptied⟩
    rw [exec_entryComplete s hs, finishEntry_due hp h1 h2]
  · rw [exec_wake s hs, wakeAnswer, hp]
    rfl
  · rw [exec_wake s hs, wakeAnswer, hp]
    rfl
  · have he := (leaveStandby_awoken s).settled (ok [])
    exact ⟨_, exec_wake_asleep s hs hp, he.standby, he.debouncing, he.side, he.shock, he.zone .one, he.zone .two, rfl, he.table,
      he.pin, he.stage, he.unparked⟩
  · rw [exec_wakeTimer s hs, wakeExpired_stays hp ht hother (.inl h), sampleDeck_still h]
  · have hlost := discLost_of_parked h hst
    have hstandby := hlost.standby
    refine ⟨_, (exec_wakeTimer s hs).trans (congrArg _ (wakeExpired_stays hp ht hother (.inr htray))), ?_⟩
    generalize sampleDeck d s = t at hlost hstandby ⊢
    have hdeck : ∀ e b, State.deck { t with standby := b } e = t.deck e := fun e b => by cases e <;> rfl
    refine ⟨?_, ?_, ?_, (hdeck _ _).trans hlost.deck, (hdeck _ _).trans hlost.other, hlost.zone .one, hlost.zone .two, hlost.shock,
      hlost.tray, hlost.queue⟩
    · exact (congrArg Standby.phase hstandby).trans ((standby_setRecorded d _ s).trans hp)
    · change some t.standby.wakePeriod = some s.standby.wakePeriod
      rw [hstandby]
      cases d <;> rfl
    · change State.recorded { t with standby := { t.standby with wakeTimer := some t.standby.wakePeriod } } d = _
      rw [hstandby]
      cases d <;> rfl

end Sys2Proof.Proofs
end


section
/-!
PROOFS. The frame event over resting zones and over a zone that plays at unity gain (R110, R137).
-/

namespace Sys2Proof.Proofs

open Sys2Proof.Machine

/-! ## The parts of a frame that act on the zones alone (R137) -/

/-- Both zones replaced, `z` and the other. -/
def withZones (z : ZoneId) (n m : Zone) (s : State) : State := onZone z (fun _ => n) (onZone (otherZone z) (fun _ => m) s)

@[simp] theorem withZones_same (z : ZoneId) (n m : Zone) (s : State) : (withZones z n m s).zone z = n := by cases z <;> rfl
@[simp] theorem withZones_other (z : ZoneId) (n m : Zone) (s : State) : (withZones z n m s).zone (otherZone z) = m := by cases z <;> rfl

/-- What the parts of a frame leave of a zone that takes no part in it (R113). -/
def Resting (n m : Zone) : Prop :=
  ∃ b left right p c, m = { n with block := b, runLeft := left, runRight := right, pre := p, carry := c }

theorem Resting.refl (n : Zone) : Resting n n := ⟨n.block, n.runLeft, n.runRight, n.pre, n.carry, rfl⟩

theorem Resting.trans {n m k : Zone} (h : Resting n m) (g : Resting m k) : Resting n k := by
  obtain ⟨b, l, r, p, c, rfl⟩ := h
  obtain ⟨b', l', r', p', c', rfl⟩ := g
  exact ⟨b', l', r', p', c', rfl⟩

theorem Resting.state {n m : Zone} (h : Resting n m) : m.state = n.state := by obtain ⟨_, _, _, _, _, rfl⟩ := h; rfl

/-- A part of the frame changes zone `y` alone, and what it makes of it. -/
def ZonePart (f : ZoneId → State → State) (y : ZoneId) (R : Zone → Zone → Prop) (s : State) : Prop :=
  ∃ n, f y s = onZone y (fun _ => n) s ∧ R (s.zone y) n

/-- A part of the frame over both zones, the other STOPPED, changes the zones alone. -/
theorem together_zones {f : ZoneId → State → State} {z : ZoneId} {s : State} {R : Zone → Zone → Prop}
    (hs : (s.zone (otherZone z)).state = .stopped)
    (hplay : ∀ t, t.zone z = s.zone z → (t.zone (otherZone z)).state = .stopped → ZonePart f z R t)
    (hrest : ∀ t, (t.zone (otherZone z)).state = .stopped → ZonePart f (otherZone z) Resting t) :
    ∃ n m, together (f .one) (f .two) s = withZones z n m s ∧ R (s.zone z) n ∧ Resting (s.zone (otherZone z)) m := by
  have hquiet : ∀ {n : Zone}, f .one s = onZone .one (fun _ => n) s → together (f .one) (f .two) s = f .two (f .one s) := fun h =>
    together_of_quiet _ _ _ (.inl (Nat.le_of_eq (by rw [h, onZone_port])))
  cases z with
  | one =>
    obtain ⟨n, hn, hR⟩ := hplay s rfl hs
    obtain ⟨m, hm, hM⟩ := hrest (onZone .one (fun _ => n) s) hs
    exact ⟨n, m, by rw [hquiet hn, hn]; exact hm, hR, hM⟩
  | two =>
    obtain ⟨m, hm, hM⟩ := hrest s hs
    obtain ⟨n, hn, hR⟩ := hplay (onZone .one (fun _ => m) s) rfl (hM.state.trans hs)
    exact ⟨n, m, by rw [hquiet hm]; exact (congrArg (f .two) hm).trans hn, hR, hM⟩

/-! ## A STOPPED zone in a frame (R113, R137) -/

theorem rest_settleBlock {y : ZoneId} {s : State} (h : (s.zone y).state = .stopped) : ZonePart settleBlock y Resting s := by
  have hsame : onZone y (fun _ => s.zone y) s = s := onZone_id y _ s rfl
  unfold ZonePart settleBlock
  split
  · exact ⟨s.zone y, hsame.symm, .refl _⟩
  · split
    · refine ⟨{ s.zone y with block := none, runLeft := none, runRight := none }, ?_, ⟨_, _, _, _, _, rfl⟩⟩
      have hstate : ((onZone y (fun n => { n with block := none, runLeft := none, runRight := none }) s).zone y).state = .stopped := by
        rw [onZone_same]; exact h
      dsimp only
      rw [hstate]
      exact onZone_congr rfl
    · exact ⟨s.zone y, hsame.symm, .refl _⟩

theorem rest_findPreGain {y : ZoneId} {s : State} (h : (s.zone y).state = .stopped) : ZonePart findPreGain y Resting s := by
  unfold ZonePart findPreGain
  split
  · next hy =>
    obtain ⟨rfl, -⟩ := hy
    exact ⟨{ s.zone .two with pre := s.zone1.pre }, onZone_congr rfl, ⟨_, _, _, _, _, rfl⟩⟩
  · refine ⟨{ s.zone y with pre := Stereo.zero, carry := Stereo.zero }, ?_, ⟨_, _, _, _, _, rfl⟩⟩
    unfold preGain
    dsimp only
    rw [if_pos h]
    exact onZone_congr rfl

theorem rest_rampZone {y : ZoneId} {s : State} (h : (s.zone y).state = .stopped) : ZonePart rampZone y Resting s := by
  have hramped : (s.zone y).ramped = s.zone y := if_pos h
  refine ⟨s.zone y, ?_, .refl _⟩
  unfold rampZone
  dsimp only
  rw [onZone_same, hramped, if_neg (fun hn => hn.1 hn.2.1)]
  exact onZone_congr hramped

/-! ## The frame over two zones, one STOPPED (R137) -/

theorem withZones_withZones (z : ZoneId) (n m n' m' : Zone) (g : FrameStage) (s : State) :
    withZones z n m { withZones z n' m' s with stage := g } = { withZones z n m s with stage := g } := by cases z <;> rfl

theorem withStage_zone (g : FrameStage) (s : State) (y : ZoneId) : State.zone { s with stage := g } y = s.zone y := by cases y <;> rfl

/-- A frame event in which zone `z` goes through `R₁` to `R₃`, the other STOPPED (R137). -/
theorem frame_zones {z : ZoneId} {s : State} {R₁ R₂ R₃ : Zone → Zone → Prop} (hedge : s.stage = .edge)
    (hs : (s.zone (otherZone z)).state = .stopped)
    (h₁ : ∀ t, t.zone z = s.zone z → (t.zone (otherZone z)).state = .stopped → ZonePart settleBlock z R₁ t)
    (h₂ : ∀ t, R₁ (s.zone z) (t.zone z) → (t.zone (otherZone z)).state = .stopped → ZonePart findPreGain z R₂ t)
    (h₃ : ∀ n t, R₁ (s.zone z) n → R₂ n (t.zone z) → (t.zone (otherZone z)).state = .stopped → ZonePart rampZone z R₃ t) :
    ∃ n₁ n₂ n₃ m, R₁ (s.zone z) n₁ ∧ R₂ n₁ n₂ ∧ R₃ n₂ n₃ ∧ Resting (s.zone (otherZone z)) m ∧
      frame s = withZones z n₃.emit m.emit s := by
  obtain ⟨n₁, m₁, heq₁, hR₁, hM₁⟩ := together_zones hs h₁ fun t => rest_settleBlock
  have hsettled : toSettled s = { withZones z n₁ m₁ s with stage := .settled } := by
    unfold toSettled
    rw [hedge, heq₁]
  let s₁ : State := { withZones z n₁ m₁ s with stage := .settled }
  have hz₁ : s₁.zone z = n₁ := (withStage_zone _ _ _).trans (withZones_same ..)
  have ho₁ : s₁.zone (otherZone z) = m₁ := (withStage_zone _ _ _).trans (withZones_other ..)
  obtain ⟨n₂, m₂, heq₂, hR₂, hM₂⟩ := together_zones (s := s₁) (R := R₂) (z := z) (f := findPreGain)
    (by rw [ho₁, hM₁.state]; exact hs) (fun t ht hst => h₂ t (by rw [ht, hz₁]; exact hR₁) hst) fun t => rest_findPreGain
  rw [hz₁] at hR₂
  rw [ho₁] at hM₂
  have hconcealed : toConcealed s = { withZones z n₂ m₂ s₁ with stage := .concealed } := by
    unfold toConcealed
    dsimp only
    rw [hsettled]
    exact congrArg (fun t : State => { t with stage := .concealed }) heq₂
  let s₂ : State := { withZones z n₂ m₂ s₁ with stage := .concealed }
  have hz₂ : s₂.zone z = n₂ := (withStage_zone _ _ _).trans (withZones_same ..)
  have ho₂ : s₂.zone (otherZone z) = m₂ := (withStage_zone _ _ _).trans (withZones_other ..)
  obtain ⟨n₃, m₃, heq₃, hR₃, hM₃⟩ := together_zones (s := s₂) (R := R₃) (z := z) (f := rampZone)
    (by rw [ho₂, hM₂.state, hM₁.state]; exact hs) (fun t ht hst => h₃ n₁ t hR₁ (by rw [ht, hz₂]; exact hR₂) hst) fun t => rest_rampZone
  rw [hz₂] at hR₃
  rw [ho₂] at hM₃
  have hramped : toRamped s = { withZones z n₃ m₃ s₂ with stage := .ramped } := by
    unfold toRamped
    dsimp only
    rw [hconcealed]
    exact congrArg (fun t : State => { t with stage := .ramped }) heq₃
  refine ⟨n₁, n₂, n₃, m₃, hR₁, hR₂, hR₃, (hM₁.trans hM₂).trans hM₃, ?_⟩
  unfold frame
  rw [hramped]
  cases z <;> simp [s₂, s₁, withZones, otherZone, onZone, ← hedge]

theorem frame_settles {s t : State} (hs : Settled s) (h : frame s = t) (hstandby : t.standby = s.standby) : exec .frameEvent s = .next t :=
  (event_settled s frame hs (by rw [h]; exact hstandby)).trans (congrArg _ h)

theorem withZones_fields (z : ZoneId) (n m : Zone) (s : State) :
    (withZones z n m s).deckA = s.deckA ∧ (withZones z n m s).deckB = s.deckB ∧ (withZones z n m s).tray = s.tray ∧
      (withZones z n m s).port = s.port ∧ SamePart s (withZones z n m s) := by
  cases z <;> exact ⟨rfl, rfl, rfl, rfl, rfl, rfl, rfl, rfl, rfl⟩

/-- What a STOPPED zone emits (R137). -/
theorem emit_resting {n m : Zone} (h : n.state = .stopped) (hm : Resting n m) :
    m.emit.state = .stopped ∧ m.emit.emitted = ⟨0, 0⟩ ∧ m.emit.emittedPrev = n.emitted ∧
      m.emit.blockPhase = (n.blockPhase + 1) % 588 ∧ m.emit.ramp = n.ramp ∧ m.emit.set = n.set ∧ m.emit.mark = n.mark := by
  obtain ⟨b, l, r, p, c, rfl⟩ := hm
  refine ⟨h, ?_, rfl, rfl, rfl, rfl, rfl⟩
  unfold Zone.emit
  dsimp only
  rw [h]
  rfl

/-! ## A zone that plays at unity gain (R137, R149, R150) -/

/-- A clean sample goes through as it stands (R137 step 2). -/
theorem channelFrame_clean {h : InHand} {f channel : Nat} (hv : h.state ≠ .void) (hm : h.data.marks.getD (samplePos f channel) true = false)
    (next : Option Sample) (span : Nat) (carry : Sample) (run : Option SettledRun) :
    channelFrame h next span carry run f channel = { x := h.data.sample (samplePos f channel), run := none, clean := true, long := false } := by
  have hclean : h.doubtful (samplePos f channel) = false := by
    unfold InHand.doubtful
    rw [hm, Bool.or_false]
    simpa using hv
  unfold channelFrame
  dsimp only
  rw [if_neg (by rw [hclean]; decide)]

/-- A zone that no active mirror follows. -/
abbrev Unfollowed (z : ZoneId) (s : State) : Prop := mirrorActive s = false ∨ z = .two

theorem follow_of_unfollowed {z : ZoneId} {s : State} (h : Unfollowed z s) : follow z s = s := by
  cases z with
  | one =>
    unfold follow mirrorSync
    exact if_neg (by rw [h.resolve_right (by decide)]; decide)
  | two => rfl

theorem Unfollowed.onZone {z : ZoneId} {s : State} (h : Unfollowed z s) (f : Zone → Zone) : Unfollowed z (onZone z f s) := by
  cases z with
  | one => exact .inl (h.resolve_right (by decide))
  | two => exact .inr rfl

/-- A frame without a CONCEAL or a long run leaves the counts (R145). -/
theorem concealTests_clean {z : ZoneId} {s : State} (hm : Unfollowed z s) (hc : (s.zone z).causes.conceal = false) :
    concealTests z false true s = s := by
  have hsame : onZone z (fun n => n.counted true) s = s := onZone_id z _ s (by
    unfold Zone.counted
    exact if_neg (by rw [hc]; decide))
  unfold concealTests
  dsimp only
  rw [if_neg (by decide), hsame, follow_of_unfollowed hm]

/-- A zone after a clean frame of its block (R137 steps 2 to 4). -/
def playedFrame (x : Stereo) (n : Zone) : Zone := { n with pre := x, carry := x, runLeft := none, runRight := none }

/-- The two samples of a frame of a block (R1). -/
def framePair (b : Block) (f : Nat) : Stereo := ⟨b.sample (2 * f), b.sample (2 * f + 1)⟩

/-- A zone that plays a clean frame of its block in hand, with no cause raised (R137). -/
structure PlaysClean (d : Deck) (h : InHand) (n : Zone) : Prop where
  source : n.source = .deck d
  state : n.state = .playing
  block : n.block = some h
  causes : n.causes = Causes.empty
  inherited : n.inherited = Causes.empty
  ramp : n.ramp = 32768
  solid : h.state ≠ .void
  left : h.data.marks.getD (2 * n.blockPhase) true = false
  right : h.data.marks.getD (2 * n.blockPhase + 1) true = false

theorem PlaysClean.played {d : Deck} {h : InHand} {n : Zone} (hp : PlaysClean d h n) (x : Stereo) : PlaysClean d h (playedFrame x n) :=
  ⟨hp.source, hp.state, hp.block, hp.causes, hp.inherited, hp.ramp, hp.solid, hp.left, hp.right⟩

theorem unfollowed_of_stopped {z : ZoneId} {s : State} (h : (s.zone (otherZone z)).state = .stopped) : Unfollowed z s := by
  cases z with
  | one =>
    have h2 : s.zone2.state = .stopped := h
    exact .inl (by simp [mirrorActive, h2])
  | two => exact .inr rfl

/-- Steps 2 to 4 of R137 for a clean frame of the block in hand. -/
theorem findPreGain_clean {z : ZoneId} {d : Deck} {h : InHand} {s : State} (hst : (s.zone z).state ≠ .stopped)
    (hsrc : (s.zone z).source = .deck d) (hb : (s.zone z).block = some h) (hv : h.state ≠ .void)
    (hl : h.data.marks.getD (2 * (s.zone z).blockPhase) true = false)
    (hr : h.data.marks.getD (2 * (s.zone z).blockPhase + 1) true = false) :
    findPreGain z s = concealTests z false true (onZone z (playedFrame (framePair h.data (s.zone z).blockPhase)) s) := by
  unfold findPreGain
  rw [if_neg (not_mirror_of_deck hsrc)]
  unfold preGain
  dsimp only
  rw [if_neg hst, hb, deck?_of_source hsrc]
  dsimp only
  rw [channelFrame_clean (channel := 0) hv hl, channelFrame_clean (channel := 1) hv hr]
  exact congrArg (concealTests z false true) (onZone_congr rfl)

theorem play_findPreGain {z : ZoneId} {d : Deck} {h : InHand} {s : State} (hp : PlaysClean d h (s.zone z))
    (ho : (s.zone (otherZone z)).state = .stopped) :
    findPreGain z s = onZone z (playedFrame (framePair h.data (s.zone z).blockPhase)) s := by
  rw [findPreGain_clean (by rw [hp.state]; decide) hp.source hp.block hp.solid hp.left hp.right]
  refine concealTests_clean (unfollowed_of_stopped (by rw [onZone_other]; exact ho)) ?_
  rw [onZone_same]
  exact congrArg Causes.conceal hp.causes

/-- A zone whose ramp stands at its target (R147). -/
def rampRested (n : Zone) : Zone := { n with rampCount := 0 }

theorem rampTarget_empty {n : Zone} (hst : n.state ≠ .stopped) (hc : n.causes = Causes.empty) (hi : n.inherited = Causes.empty) :
    n.rampTarget = 32768 := by
  have hm : n.mutes = Causes.empty := by unfold Zone.mutes; rw [hc, hi]; rfl
  unfold Zone.rampTarget
  rw [if_neg hst, if_pos hm]
  rfl

/-- The ramp of a zone at unity with no cause raised stands (R147). -/
theorem play_rampZone {z : ZoneId} {d : Deck} {h : InHand} {s : State} (hp : PlaysClean d h (s.zone z)) :
    rampZone z s = onZone z rampRested s := by
  have hplay : (s.zone z).state ≠ .stopped := by rw [hp.state]; decide
  have hramped : (s.zone z).ramped = rampRested (s.zone z) := by
    unfold Zone.ramped
    rw [if_neg hplay, rampTarget_empty hplay hp.causes hp.inherited, if_pos hp.ramp]
    rfl
  unfold rampZone
  dsimp only
  rw [onZone_same, hramped, if_neg (fun hn => hn.1 hn.2.1)]
  exact onZone_congr hramped

/-- Unity gain gives a sample as it stands (R150). -/
theorem outputExact_unity (x : Sample) : outputExact x 32768 = x.toInt := by
  have hq : roundedQuotient (x.toInt * (32768 : Nat)).natAbs 32768 = x.toInt.natAbs := by
    rw [Int.natAbs_mul, Int.natAbs_natCast]
    unfold roundedQuotient
    omega
  have heq : outputExact x 32768 = if x.toInt * (32768 : Nat) < 0 then -(roundedQuotient (x.toInt * (32768 : Nat)).natAbs 32768 : Int)
      else (roundedQuotient (x.toInt * (32768 : Nat)).natAbs 32768 : Int) := roundAway_eq _ _
  rw [heq, hq]
  split <;> omega

theorem output_unity (x : Sample) : output x 32768 = x ∧ clampsAt x 32768 = false := by
  have hr := sample_range x
  have hc : clampSample x.toInt = x.toInt := by unfold clampSample; omega
  refine ⟨?_, ?_⟩
  · unfold output
    rw [outputExact_unity, hc]
    exact BitVec.ofInt_toInt
  · unfold clampsAt
    rw [outputExact_unity, hc]
    simp

/-- The frame that a zone at unity gain emits (R149, R150). -/
theorem emit_unity {n : Zone} (hst : n.state ≠ .stopped) (hr : n.ramp = 32768) (hl : n.level = 32768) (hc : n.stats.clamped ≤ 65535) :
    n.emit = { n with emitted := n.pre, emittedPrev := n.emitted, blockPhase := (n.blockPhase + 1) % 588 } := by
  have hg : n.gain = 32768 := by unfold Zone.gain; rw [hl, hr]; rfl
  have hb : bump 0 n.stats.clamped = n.stats.clamped := bump_eq 0 _ hc
  unfold Zone.emit
  dsimp only
  rw [hg, (output_unity n.pre.left).1, (output_unity n.pre.right).1, (output_unity n.pre.left).2, (output_unity n.pre.right).2,
    if_neg (by simpa using hst), if_neg (by simpa using hst)]
  change { n with emitted := n.pre, emittedPrev := n.emitted, blockPhase := (n.blockPhase + 1) % 588,
                  stats := { n.stats with clamped := bump 0 n.stats.clamped } } = _
  rw [hb]

/-- What a zone emits after a clean frame at unity gain (R137). -/
theorem emit_played {n : Zone} (x : Stereo) (hst : n.state ≠ .stopped) (hr : n.ramp = 32768) (hl : n.level = 32768)
    (hc : n.stats.clamped ≤ 65535) :
    (rampRested (playedFrame x n)).emit.emitted = x ∧ (rampRested (playedFrame x n)).emit.carry = x ∧
      (rampRested (playedFrame x n)).emit.ramp = n.ramp ∧ (rampRested (playedFrame x n)).emit.causes = n.causes ∧
      (rampRested (playedFrame x n)).emit.blockPhase = (n.blockPhase + 1) % 588 ∧
      (rampRested (playedFrame x n)).emit.stats = n.stats := by
  rw [emit_unity (n := rampRested (playedFrame x n)) hst hr hl hc]
  exact ⟨rfl, rfl, rfl, rfl, rfl, rfl⟩

/-- Inside a block its boundary does nothing (R114). -/
theorem settleBlock_inside {z : ZoneId} {s : State} (h : 0 < (s.zone z).blockPhase) : settleBlock z s = s := by
  unfold settleBlock
  split
  · rfl
  · exact if_neg (by omega)

/-- Settles O57: a frame over two STOPPED zones, and one inside a block at unity gain. -/
theorem frameEventEmitsOneFrame : Obligations.FrameEventEmitsOneFrame := by
  refine ⟨fun s hs hedge h1 h2 => ?_, fun z d h s hs hedge hsrc ho hst hb hc hi hr hl hphase hclamp hv hml hmr => ?_⟩
  · have hstopped : ∀ {n : Zone}, Resting s.zone1 n → n.state = .stopped := fun h => h.state.trans h1
    obtain ⟨n₁, n₂, n₃, m, hR₁, hR₂, hR₃, hM, hframe⟩ := frame_zones (z := .one) (R₁ := Resting) (R₂ := Resting) (R₃ := Resting) hedge h2
      (fun t ht _ => rest_settleBlock (by rw [ht]; exact h1)) (fun t ht _ => rest_findPreGain (hstopped ht))
      (fun n t hn ht _ => rest_rampZone (hstopped (hn.trans ht)))
    obtain ⟨hA, hB, htray, hport, hpart⟩ := withZones_fields .one n₃.emit m.emit s
    refine ⟨_, frame_settles hs hframe hpart.2.2.1, fun z => ?_, hA, hB, htray, hport, hpart⟩
    cases z with
    | one => exact emit_resting h1 ((hR₁.trans hR₂).trans hR₃)
    | two => exact emit_resting h2 hM
  · have hplays : PlaysClean d h (s.zone z) := ⟨hsrc, hst, hb, hc, hi, hr, hv, hml, hmr⟩
    let x : Stereo := framePair h.data (s.zone z).blockPhase
    obtain ⟨n₁, n₂, n₃, m, rfl, rfl, rfl, hM, hframe⟩ := frame_zones (z := z) (R₁ := fun n m => m = n)
      (R₂ := fun n m => m = playedFrame (framePair h.data n.blockPhase) n) (R₃ := fun n m => m = rampRested n) hedge ho
      (fun t ht _ => ⟨_, (settleBlock_inside (by rw [ht]; exact hphase)).trans (onZone_id z _ t rfl).symm, rfl⟩)
      (fun t ht hto => ⟨_, (play_findPreGain (by rw [ht]; exact hplays) hto).trans (onZone_congr rfl), rfl⟩)
      (fun n t hn ht hto => ⟨_, (play_rampZone (d := d) (h := h) (by rw [ht, hn]; exact hplays.played _)).trans (onZone_congr rfl), rfl⟩)
    obtain ⟨hA, hB, htray, hport, hpart⟩ := withZones_fields z (rampRested (playedFrame x (s.zone z))).emit m.emit s
    obtain ⟨he, hcarry, hramp, hcauses, hblock, hstats⟩ := emit_played x (by rw [hst]; decide) hr hl hclamp
    refine ⟨_, frame_settles hs hframe hpart.2.2.1, ?_⟩
    dsimp only
    rw [withZones_same]
    exact ⟨he, hcarry.trans he.symm, hramp.trans hr, hcauses.trans hc, hblock, hstats, hA, hB, htray, hport, hpart⟩

end Sys2Proof.Proofs
end


section
/-!
PROOFS. Ramp steps (R112, R113, R147) and the end of CONCEAL (R145, R146).
-/

namespace Sys2Proof.Proofs

open Sys2Proof.Machine

/-! ## When a ramp step is due (R147) -/

theorem toConcealed_concealed {s : State} (h : s.stage = .concealed) : toConcealed s = s := by
  have hsettled : toSettled s = s := by unfold toSettled; rw [h]
  unfold toConcealed
  dsimp only
  rw [hsettled, h]

theorem rampDue_concealed {s : State} (h : s.stage = .concealed) (z : ZoneId) : rampDue z s = (s.zone z).stepDue := by
  unfold rampDue
  rw [toConcealed_concealed h, h]
  rfl

/-- A ramp step that is not due (R147, log entry 8). -/
theorem rampStep_undue {z : ZoneId} {s : State} (hs : Settled s) (hstage : s.stage = .concealed) (h : (s.zone z).stepDue = false) :
    exec (.rampStep z) s = .next s := by
  have hsame : (if rampDue z s then toRamped s else s) = s := if_neg (by rw [rampDue_concealed hstage, h]; decide)
  exact (event_settled s (fun s => if rampDue z s then toRamped s else s) hs (congrArg State.standby hsame)).trans (congrArg _ hsame)

/-- The ramp of a STOPPED zone stands (R147). -/
theorem rampZone_stopped {y : ZoneId} {s : State} (h : (s.zone y).state = .stopped) : rampZone y s = s := by
  have hramped : (s.zone y).ramped = s.zone y := if_pos h
  unfold rampZone
  dsimp only
  rw [onZone_same, hramped, if_neg (fun hn => hn.1 hn.2.1)]
  exact onZone_id y _ s hramped

/-- The ramp steps of both zones, the other STOPPED before and after. -/
theorem together_rampZone {z : ZoneId} {s : State} (h : (s.zone (otherZone z)).state = .stopped)
    (h' : ((rampZone z s).zone (otherZone z)).state = .stopped) : together (rampZone .one) (rampZone .two) s = rampZone z s := by
  cases z with
  | one =>
    have hsame : rampZone .two (rampZone .one s) = rampZone .one s := rampZone_stopped h'
    rw [together_of_quiet _ _ _ (.inr (Nat.le_of_eq (by rw [hsame]))), hsame]
  | two =>
    have hsame : rampZone .one s = s := rampZone_stopped h
    rw [together_of_quiet _ _ _ (.inl (Nat.le_of_eq (by rw [hsame]))), hsame]

/-- A ramp step that is due (R147, log entry 8). -/
theorem rampStep_made {z : ZoneId} {s t : State} (hs : Settled s) (hstage : s.stage = .concealed) (hdue : (s.zone z).stepDue = true)
    (h : (s.zone (otherZone z)).state = .stopped) (heq : rampZone z s = t) (h' : (t.zone (otherZone z)).state = .stopped)
    (hstandby : t.standby = s.standby) : exec (.rampStep z) s = .next { t with stage := .ramped } := by
  subst heq
  have hmade : (if rampDue z s then toRamped s else s) = { rampZone z s with stage := .ramped } := by
    rw [if_pos (by rw [rampDue_concealed hstage, hdue])]
    unfold toRamped
    dsimp only
    rw [toConcealed_concealed hstage, hstage, together_rampZone h h']
  exact (event_settled s (fun s => if rampDue z s then toRamped s else s) hs ((congrArg State.standby hmade).trans hstandby)).trans
    (congrArg _ hmade)

/-! ## What a ramp step makes of its zone (R112, R147) -/

theorem mutes_of_uninherited {n : Zone} (h : n.inherited = Causes.empty) : n.mutes = n.causes := by
  unfold Zone.mutes
  rw [h]
  cases n.causes
  simp [Causes.union, Causes.empty]

theorem rampTarget_raised {n : Zone} (hi : n.inherited = Causes.empty) (hc : n.causes ≠ Causes.empty) : n.rampTarget = 0 := by
  unfold Zone.rampTarget
  split
  · rfl
  · rw [mutes_of_uninherited hi, if_neg hc]

theorem fast_of_uninherited {n : Zone} (h : n.inherited = Causes.empty) : n.fast = (n.causes.protect || n.causes.conceal) := by
  unfold Zone.fast; rw [mutes_of_uninherited h]

/-- A ramp that does not act by R113 only moves. -/
theorem rampZone_moves {z : ZoneId} {s : State} {f : Zone → Zone} (hm : (s.zone z).ramped = f (s.zone z))
    (h : (s.zone z).rampTarget ≠ 0 ∨ (f (s.zone z)).ramp ≠ 0) : rampZone z s = onZone z f s := by
  unfold rampZone
  dsimp only
  rw [onZone_same, hm, if_neg (fun hn => h.elim (fun h => h hn.2.2) fun h => h hn.2.1)]
  exact onZone_congr hm

/-- A zone whose ramp has reached 0. -/
def silenced (n : Zone) : Zone := { n with ramp := 0, rampCount := 0 }

/-- A ramp that reaches 0 makes its zone act by R113. -/
theorem rampZone_silences {z : ZoneId} {s : State} (hm : (s.zone z).ramped = silenced (s.zone z)) (hr : (s.zone z).ramp ≠ 0)
    (ht : (s.zone z).rampTarget = 0) : rampZone z s = reachZero z (onZone z silenced s) := by
  unfold rampZone
  dsimp only
  rw [onZone_same, hm, if_pos ⟨hr, rfl, ht⟩]
  exact congrArg (reachZero z) (onZone_congr hm)

theorem moveToward_zero (r d : Nat) : moveToward r 0 d = r - d := by
  unfold moveToward
  rw [if_neg (by omega)]
  omega

theorem moveToward_unity {r : Nat} (h : r < 32768) (d : Nat) : moveToward r 32768 d = min 32768 (r + d) := if_pos h

theorem fast_of_empty {n : Zone} (hi : n.inherited = Causes.empty) (hc : n.causes = Causes.empty) : n.fast = false := by
  rw [fast_of_uninherited hi, hc]; rfl

/-- A rising ramp: its period not full, and full (R147). -/
theorem rising_ramp {n : Zone} (hst : n.state ≠ .stopped) (hi : n.inherited = Causes.empty) (hc : n.causes = Causes.empty)
    (hr : n.ramp < 32768) :
    (n.rampCount + 1 < n.set.period → n.stepDue = false) ∧
      (n.set.period ≤ n.rampCount + 1 → n.stepDue = true ∧
        n.ramped = { n with ramp := min 32768 (n.ramp + n.set.step), rampCount := 0 }) := by
  have ht := rampTarget_empty hst hc hi
  have hf := fast_of_empty hi hc
  have hne : n.ramp ≠ 32768 := by omega
  refine ⟨fun hp => ?_, fun hp => ⟨?_, ?_⟩⟩
  · unfold Zone.stepDue
    rw [ht, hf, decide_eq_false (by omega)]
    simp
  · unfold Zone.stepDue
    rw [ht, hf, decide_eq_true hp]
    simp [hst, hne]
  · unfold Zone.ramped
    rw [if_neg hst, ht, if_neg hne, hf, if_neg (by decide), if_neg (by omega), moveToward_unity hr]

/-- The causes of the fast fall (R112). -/
abbrev Falls (n : Zone) : Prop := n.causes.protect = true ∨ n.causes.conceal = true

theorem Falls.causes {n : Zone} (h : Falls n) : n.causes ≠ Causes.empty := fun he => by
  rcases h with h | h <;> rw [he] at h <;> cases h

theorem fast_iff {n : Zone} (hi : n.inherited = Causes.empty) : n.fast = true ↔ Falls n := by
  rw [fast_of_uninherited hi]
  exact Bool.or_eq_true_iff

/-- A falling ramp: a step is due, and what it makes of the ramp (R147). -/
theorem falling_ramp {n : Zone} (hst : n.state ≠ .stopped) (hi : n.inherited = Causes.empty) (hc : n.causes ≠ Causes.empty)
    (hr : 0 < n.ramp) :
    (Falls n → n.stepDue = true ∧ n.ramped = { n with ramp := n.ramp - 4096, rampCount := 0 }) ∧
      (¬ Falls n → n.set.period ≤ n.rampCount + 1 →
        n.stepDue = true ∧ n.ramped = { n with ramp := n.ramp - n.set.step, rampCount := 0 }) := by
  have ht := rampTarget_raised hi hc
  have hne : n.ramp ≠ 0 := by omega
  refine ⟨fun h => ⟨?_, ?_⟩, fun h hp => ⟨?_, ?_⟩⟩
  · unfold Zone.stepDue
    rw [ht, (fast_iff hi).2 h]
    simp [hst, hne]
  · unfold Zone.ramped
    rw [if_neg hst, ht, if_neg hne, if_pos ((fast_iff hi).2 h), moveToward_zero]
    rfl
  · unfold Zone.stepDue
    rw [ht, decide_eq_true hp]
    simp [hst, hne]
  · unfold Zone.ramped
    rw [if_neg hst, ht, if_neg hne, if_neg (fun hf => h ((fast_iff hi).1 hf)), if_neg (by omega), moveToward_zero]

/-- The step that brings a falling ramp to 0 (R113, R147). -/
theorem silencing_ramp {n : Zone} (hst : n.state ≠ .stopped) (hi : n.inherited = Causes.empty) (hc : n.causes ≠ Causes.empty)
    (hr : 0 < n.ramp) (h : if Falls n then n.ramp ≤ 4096 else n.ramp ≤ n.set.step ∧ n.set.period ≤ n.rampCount + 1) :
    n.stepDue = true ∧ n.ramped = silenced n := by
  obtain ⟨hfast, hslow⟩ := falling_ramp hst hi hc hr
  by_cases hf : Falls n
  · rw [if_pos hf] at h
    obtain ⟨hdue, hramped⟩ := hfast hf
    refine ⟨hdue, hramped.trans ?_⟩
    rw [Nat.sub_eq_zero_of_le h]
    rfl
  · rw [if_neg hf] at h
    obtain ⟨hdue, hramped⟩ := hslow hf h.2
    refine ⟨hdue, hramped.trans ?_⟩
    rw [Nat.sub_eq_zero_of_le h.1]
    rfl

/-! ## A ramp at 0 (R113) -/

theorem enterZone_source (z : ZoneId) (st : ZoneState) (s : State) (y : ZoneId) :
    ((enterZone z st s).zone y).source = (s.zone y).source := by
  by_cases hy : y = z
  · rw [hy, enterZone_same]
  · rw [otherZone_of_ne hy, enterZone_other]

theorem mirroring_enterZone (z : ZoneId) (st : ZoneState) (s : State) : mirroring (enterZone z st s) = mirroring s :=
  mirroring_of_sources (enterZone_source z st s)

section
variable {z : ZoneId} {s : State} (hm : mirroring s = false)
include hm

theorem not_mirror_of_none : ¬ (z = .two ∧ mirroring s = true) := fun h => by rw [h.2] at hm; cases hm

theorem reachZero_switches {r : PlayRange} (hsw : (s.zone z).causes.switch = true) (hr : (s.zone z).pendingRange = some r) :
    reachZero z s = beginRange z r (s.zone z).pendingCue s := by
  unfold reachZero
  dsimp only
  rw [if_neg (not_mirror_of_none hm), if_pos hsw, hr]

theorem reachZero_stops (hsw : (s.zone z).causes.switch = false) (hst : (s.zone z).causes.stop = true) :
    reachZero z s = enterStopped z s := by
  unfold reachZero
  dsimp only
  rw [if_neg (not_mirror_of_none hm), if_neg (by rw [hsw]; decide), if_pos hst]

theorem reachZero_pauses (hplay : (s.zone z).state = .playing) (hsw : (s.zone z).causes.switch = false)
    (hst : (s.zone z).causes.stop = false) (hp : (s.zone z).causes.pause = true) : reachZero z s = enterZone z .paused s := by
  unfold reachZero
  dsimp only
  rw [if_neg (not_mirror_of_none hm), if_neg (by rw [hsw]; decide), if_neg (by rw [hst]; decide), if_pos hp, if_pos (.inl hplay),
    follow_of_none ((mirroring_enterZone z _ s).trans hm)]

theorem reachZero_starves (hplay : (s.zone z).state = .playing) (hsw : (s.zone z).causes.switch = false)
    (hst : (s.zone z).causes.stop = false) (hp : (s.zone z).causes.pause = false) (hstarve : (s.zone z).causes.starve = true) :
    reachZero z s = enterZone z .starved s := by
  unfold reachZero
  dsimp only
  rw [if_neg (not_mirror_of_none hm), if_neg (by rw [hsw]; decide), if_neg (by rw [hst]; decide), if_neg (by rw [hp]; decide),
    if_pos hstarve, if_pos hplay, follow_of_none ((mirroring_enterZone z _ s).trans hm)]

end

/-! ## A zone STOPPED at the ramp's foot (R113, R177) -/

theorem releasedLink_disc (l : Link) : (releasedLink l).disc = l.disc := by
  unfold releasedLink
  split
  · change l.released.disc = l.disc
    unfold Link.released
    cases l.state <;> dsimp only
    case stalled => split <;> rfl
    all_goals rfl
  · rfl

theorem notesOnly_takeNote (z : ZoneId) (why : StopReason) (s : State) : NotesOnly s (takeNote z why s) := by
  have hrefl : NotesOnly s s := ⟨s.tray.table, s.tray.noteOne, s.tray.noteTwo, s.drawn, rfl⟩
  unfold takeNote
  dsimp only
  split
  · split
    · split
      · cases z <;> exact ⟨_, _, _, _, rfl⟩
      · exact hrefl
    · exact hrefl
  · exact hrefl

theorem takeNote_none {z : ZoneId} {d : Deck} {why : StopReason} {s : State} (hsrc : (s.zone z).source = .deck d)
    (h : (why ≠ .host ∧ why ≠ .standby) ∨ (s.deck d).link.usable = none) : takeNote z why s = s := by
  unfold takeNote
  dsimp only
  split
  · next hwhy =>
    have hu : (s.deck d).link.usable = none := h.resolve_left fun hn => hwhy.elim hn.1 hn.2
    rw [deck?_of_source hsrc]
    dsimp only
    rw [hu]
  · rfl

theorem takeNote_some {z : ZoneId} {d : Deck} {why : StopReason} {s : State} {c : Catalogue} {r : PlayRange} {p : Nat}
    (hsrc : (s.zone z).source = .deck d) (hwhy : why = .host ∨ why = .standby) (hc : (s.deck d).link.disc = .usable c)
    (hr : (s.zone z).range = some r) (hp : (s.zone z).position = some p) :
    takeNote z why s =
      setNote z (some { deck := d, fingerprint := c.fingerprint, range := r, cue := (s.zone z).cue, position := p, reason := why }) s := by
  unfold takeNote
  dsimp only
  rw [if_pos hwhy, deck?_of_source hsrc]
  dsimp only
  rw [(usable_eq_some _ _).2 hc, hr, hp]

/-- Entry into STOPPED of a zone that no zone follows (R113). -/
structure StoppedWith (z : ZoneId) (d : Deck) (why : StopReason) (s t : State) : Prop where
  zone : t.zone z = (s.zone z).ended why
  otherZone : t.zone (otherZone z) = s.zone (otherZone z)
  deck : t.deck d = flushedUnit (s.deck d)
  otherDeck : t.deck (otherDeck d) = s.deck (otherDeck d)
  port : t.port = (raiseNotice (.zone z) (.zoneState .stopped (some why)) s).port
  tray : t.tray = (takeNote z why s).tray

theorem enterStopped_with {z : ZoneId} {d : Deck} {s : State} (hm : mirroring s = false) (hsrc : (s.zone z).source = .deck d)
    (hother : (s.zone (otherZone z)).source ≠ .deck d) : StoppedWith z d (s.zone z).stopReason s (enterStopped z s) := by
  have hnotes := notesOnly_takeNote z (s.zone z).stopReason s
  generalize hv : takeNote z (s.zone z).stopReason s = v at hnotes
  have hvport : v.port = s.port := by obtain ⟨_, _, _, _, rfl⟩ := hnotes; rfl
  let w : State := onZone z (fun n => { n.cleared with state := .stopped }) v
  have hw : enterZone z .stopped (onZone z Zone.cleared v) =
      raiseNotice (.zone z) (.zoneState .stopped (some (s.zone z).stopReason)) w := by
    unfold enterZone
    dsimp only
    rw [onZone_onZone, if_pos rfl, onZone_same, hnotes.zone]
    rfl
  have hwz : w.zone z = { (s.zone z).cleared with state := .stopped } := by rw [← hnotes.zone]; exact onZone_same _ _ _
  have hwo : w.zone (otherZone z) = s.zone (otherZone z) := by rw [← hnotes.zone]; exact onZone_other _ _ _
  have hzo : zoneOf d (raiseNotice (.zone z) (.zoneState .stopped (some (s.zone z).stopReason)) w) = some z :=
    zoneOf_of_only (by rw [raiseNotice_zone, hwz]; exact hsrc) (by rw [raiseNotice_zone, hwo]; exact hother)
  have hwdeck : ∀ e, w.deck e = s.deck e := fun e => (onZone_deck _ _ _ _).trans (hnotes.deck e)
  have hstop : enterStopped z s = flush d (raiseNotice (.zone z) (.zoneState .stopped (some (s.zone z).stopReason)) w) := by
    unfold enterStopped
    dsimp only
    rw [hv, hw, deck?_of_source hsrc]
    have hwsource : ∀ y, (w.zone y).source = (s.zone y).source := fun y => by rw [onZone_sources rfl, hnotes.zone]
    refine follow_of_none (Eq.trans (mirroring_of_sources fun y => ?_) hm) z
    rw [flush_zone, raiseNotice_zone, ← hwsource]
    split <;> rfl
  rw [hstop]
  refine ⟨?_, ?_, ?_, ?_, ?_, ?_⟩
  · rw [flush_zone, if_pos hzo, raiseNotice_zone, hwz]
    rfl
  · rw [flush_zone, hzo, raiseNotice_zone, hwo]
    exact if_neg fun h => by cases z <;> cases h
  · rw [flush_deck, raiseNotice_deck, hwdeck]
  · rw [flush_otherDeck, raiseNotice_deck, hwdeck]
  · rw [flush_port]
    exact raiseNotice_port_congr _ _ ((onZone_port _ _ _).trans hvport)
  · rw [flush_tray, raiseNotice_tray, hv]
    exact onZone_tray _ _ _

/-! ## RAMP_STEP (R112, R113, R147) -/

section
variable {z : ZoneId} {s : State} (hs : Settled s) (hstage : s.stage = .concealed)
  (ho : (s.zone (otherZone z)).state = .stopped) (hi : (s.zone z).inherited = Causes.empty)
include hs hstage ho

/-- A step that only moves the ramp. -/
theorem rampStep_moves (f : Zone → Zone) (hdue : (s.zone z).stepDue = true) (hramped : (s.zone z).ramped = f (s.zone z))
    (h : (s.zone z).rampTarget ≠ 0 ∨ (f (s.zone z)).ramp ≠ 0) :
    exec (.rampStep z) s = .next { onZone z f s with stage := .ramped } :=
  rampStep_made hs hstage hdue ho (rampZone_moves hramped h) (by rw [onZone_other]; exact ho) (by simp)

include hi

theorem rampStep_silences {t : State} (hst : (s.zone z).state ≠ .stopped) (hc : (s.zone z).causes ≠ Causes.empty)
    (hr : 0 < (s.zone z).ramp)
    (h : if Falls (s.zone z) then (s.zone z).ramp ≤ 4096
      else (s.zone z).ramp ≤ (s.zone z).set.step ∧ (s.zone z).set.period ≤ (s.zone z).rampCount + 1)
    (heq : reachZero z (onZone z silenced s) = t) (h' : (t.zone (otherZone z)).state = .stopped) :
    exec (.rampStep z) s = .next { t with stage := .ramped } ∧ SamePart s t := by
  obtain ⟨hdue, hramped⟩ := silencing_ramp hst hi hc hr h
  have hzone : rampZone z s = t := (rampZone_silences hramped (by omega) (rampTarget_raised hi hc)).trans heq
  have hpart : SamePart s t := hzone ▸ (kept_rampZone z s (plays_any z s)).part
  exact ⟨rampStep_made hs hstage hdue ho hzone h' hpart.2.2.1, hpart⟩

/-- A zone enters PAUSED or STARVED at the ramp's foot (R113). -/
theorem rampStep_enters {st : ZoneState} (hstop : st ≠ .stopped) (hst : (s.zone z).state ≠ .stopped)
    (hc : (s.zone z).causes ≠ Causes.empty) (hr : 0 < (s.zone z).ramp)
    (h : if Falls (s.zone z) then (s.zone z).ramp ≤ 4096
      else (s.zone z).ramp ≤ (s.zone z).set.step ∧ (s.zone z).set.period ≤ (s.zone z).rampCount + 1)
    (heq : reachZero z (onZone z silenced s) = enterZone z st (onZone z silenced s)) :
    exec (.rampStep z) s = .next
      { raiseNotice (.zone z) (.zoneState st none) (onZone z (fun n => { silenced n with state := st }) s) with stage := .ramped } :=
  (rampStep_silences hs hstage ho hi hst hc hr h (heq.trans (enterZone_onZone z st silenced s hstop)) (by simp [ho])).1

end

/-- RAMP_STEP in O59 (R112, R113, R147). -/
theorem rampStep_settles (z : ZoneId) (s : State) (hs : Settled s) (hstage : s.stage = .concealed) (hm : s.zone2.source ≠ .mirror)
    (ho : (s.zone (otherZone z)).state = .stopped) (hi : (s.zone z).inherited = Causes.empty) :
    ((s.zone z).state = .stopped → exec (.rampStep z) s = .next s) ∧
     ((s.zone z).state = .playing →
       ((s.zone z).causes = Causes.empty → (s.zone z).ramp < 32768 → (s.zone z).rampCount + 1 < (s.zone z).set.period →
         exec (.rampStep z) s = .next s) ∧
       ((s.zone z).causes = Causes.empty → (s.zone z).ramp < 32768 → (s.zone z).set.period ≤ (s.zone z).rampCount + 1 →
         exec (.rampStep z) s = .next
           { onZone z (fun n => { n with ramp := min 32768 (n.ramp + n.set.step), rampCount := 0 }) s with stage := .ramped }) ∧
       (Falls (s.zone z) → 4096 < (s.zone z).ramp →
         exec (.rampStep z) s = .next
           { onZone z (fun n => { n with ramp := n.ramp - 4096, rampCount := 0 }) s with stage := .ramped }) ∧
       ((s.zone z).causes = { Causes.empty with pause := true } → 0 < (s.zone z).ramp → (s.zone z).ramp ≤ (s.zone z).set.step →
         (s.zone z).set.period ≤ (s.zone z).rampCount + 1 →
         exec (.rampStep z) s = .next
           { raiseNotice (.zone z) (.zoneState .paused none)
               (onZone z (fun n => { n with ramp := 0, rampCount := 0, state := .paused }) s) with stage := .ramped })) := by
  have hnone := mirroring_of_ne hm
  have hsilent : mirroring (onZone z silenced s) = false := unmirrored_onZone hnone fun _ => rfl
  have hzone : (onZone z silenced s).zone z = silenced (s.zone z) := onZone_same _ _ _
  refine ⟨fun hst => rampStep_undue hs hstage ?_, fun hplay => ⟨fun hc hr hp => ?_, fun hc hr hp => ?_, fun hf hr => ?_,
    fun hc hr hstep hp => ?_⟩⟩
  · unfold Zone.stepDue
    rw [hst]
    rfl
  all_goals have hst : (s.zone z).state ≠ .stopped := by rw [hplay]; decide
  · exact rampStep_undue hs hstage ((rising_ramp hst hi hc hr).1 hp)
  · obtain ⟨hdue, hramped⟩ := (rising_ramp hst hi hc hr).2 hp
    exact rampStep_moves hs hstage ho (fun n => { n with ramp := min 32768 (n.ramp + n.set.step), rampCount := 0 }) hdue hramped
      (.inl (by rw [rampTarget_empty hst hc hi]; decide))
  · obtain ⟨hdue, hramped⟩ := (falling_ramp hst hi hf.causes (by omega)).1 hf
    exact rampStep_moves hs hstage ho (fun n => { n with ramp := n.ramp - 4096, rampCount := 0 }) hdue hramped
      (.inr (by dsimp only; omega))
  · have hne : (s.zone z).causes ≠ Causes.empty := by rw [hc]; decide
    have hslow : ¬ Falls (s.zone z) := by rw [Falls, hc]; decide
    exact rampStep_enters hs hstage ho hi (by decide) hst hne hr (by rw [if_neg hslow]; exact ⟨hstep, hp⟩)
      (reachZero_pauses hsilent (by rw [hzone]; exact hplay) (by rw [hzone]; exact congrArg Causes.switch hc)
        (by rw [hzone]; exact congrArg Causes.stop hc) (by rw [hzone]; exact congrArg Causes.pause hc))

theorem withStage_deck (g : FrameStage) (s : State) (d : Deck) : State.deck { s with stage := g } d = s.deck d := by cases d <;> rfl

/-- A row that ends at another stage of the frame keeps the rest of the part. -/
theorem samePart_staged {s t : State} (g : FrameStage) (h : SamePart s t) :
    SamePart s { ({ t with stage := g } : State) with stage := s.stage } := by
  obtain ⟨hpin, hshock, hstandby, -, hpending⟩ := h
  exact ⟨hpin, hshock, hstandby, rfl, hpending⟩

theorem withStage_same {s t : State} (h : SamePart s t) : { t with stage := s.stage } = t := by
  rw [← h.2.2.2.1]

/-- What a ramp at its foot asks of a zone: its step is the one that brings it there (R147). -/
abbrev ReachesZero (n : Zone) : Prop :=
  if Falls n then n.ramp ≤ 4096 else n.ramp ≤ n.set.step ∧ n.set.period ≤ n.rampCount + 1

theorem causes_ne_of {n : Zone} {f : Causes → Bool} (hf : f Causes.empty = false) (h : f n.causes = true) : n.causes ≠ Causes.empty :=
  fun he => by rw [he, hf] at h; cases h

/-- A switch that completes at the ramp's foot (R113, R122). -/
theorem rampStep_switches {z : ZoneId} {d : Deck} {r : PlayRange} {s : State} (hs : Settled s) (hstage : s.stage = .concealed)
    (hm : s.zone2.source ≠ .mirror) (ho : (s.zone (otherZone z)).state = .stopped) (hi : (s.zone z).inherited = Causes.empty)
    (hst : (s.zone z).state ≠ .stopped) (hr : 0 < (s.zone z).ramp) (h : ReachesZero (s.zone z)) (hsrc : (s.zone z).source = .deck d)
    (hother : (s.zone (otherZone z)).source ≠ .deck d) (hsw : (s.zone z).causes.switch = true) (hp : (s.zone z).pendingRange = some r)
    (hl : (s.deck d).link.startable) (hc : (s.deck d).ring.cap ≠ 0) :
    Answers (.rampStep z) s fun t =>
      RangeBegun z d r (s.zone z).pendingCue (onZone z silenced s) { t with stage := s.stage } ∧ t.stage = .ramped ∧
        t.tray.table = s.tray.table := by
  have hnone : mirroring (onZone z silenced s) = false := unmirrored_onZone (mirroring_of_ne hm) fun _ => rfl
  have hzone : (onZone z silenced s).zone z = silenced (s.zone z) := onZone_same _ _ _
  have hdeck : (onZone z silenced s).deck d = s.deck d := onZone_deck _ _ _ _
  obtain ⟨hbegun, htray⟩ := rangeBegun (s := onZone z silenced s) (z := z) (d := d) r (s.zone z).pendingCue (by rw [hzone]; exact hsrc)
    (by rw [onZone_other]; exact hother) (by rw [hdeck]; exact hl) (by rw [hdeck]; exact hc)
  have hzero : reachZero z (onZone z silenced s) = beginRange z r (s.zone z).pendingCue (onZone z silenced s) := by
    rw [reachZero_switches hnone (r := r) (by rw [hzone]; exact hsw) (by rw [hzone]; exact hp), hzone]
    rfl
  have hstill : ((beginRange z r (s.zone z).pendingCue (onZone z silenced s)).zone (otherZone z)).state = .stopped := by
    rw [hbegun.zoneKept (.inr ?_), onZone_other]
    · exact ho
    · have h2 : mirroring (onZone z silenced s) = false := hnone
      intro hmirror
      rw [mirroring, hmirror] at h2
      cases h2
  obtain ⟨hexec, hpart⟩ := rampStep_silences hs hstage ho hi hst (causes_ne_of (f := Causes.switch) rfl hsw) hr h hzero hstill
  refine ⟨_, hexec, ?_, rfl, ?_⟩
  · change RangeBegun z d r _ _ { beginRange z r (s.zone z).pendingCue (onZone z silenced s) with stage := s.stage }
    rw [withStage_same hpart]
    exact hbegun
  · change (beginRange z r (s.zone z).pendingCue (onZone z silenced s)).tray.table = _
    rw [htray, setNote_table, onZone_tray]

/-- A zone STOPPED at the ramp's foot (R113, R177). -/
theorem rampStep_stops {z : ZoneId} {d : Deck} {s : State} (hs : Settled s) (hstage : s.stage = .concealed)
    (hm : s.zone2.source ≠ .mirror) (ho : (s.zone (otherZone z)).state = .stopped) (hi : (s.zone z).inherited = Causes.empty)
    (hst : (s.zone z).state ≠ .stopped) (hr : 0 < (s.zone z).ramp) (h : ReachesZero (s.zone z)) (hsrc : (s.zone z).source = .deck d)
    (hother : (s.zone (otherZone z)).source ≠ .deck d) (hsw : (s.zone z).causes.switch = false) (hstop : (s.zone z).causes.stop = true) :
    ∃ t, exec (.rampStep z) s = .next { t with stage := .ramped } ∧ SamePart s t ∧
      StoppedWith z d (s.zone z).stopReason (onZone z silenced s) t := by
  have hnone : mirroring (onZone z silenced s) = false := unmirrored_onZone (mirroring_of_ne hm) fun _ => rfl
  have hzone : (onZone z silenced s).zone z = silenced (s.zone z) := onZone_same _ _ _
  have hwith := enterStopped_with (s := onZone z silenced s) (z := z) (d := d) hnone (by rw [hzone]; exact hsrc)
    (by rw [onZone_other]; exact hother)
  rw [show ((onZone z silenced s).zone z).stopReason = (s.zone z).stopReason by rw [hzone]; rfl] at hwith
  have hzero := reachZero_stops (z := z) hnone (by rw [hzone]; exact hsw) (by rw [hzone]; exact hstop)
  obtain ⟨hexec, hpart⟩ := rampStep_silences hs hstage ho hi hst (causes_ne_of (f := Causes.stop) rfl hstop) hr h hzero
    (by rw [hwith.otherZone, onZone_other]; exact ho)
  exact ⟨_, hexec, hpart, hwith⟩

/-! ## CONCEAL_CLEAR (R145, R146) -/

/-- A frame before its CONCEAL tests (R137). -/
theorem toConcealed_settled {s : State} (h : s.stage = .settled) :
    toSettled s = s ∧ toConcealed s = { together (findPreGain .one) (findPreGain .two) s with stage := .concealed } := by
  have hsettled : toSettled s = s := by unfold toSettled; rw [h]
  refine ⟨hsettled, ?_⟩
  unfold toConcealed
  dsimp only
  rw [hsettled, h]

theorem concealClears_settled {z : ZoneId} {s : State} (h : s.stage = .settled) :
    concealClears z s = ((s.zone z).mutes.conceal && !((toConcealed s).zone z).mutes.conceal) := by
  unfold concealClears
  rw [(toConcealed_settled h).1, h]
  rfl

theorem exec_concealClear {z : ZoneId} {s t : State} (hs : Settled s) (h : (if concealClears z s then toConcealed s else s) = t)
    (hstandby : t.standby = s.standby) : exec (.concealClear z) s = .next t :=
  (event_settled s (fun s => if concealClears z s then toConcealed s else s) hs ((congrArg State.standby h).trans hstandby)).trans
    (congrArg _ h)

/-- CONCEAL that waits for a take stands through the tests of a frame (R146, log entry 47). -/
theorem concealTests_waiting {z : ZoneId} {s : State} (long clean : Bool) (hm : Unfollowed z s)
    (hc : (s.zone z).causes.conceal = true) (hw : (s.zone z).concealWaits = true) :
    ∃ n, concealTests z long clean s = onZone z (fun _ => n) s ∧ n.causes.conceal = true := by
  have hcounted : ∀ t : State, (∃ n, t = onZone z (fun _ => n) s) → (t.zone z).causes.conceal = true → (t.zone z).concealWaits = true →
      ∃ n, follow z (onZone z (fun n => n.counted clean) t) = onZone z (fun _ => n) s ∧ n.causes.conceal = true := by
    rintro t ⟨n, rfl⟩ hct hwt
    rw [onZone_same] at hct hwt
    have hn : n.counted clean = { n with clean := 0 } := by
      unfold Zone.counted
      rw [if_pos hct, if_neg (by rw [hwt]; simp)]
    refine ⟨{ n with clean := 0 }, ?_, hct⟩
    rw [onZone_onZone, hn, follow_of_unfollowed (hm.onZone _)]
  unfold concealTests
  dsimp only
  rw [hc]
  split
  · rw [if_pos rfl]
    refine hcounted _ ⟨_, onZone_congr rfl⟩ (by rw [onZone_same]) (by rw [onZone_same, hw]; rfl)
  · exact hcounted s ⟨_, (onZone_id z _ s rfl).symm⟩ hc hw

/-- The frame that completes the clean frames (R145). -/
def unconcealed (n : Zone) : Zone := { n with clean := 0, causes := { n.causes with conceal := false } }

theorem concealTests_clears {z : ZoneId} {s : State} (hm : Unfollowed z s) (hc : (s.zone z).causes.conceal = true)
    (hw : (s.zone z).concealWaits = false) (hn : (s.zone z).set.recover ≤ (s.zone z).clean + 1) :
    concealTests z false true s = onZone z unconcealed s := by
  have hcounted : (s.zone z).counted true = unconcealed (s.zone z) := by
    unfold Zone.counted
    rw [if_pos hc, if_pos (by rw [hw]; rfl), if_pos hn]
    rfl
  unfold concealTests
  dsimp only
  rw [if_neg (by decide), follow_of_unfollowed (hm.onZone _)]
  exact onZone_congr hcounted

/-- A zone whose CONCEAL waits keeps it through a frame (R146). -/
theorem findPreGain_waiting {z : ZoneId} {s : State} (hm : ¬ (z = .two ∧ mirroring s = true))
    (ho : (s.zone (otherZone z)).state = .stopped) (hc : (s.zone z).causes.conceal = true) (hw : (s.zone z).concealWaits = true) :
    ZonePart findPreGain z (fun _ m => m.causes.conceal = true) s := by
  have htests : ∀ (f : Zone → Zone) long clean, (f (s.zone z)).causes = (s.zone z).causes →
      (f (s.zone z)).concealWaits = (s.zone z).concealWaits →
      ∃ n, concealTests z long clean (onZone z f s) = onZone z (fun _ => n) s ∧ n.causes.conceal = true := by
    intro f long clean hfc hfw
    obtain ⟨n, hn, hcn⟩ := concealTests_waiting (z := z) (s := onZone z f s) long clean ((unfollowed_of_stopped ho).onZone f)
      (by rw [onZone_same, hfc]; exact hc) (by rw [onZone_same, hfw]; exact hw)
    exact ⟨n, by rw [hn, onZone_onZone], hcn⟩
  unfold ZonePart findPreGain
  rw [if_neg hm]
  unfold preGain
  dsimp only
  split
  · exact ⟨{ s.zone z with pre := Stereo.zero, carry := Stereo.zero }, onZone_congr rfl, hc⟩
  · split
    · exact htests _ _ _ rfl rfl
    · exact htests _ _ _ rfl rfl

/-- CONCEAL_CLEAR in O59 (R145, R146). -/
theorem concealClear_settles (z : ZoneId) (d : Deck) (h : InHand) (s : State) (hs : Settled s) (hstage : s.stage = .settled)
    (hm : s.zone2.source ≠ .mirror) (ho : (s.zone (otherZone z)).state = .stopped) (hi : (s.zone z).inherited = Causes.empty) :
    ((s.zone z).causes.conceal = false → exec (.concealClear z) s = .next s) ∧
     ((s.zone z).causes.conceal = true → (s.zone z).concealWaits = true → exec (.concealClear z) s = .next s) ∧
     ((s.zone z).causes.conceal = true → (s.zone z).concealWaits = false → (s.zone z).state = .playing →
       (s.zone z).source = .deck d → (s.zone z).block = some h → h.state ≠ .void →
       h.data.marks.getD (2 * (s.zone z).blockPhase) true = false →
       h.data.marks.getD (2 * (s.zone z).blockPhase + 1) true = false →
       (s.zone z).set.recover ≤ (s.zone z).clean + 1 →
       ∃ m, exec (.concealClear z) s = .next { withZones z
         (unconcealed (playedFrame (framePair h.data (s.zone z).blockPhase) (s.zone z))) m s with stage := .concealed }) := by
  have hnone := mirroring_of_ne hm
  have hconcealed := (toConcealed_settled hstage).2
  have hmutes : (s.zone z).mutes = (s.zone z).causes := mutes_of_uninherited hi
  refine ⟨fun hc => ?_, fun hc hw => ?_, fun hc hw hplay hsrc hb hv hl hr hn => ?_⟩
  · refine exec_concealClear hs (if_neg ?_) rfl
    rw [concealClears_settled hstage, hmutes, hc]
    exact Bool.false_ne_true
  · refine exec_concealClear hs (if_neg ?_) rfl
    have hunmirrored : ∀ t, t.zone z = s.zone z → ¬ (z = .two ∧ mirroring t = true) := by
      rintro t ht ⟨rfl, hmt⟩
      rw [mirroring, show t.zone2 = s.zone2 from ht] at hmt
      rw [mirroring, hmt] at hnone
      cases hnone
    obtain ⟨n, m, heq, hcn, -⟩ := together_zones (f := findPreGain) (z := z) (R := fun _ m => m.causes.conceal = true) ho
      (fun t ht hto => findPreGain_waiting (hunmirrored t ht) hto (by rw [ht]; exact hc) (by rw [ht]; exact hw))
      fun t => rest_findPreGain
    have hz : (toConcealed s).zone z = n := by
      rw [hconcealed, heq]; exact (withStage_zone .concealed _ z).trans (withZones_same ..)
    rw [concealClears_settled hstage, hz]
    simp [Zone.mutes, Causes.union, hcn]
  · have hclears : ∀ t, t.zone z = s.zone z → (t.zone (otherZone z)).state = .stopped →
        findPreGain z t = onZone z (fun _ => unconcealed (playedFrame (framePair h.data (s.zone z).blockPhase) (s.zone z))) t := by
      intro t ht hto
      rw [findPreGain_clean (by rw [ht, hplay]; decide) (by rw [ht]; exact hsrc) (by rw [ht]; exact hb) hv (by rw [ht]; exact hl)
        (by rw [ht]; exact hr), concealTests_clears ((unfollowed_of_stopped hto).onZone _) (by rw [onZone_same, ht]; exact hc)
        (by rw [onZone_same, ht]; exact hw) (by rw [onZone_same, ht]; exact hn), onZone_onZone]
      exact onZone_congr (by rw [ht])
    obtain ⟨n, m, heq, rfl, -⟩ := together_zones (f := findPreGain) (z := z)
      (R := fun _ m => m = unconcealed (playedFrame (framePair h.data (s.zone z).blockPhase) (s.zone z))) ho
      (fun t ht hto => ⟨_, hclears t ht hto, rfl⟩) fun t => rest_findPreGain
    refine ⟨m, exec_concealClear hs ?_ ?_⟩
    · have hz : (toConcealed s).zone z = unconcealed (playedFrame (framePair h.data (s.zone z).blockPhase) (s.zone z)) := by
        rw [hconcealed, heq]; exact (withStage_zone .concealed _ z).trans (withZones_same ..)
      rw [if_pos, hconcealed, heq]
      rw [concealClears_settled hstage, hz, hmutes, hc]
      simp [Zone.mutes, Causes.union, unconcealed, playedFrame, hi, Causes.empty]
    · cases z <;> rfl

/-- A PLAYING zone at the ramp's foot with no switch and no stop (R113). -/
theorem rampStep_rests {z : ZoneId} {s : State} (hs : Settled s) (hstage : s.stage = .concealed) (hm : s.zone2.source ≠ .mirror)
    (ho : (s.zone (otherZone z)).state = .stopped) (hi : (s.zone z).inherited = Causes.empty) (hr : 0 < (s.zone z).ramp)
    (h : ReachesZero (s.zone z)) (hplay : (s.zone z).state = .playing) (hsw : (s.zone z).causes.switch = false)
    (hstop : (s.zone z).causes.stop = false) :
    ((s.zone z).causes.pause = true → exec (.rampStep z) s = .next
      { raiseNotice (.zone z) (.zoneState .paused none) (onZone z (fun n => { n with state := .paused }) (onZone z silenced s)) with
        stage := .ramped }) ∧
      ((s.zone z).causes.pause = false → (s.zone z).causes.starve = true → exec (.rampStep z) s = .next
        { raiseNotice (.zone z) (.zoneState .starved none) (onZone z (fun n => { n with state := .starved }) (onZone z silenced s)) with
          stage := .ramped }) := by
  have hsilent : mirroring (onZone z silenced s) = false := unmirrored_onZone (mirroring_of_ne hm) fun _ => rfl
  have hzone : (onZone z silenced s).zone z = silenced (s.zone z) := onZone_same _ _ _
  have hst : (s.zone z).state ≠ .stopped := by rw [hplay]; decide
  have hplay' : ((onZone z silenced s).zone z).state = .playing := by rw [hzone]; exact hplay
  have hsw' : ((onZone z silenced s).zone z).causes.switch = false := by rw [hzone]; exact hsw
  have hstop' : ((onZone z silenced s).zone z).causes.stop = false := by rw [hzone]; exact hstop
  simp only [onZone_onZone]
  refine ⟨fun hpause => ?_, fun hpause hstarve => ?_⟩
  · exact rampStep_enters hs hstage ho hi (by decide) hst (causes_ne_of (f := Causes.pause) rfl hpause) hr h
      (reachZero_pauses hsilent hplay' hsw' hstop' (by rw [hzone]; exact hpause))
  · exact rampStep_enters hs hstage ho hi (by decide) hst (causes_ne_of (f := Causes.starve) rfl hstarve) hr h
      (reachZero_starves hsilent hplay' hsw' hstop' (by rw [hzone]; exact hpause) (by rw [hzone]; exact hstarve))

/-- Settles O59: the ramp's moves, what a zone does at the ramp's foot, and the end of CONCEAL. -/
theorem rampStepsAndConcealClear : Obligations.RampStepsAndConcealClear := by
  refine ⟨fun z s hs hstage hm ho hi => ?_, fun z d h s hs hstage hm ho hi => ?_⟩
  · intro n
    obtain ⟨hstopped, hplaying⟩ := rampStep_settles z s hs hstage hm ho hi
    refine ⟨hstopped, hplaying, fun hst hr h => ?_⟩
    intro silent
    refine ⟨fun d r hsrc hother hsw hp hl hc => rampStep_switches hs hstage hm ho hi hst hr h hsrc hother hsw hp hl hc,
      fun d hsrc hother hsw hstop => ?_, fun hplay hsw hstop => rampStep_rests hs hstage hm ho hi hr h hplay hsw hstop⟩
    obtain ⟨t, hexec, hpart, hwith⟩ := rampStep_stops hs hstage hm ho hi hst hr h hsrc hother hsw hstop
    have hdeck : ∀ e, (onZone z silenced s).deck e = s.deck e := onZone_deck _ _ _
    have htray : (onZone z silenced s).tray = s.tray := onZone_tray _ _ _
    have hzone : (onZone z silenced s).zone z = silenced n := onZone_same _ _ _
    refine ⟨_, hexec, ?_, ?_, ?_, ?_, ?_, ?_, ?_, fun c r p hwhy hc hrange hp => ?_, fun hno => ?_, ?_, rfl⟩
    · rw [withStage_zone .ramped t, hwith.zone, hzone]; rfl
    · rw [withStage_zone .ramped t, hwith.otherZone, onZone_other]
    · rw [withStage_deck .ramped t, hwith.deck]; exact flushedUnit_emptied _
    · rw [withStage_deck .ramped t, hwith.deck, hdeck]; rfl
    · rw [withStage_deck .ramped t, hwith.deck, hdeck]; exact releasedLink_disc _
    · rw [withStage_deck .ramped t, hwith.otherDeck, hdeck]
    · exact hwith.port.trans (raiseNotice_port_congr _ _ (onZone_port _ _ _))
    · refine hwith.tray.trans ?_
      rw [takeNote_some (c := c) (r := r) (p := p) (by rw [hzone]; exact hsrc) hwhy (by rw [hdeck]; exact hc) (by rw [hzone]; exact hrange)
        (by rw [hzone]; exact hp), hzone]
      cases z <;> rfl
    · refine hwith.tray.trans ?_
      rw [takeNote_none (d := d) (by rw [hzone]; exact hsrc) (by rw [hdeck]; exact hno), htray]
    · exact samePart_staged .ramped hpart
  · obtain ⟨hstill, hwaits, hclears⟩ := concealClear_settles z d h s hs hstage hm ho hi
    refine ⟨hstill, hwaits, fun hc hw hplay hsrc hb hv hl hr hn => ?_⟩
    obtain ⟨m, hexec⟩ := hclears hc hw hplay hsrc hb hv hl hr hn
    let n : Zone := unconcealed (playedFrame (framePair h.data (s.zone z).blockPhase) (s.zone z))
    obtain ⟨hA, hB, htray, hport, hpart⟩ := withZones_fields z n m s
    refine ⟨_, hexec, ?_⟩
    dsimp only
    rw [withStage_zone .concealed (withZones z n m s), withZones_same]
    exact ⟨rfl, rfl, rfl, hplay, rfl, rfl, hA, hB, htray, hport, samePart_staged .concealed hpart⟩

end Sys2Proof.Proofs
end


section
/-!
PROOFS. The take at a block boundary (R69, R88, R114 to R118).
-/

namespace Sys2Proof.Proofs

open Sys2Proof.Machine

/-! ## A first slot leaves the list (R87, R88) -/

theorem without_first {e : Entry} {p : Spot} (h : e.first = p.addr) :
    (e.without p.addr).2 = none ∧ ∀ x, (e.without p.addr).1 = some x → x.covers p = false := by
  have hbefore : p.addr - e.first = 0 := by omega
  unfold Entry.without
  dsimp only
  rw [if_pos hbefore]
  split
  · exact ⟨rfl, fun x hx => by cases hx⟩
  · refine ⟨rfl, fun x hx => ?_⟩
    cases hx
    simp only [Entry.covers, Bool.and_eq_false_imp, decide_eq_false_iff_not]
    omega

/-- What is left of an entry that may lose its first slot (R87). -/
def leaveFirst (p : Spot) (e : Entry) : Option Entry × Option Entry := if e.covers p then e.without p.addr else (some e, none)

theorem leaveFirst_kept {e : Entry} {p : Spot} (h : e.covers p = true → e.first = p.addr) :
    (leaveFirst p e).2 = none ∧ ∀ x, (leaveFirst p e).1 = some x → x.covers p = false := by
  unfold leaveFirst
  split
  · next hc => exact without_first (h hc)
  · next hc => exact ⟨rfl, fun x hx => by cases hx; simpa using hc⟩

theorem leaveList_first {p : Spot} {es : List Entry} (h : ∀ e ∈ es, e.covers p = true → e.first = p.addr) :
    (leaveList p es).2 = none ∧ ∀ x ∈ (leaveList p es).1, x.covers p = false := by
  have hparts : ∀ q ∈ es.map (leaveFirst p), q.2 = none ∧ ∀ x, q.1 = some x → x.covers p = false := by
    intro q hq
    obtain ⟨e, he, rfl⟩ := List.mem_map.1 hq
    exact leaveFirst_kept (h e he)
  have heq : leaveList p es =
      if decide (Config.repairEntries ≤ es.length) = true then
        ((es.map (leaveFirst p)).filterMap (·.1), ((es.map (leaveFirst p)).filterMap (·.2)).head?)
      else ((es.map (leaveFirst p)).flatMap (fun q => q.1.toList ++ q.2.toList), none) := rfl
  rw [heq]
  split
  · refine ⟨?_, fun x hx => ?_⟩
    · have hnil : (es.map (leaveFirst p)).filterMap (·.2) = [] := List.filterMap_eq_nil_iff.2 fun q hq => (hparts q hq).1
      rw [hnil]
      rfl
    · obtain ⟨q, hq, hx⟩ := List.mem_filterMap.1 hx
      exact (hparts q hq).2 x hx
  · refine ⟨rfl, fun x hx => ?_⟩
    obtain ⟨q, hq, hx⟩ := List.mem_flatMap.1 hx
    rw [(hparts q hq).1] at hx
    exact (hparts q hq).2 x (by simpa using hx)

/-- The list after its first slots at a place have left it (R87, R88). -/
def listWithout (p : Spot) (u : DeckUnit) : List Entry := syncMissing u.ring (leaveList p u.plan.entries).1

theorem leaveEntry_first {d : Deck} {p : Spot} {s : State}
    (h : ∀ e ∈ (s.deck d).plan.entries, e.covers p = true → e.first = p.addr) :
    leaveEntry d p s = onDeck d (fun u => { u with plan := { u.plan with entries := listWithout p u } }) s := by
  have hnone := (leaveList_first h).1
  unfold leaveEntry
  dsimp only
  rw [hnone]
  unfold refreshEntries onPlan
  dsimp only
  rw [onDeck_onDeck, onDeck_same]
  exact onDeck_congr rfl

theorem listWithout_covers {p : Spot} {u : DeckUnit} (h : ∀ e ∈ u.plan.entries, e.covers p = true → e.first = p.addr) :
    ∀ e ∈ listWithout p u, e.covers p = false := by
  intro e he
  obtain ⟨x, hx, rfl⟩ := List.mem_map.1 he
  exact (leaveList_first h).2 x hx

/-! ## The deck's part of a take (R69, R88) -/

/-- A deck whose play edge has been taken: the ring, and the list (R69, R88). -/
def edgeTaken (q : SlotRecord) (u : DeckUnit) : DeckUnit :=
  let v : DeckUnit := { u with ring := u.ring.taken q }
  if u.plan.entries.any (·.covers ⟨q.addr, q.seg⟩) = true then
    { v with plan := { v.plan with
        entries := listWithout ⟨q.addr, q.seg⟩ v
        stats := { v.plan.stats with overtaken := bump 1 v.plan.stats.overtaken } } }
  else v

/-- The decisions that may follow a take leave of its deck what R93 to R98 let them. -/
theorem plannerTaken_edge {d : Deck} {q : SlotRecord} {before : DeckUnit} {s : State}
    (h : ∀ e ∈ (s.deck d).plan.entries, e.covers ⟨q.addr, q.seg⟩ = true → e.first = q.addr) :
    let t := plannerTaken d ⟨q.addr, q.seg⟩ before (onRing d (fun r => r.taken q) s)
    Planned d (onDeck d (edgeTaken q) s) t ∧ (t.deck d).plan.stats.overtaken = (edgeTaken q (s.deck d)).plan.stats.overtaken := by
  have hmade : (if ((onRing d (fun r => r.taken q) s).deck d).plan.entries.any (·.covers ⟨q.addr, q.seg⟩) = true then
      leaveEntry d ⟨q.addr, q.seg⟩ (onPlanStats d (fun t => { t with overtaken := bump 1 t.overtaken }) (onRing d (fun r => r.taken q) s))
      else onRing d (fun r => r.taken q) s) = onDeck d (edgeTaken q) s := by
    have hplan : ((onRing d (fun r => r.taken q) s).deck d).plan = (s.deck d).plan := by rw [onRing_same]
    rw [hplan]
    split
    · next hany =>
      rw [leaveEntry_first (by rw [onPlanStats_same, onRing_same]; exact h)]
      unfold onPlanStats onPlan onRing
      rw [onDeck_onDeck, onDeck_onDeck]
      refine onDeck_congr ?_
      unfold edgeTaken
      rw [if_pos hany]
      rfl
    · next hnone =>
      refine onDeck_congr ?_
      unfold edgeTaken
      rw [if_neg hnone]
  unfold plannerTaken
  dsimp only
  rw [hmade]
  have hover : JobBlind (fun p : Planner => p.stats.overtaken) := fun _ _ _ _ _ _ => rfl
  split
  · exact ⟨planned_breakPoint d _, (blind_breakPoint hover d _).trans (by rw [onDeck_same])⟩
  · exact ⟨.refl d _, by rw [onDeck_same]⟩

theorem edgeTaken_fields {q : SlotRecord} {u : DeckUnit} (h : ∀ e ∈ u.plan.entries, e.covers ⟨q.addr, q.seg⟩ = true → e.first = q.addr) :
    (edgeTaken q u).link = u.link ∧ (edgeTaken q u).ring = u.ring.taken q ∧
      (edgeTaken q u).plan.stats.overtaken = (if u.plan.entries.any (·.covers ⟨q.addr, q.seg⟩) = true
        then min 65535 (u.plan.stats.overtaken + 1) else u.plan.stats.overtaken) ∧
      ∀ e ∈ (edgeTaken q u).plan.entries, e.covers ⟨q.addr, q.seg⟩ = false := by
  unfold edgeTaken
  split
  · exact ⟨rfl, rfl, rfl, listWithout_covers (u := { u with ring := u.ring.taken q }) h⟩
  · next hnone => exact ⟨rfl, rfl, rfl, fun e he => by simpa using fun hc => hnone (List.any_eq_true.2 ⟨e, he, hc⟩)⟩

/-! ## The report of the good depth (R66, R117) -/

theorem starveTest_clear {z : ZoneId} {s : State} (h : (s.zone z).causes.starve = false ∨ (s.zone z).state = .stopped) :
    starveTest z s = s := by
  unfold starveTest
  dsimp only
  split
  · exact if_neg fun hn => h.elim (fun hf => by rw [hf] at hn; exact absurd hn.1 (by decide)) fun hst => hn.2.1 hst
  · rfl

theorem reportGoodDepth_clear {d : Deck} {s : State} (h : ∀ z, (s.zone z).causes.starve = false ∨ (s.zone z).state = .stopped) :
    reportGoodDepth d s = s := by
  unfold reportGoodDepth
  split
  · next z _ => exact starveTest_clear (h z)
  · rfl

/-! ## The zone's part of a take (R115) -/

/-- A zone after a take, but for its mark (R115). -/
def takenZone (q : SlotRecord) (n : Zone) : Zone :=
  { n with
    block := some { addr := q.addr, seg := q.seg, state := if q.state = .missing then .void else q.state, data := q.data }
    range := if q.seg = n.tag then n.range else n.cue
    tag := q.seg
    cue := if q.seg = n.tag then n.cue else none
    position := some q.addr
    endTaken := decide ((if q.seg = n.tag then n.range else n.cue).map (·.last) = some q.addr) ||
      (n.endTaken && decide (q.seg = n.tag))
    level := n.staged.getD n.level, staged := none, concealWaits := false }

theorem levelTaken_eq (n : Zone) : n.levelTaken = { n with level := n.staged.getD n.level, staged := none } := by
  unfold Zone.levelTaken
  cases hs : n.staged with
  | some l => rfl
  | none =>
    cases n
    dsimp only at hs
    subst hs
    rfl

theorem endsAt_eq (r : Option PlayRange) (a : Nat) :
    (match r with
      | some r => a == r.last
      | none => false) = decide (r.map (·.last) = some a) := by
  cases r with
  | none => simp
  | some r =>
    rw [Bool.eq_iff_iff, beq_iff_eq, decide_eq_true_iff, Option.map_some, Option.some.injEq]
    exact eq_comm

theorem took_eq (q : SlotRecord) (n : Zone) : n.took q = takenZone q n := by
  unfold Zone.took takenZone
  rw [levelTaken_eq]
  by_cases h : q.seg = n.tag
  · simp only [if_pos h, decide_eq_true h, Bool.and_true, ← endsAt_eq, Bool.or_comm n.endTaken]
    rw [h] <;> rfl
  · simp only [if_neg h, decide_eq_false h, Bool.and_false, Bool.false_or, Bool.or_false, ← endsAt_eq] <;> rfl

/-- The notice of a cue that begins (R115). -/
def crossing (z : ZoneId) (q : SlotRecord) (n : Zone) (s : State) : State :=
  if q.seg = n.tag then s else n.cue.elim s fun c => raiseNotice (.zone z) (.cueTaken c.first) s

/-- The notice of a mark that is reached (R128). -/
def marking (z : ZoneId) (q : SlotRecord) (n : Zone) (s : State) : State :=
  if n.mark = some q.addr then raiseNotice (.zone z) (.markReached q.addr) s else s

/-- The mark of a zone after a take (R128). -/
def markLeft (q : SlotRecord) (n : Zone) : Zone := { n with mark := if n.mark = some q.addr then none else n.mark }

theorem crossing_port_congr {z : ZoneId} {q : SlotRecord} {n : Zone} {s t : State} (h : s.port = t.port) :
    (crossing z q n s).port = (crossing z q n t).port := by
  unfold crossing
  split
  · exact h
  · cases n.cue with
    | none => exact h
    | some c => exact raiseNotice_port_congr _ _ h

theorem marking_port_congr {z : ZoneId} {q : SlotRecord} {n : Zone} {s t : State} (h : s.port = t.port) :
    (marking z q n s).port = (marking z q n t).port := by
  unfold marking
  split
  · exact raiseNotice_port_congr _ _ h
  · exact h

theorem crossing_zone (z : ZoneId) (q : SlotRecord) (n : Zone) (s : State) (y : ZoneId) : (crossing z q n s).zone y = s.zone y := by
  unfold crossing
  split
  · rfl
  · cases n.cue with
    | none => rfl
    | some c => exact raiseNotice_zone ..

theorem crossing_tray (z : ZoneId) (q : SlotRecord) (n : Zone) (s : State) : (crossing z q n s).tray = s.tray := by
  unfold crossing
  split
  · rfl
  · cases n.cue with
    | none => rfl
    | some c => exact raiseNotice_tray ..

theorem markTest_eq (z : ZoneId) (q : SlotRecord) (s : State) :
    (markTest z q.addr s).zone z = markLeft q (s.zone z) ∧ (markTest z q.addr s).zone (otherZone z) = s.zone (otherZone z) ∧
      (markTest z q.addr s).port = (marking z q (s.zone z) s).port ∧ (markTest z q.addr s).tray = s.tray := by
  unfold markTest marking markLeft
  split
  · refine ⟨?_, ?_, raiseNotice_port_congr _ _ (onZone_port _ _ _), ?_⟩
    · rw [raiseNotice_zone, onZone_same]
    · rw [raiseNotice_zone, onZone_other]
    · rw [raiseNotice_tray, onZone_tray]
  · exact ⟨rfl, rfl, rfl, rfl⟩

/-- What a take makes of the zone, without a mirror (R115, R128). -/
theorem zonesTook_fields {z : ZoneId} {q : SlotRecord} {s : State} (hm : mirroring s = false) :
    (zonesTook z q s).zone z = markLeft q (takenZone q (s.zone z)) ∧
      (zonesTook z q s).zone (otherZone z) = s.zone (otherZone z) ∧
      (zonesTook z q s).port = (marking z q (s.zone z) (crossing z q (s.zone z) s)).port ∧ (zonesTook z q s).tray = s.tray := by
  let t : State := crossing z q (s.zone z) (onZone z (takenZone q) s)
  have hcrossed : (if (q.seg != (s.zone z).tag) = true then
      ((onZone z (Zone.took q) s).zone z).range.elim (onZone z (Zone.took q) s) fun r =>
        raiseNotice (.zone z) (.cueTaken r.first) (onZone z (Zone.took q) s)
      else onZone z (Zone.took q) s) = t := by
    rw [show onZone z (Zone.took q) s = onZone z (takenZone q) s from onZone_congr (took_eq q _), onZone_same]
    by_cases h : q.seg = (s.zone z).tag
    · simp only [t, crossing, takenZone, if_pos h]
      rw [if_neg (by simp [h])]
    · simp only [t, crossing, takenZone, if_neg h]
      rw [if_pos (by simpa using h)]
  have hzone : ∀ y, t.zone y = (onZone z (takenZone q) s).zone y := crossing_zone z q _ _
  have htz : t.zone z = takenZone q (s.zone z) := (hzone z).trans (onZone_same _ _ _)
  have hnone : mirroring t = false := (mirroring_of_sources fun y => by rw [hzone, onZone_sources rfl]).trans hm
  have heq : zonesTook z q s = markTest z q.addr t := by
    unfold zonesTook
    dsimp only
    rw [hcrossed, if_neg (fun h => by rw [hnone] at h; cases h.2)]
  obtain ⟨h1, h2, h3, h4⟩ := markTest_eq z q t
  rw [heq]
  refine ⟨by rw [h1, htz], by rw [h2, hzone, onZone_other], h3.trans ?_, h4.trans ((crossing_tray z q _ _).trans (onZone_tray _ _ _))⟩
  rw [htz]
  exact marking_port_congr (n := s.zone z) (crossing_port_congr (onZone_port _ _ _))

/-! ## The take (R69, R115) -/

/-- What a take makes of its zone and deck, and what it leaves. -/
structure Taken (z : ZoneId) (d : Deck) (q : SlotRecord) (rest : List SlotRecord) (s t : State) : Prop where
  zone : t.zone z = markLeft q (takenZone q (s.zone z))
  otherState : (t.zone (otherZone z)).state = (s.zone (otherZone z)).state
  records : (t.deck d).ring.records = rest
  tag : (t.deck d).ring.tag = q.seg
  overtaken : (t.deck d).plan.stats.overtaken =
    (if (s.deck d).plan.entries.any (·.covers ⟨q.addr, q.seg⟩) = true
      then min 65535 ((s.deck d).plan.stats.overtaken + 1) else (s.deck d).plan.stats.overtaken)
  entries : ∀ e ∈ (t.deck d).plan.entries, e.covers ⟨q.addr, q.seg⟩ = false
  otherDeck : t.deck (otherDeck d) = s.deck (otherDeck d)
  port : t.port = (marking z q (s.zone z) (crossing z q (s.zone z) s)).port
  tray : t.tray = s.tray
  part : SamePart s t

/-- A decision moves no entry of the list (R84). -/
theorem Planned.uncovered {d : Deck} {p : Spot} {s t : State} (h : Planned d s t)
    (hs : ∀ e ∈ (s.deck d).plan.entries, e.covers p = false) : ∀ e ∈ (t.deck d).plan.entries, e.covers p = false := by
  intro e he
  have hmem : idleEntry e ∈ (s.deck d).plan.entries.map idleEntry := h.entries ▸ List.mem_map_of_mem he
  obtain ⟨f, hf, hfe⟩ := List.mem_map.1 hmem
  have hcovers : ∀ x : Entry, (idleEntry x).covers p = x.covers p := fun _ => rfl
  rw [← hcovers, ← hfe, hcovers]
  exact hs f hf

theorem Planned.zone {d : Deck} {s t : State} (h : Planned d s t) (z : ZoneId) : t.zone z = s.zone z := by
  cases z
  · exact h.only.zone1
  · exact h.only.zone2

theorem takeRecord_taken {z : ZoneId} {d : Deck} {q : SlotRecord} {rest : List SlotRecord} {s : State} (hm : mirroring s = false)
    (hst : (s.zone z).state ≠ .stopped) (hstarve : (s.zone z).causes.starve = false) (ho : (s.zone (otherZone z)).state = .stopped)
    (hw : (s.deck d).link.waiting = none) (hr : (s.deck d).ring.records = q :: rest)
    (he : ∀ e ∈ (s.deck d).plan.entries, e.covers ⟨q.addr, q.seg⟩ = true → e.first = q.addr) :
    Taken z d q rest s (takeRecord z d q s) := by
  obtain ⟨hzone, hother, hport, htray⟩ := zonesTook_fields (z := z) (q := q) hm
  have hkept := kept_zonesTook (D := fun _ => False) z q s hst
  have hdeck : ∀ e, (zonesTook z q s).deck e = s.deck e := hkept.toFramed.decks
  obtain ⟨hplanned, hover⟩ := plannerTaken_edge (before := s.deck d) (q := q) (d := d) (s := zonesTook z q s) (by rw [hdeck]; exact he)
  obtain ⟨hlink, hring, hstat, hfree⟩ := edgeTaken_fields (q := q) (u := s.deck d) he
  let x : State := plannerTaken d ⟨q.addr, q.seg⟩ (s.deck d) (onRing d (fun r => r.taken q) (zonesTook z q s))
  let w : State := onDeck d (edgeTaken q) (zonesTook z q s)
  have hwdeck : w.deck d = edgeTaken q (s.deck d) := (onDeck_same ..).trans (congrArg _ (hdeck d))
  have hclear : reportGoodDepth d x = x := reportGoodDepth_clear fun y => by
    rw [hplanned.zone, onDeck_zone]
    by_cases hy : y = z
    · left; rw [hy, hzone]; exact hstarve
    · right; rw [otherZone_of_ne hy, hother]; exact ho
  have heq : takeRecord z d q s = onLow d x := (takeRecord_eq z d q s).trans (congrArg (onLow d) hclear)
  have hall : Planned d w (onLow d x) := Planned.trans hplanned (planned_onLow d x)
  have hlow : ((onLow d x).deck d).plan.stats.overtaken = (x.deck d).plan.stats.overtaken :=
    blind_onLow (g := fun p => p.stats.overtaken) (fun _ _ _ _ _ _ => rfl) d x
  have hwait : NoHostWaits (w.deck d).link := .of_none (by rw [hwdeck, hlink]; exact hw)
  rw [heq]
  refine ⟨?_, ?_, ?_, ?_, ?_, hall.uncovered (by rw [hwdeck]; exact hfree), ?_, ?_, ?_, ?_⟩
  · rw [hall.zone, onDeck_zone, hzone]
  · rw [hall.zone, onDeck_zone, hother]
  · rw [hall.records, hwdeck, hring, taken_records, hr]; rfl
  · have htag : ((onLow d x).deck d).ring.tag = (w.deck d).ring.tag := congrArg (·.ring.tag) hall.fixed
    rw [htag, hwdeck, hring, taken_tag]
  · rw [hlow, ← hstat, ← hdeck d]; exact hover
  · rw [hall.only.other, onDeck_other, hdeck]
  · rw [(hall.quiet hwait).1, onDeck_port, hport]
  · rw [hall.only.tray, onDeck_tray, htray]
  · have hwpart : SamePart (zonesTook z q s) w := (DeckOnly.onDeck d (edgeTaken q) _).part
    exact samePart_trans hkept.part (samePart_trans hwpart hall.only.part)

theorem onZone_otherZone (z : ZoneId) (f : Zone → Zone) (s : State) : (onZone (otherZone z) f s).zone z = s.zone z := by cases z <;> rfl

theorem samePart_onZone (z : ZoneId) (f : Zone → Zone) (s : State) : SamePart s (onZone z f s) := by
  cases z <;> exact ⟨rfl, rfl, rfl, rfl, rfl⟩

theorem marked_port_congr {z : ZoneId} {q : SlotRecord} {n : Zone} {s t : State} (h : s.port = t.port) :
    (marking z q n (crossing z q n s)).port = (marking z q n (crossing z q n t)).port :=
  marking_port_congr (crossing_port_congr h)

/-- A change of the other zone before a take. -/
theorem Taken.before {z : ZoneId} {d : Deck} {q : SlotRecord} {rest : List SlotRecord} {f : Zone → Zone} {s t : State}
    (h : Taken z d q rest (onZone (otherZone z) f s) t)
    (hf : (f (s.zone (otherZone z))).state = (s.zone (otherZone z)).state) : Taken z d q rest s t := by
  have hzone : (onZone (otherZone z) f s).zone z = s.zone z := onZone_otherZone z f s
  have hdeck : ∀ e, (onZone (otherZone z) f s).deck e = s.deck e := onZone_deck _ _ _
  exact {
    zone := h.zone.trans (by rw [hzone])
    otherState := h.otherState.trans (by rw [onZone_same, hf])
    records := h.records
    tag := h.tag
    overtaken := h.overtaken.trans (by rw [hdeck])
    entries := h.entries
    otherDeck := h.otherDeck.trans (hdeck _)
    port := h.port.trans (by rw [hzone]; exact marked_port_congr (onZone_port ..))
    tray := h.tray.trans (onZone_tray ..)
    part := samePart_trans (samePart_onZone ..) h.part }

/-- A change of the other zone after a take. -/
theorem Taken.after {z : ZoneId} {d : Deck} {q : SlotRecord} {rest : List SlotRecord} {f : Zone → Zone} {s t : State}
    (h : Taken z d q rest s t) (hf : (f (t.zone (otherZone z))).state = (t.zone (otherZone z)).state) :
    Taken z d q rest s (onZone (otherZone z) f t) := by
  have hdeck : ∀ e, (onZone (otherZone z) f t).deck e = t.deck e := onZone_deck _ _ _
  exact {
    zone := (onZone_otherZone z f t).trans h.zone
    otherState := (by rw [onZone_same, hf] : _ = (t.zone (Machine.otherZone z)).state).trans h.otherState
    records := by rw [hdeck]; exact h.records
    tag := by rw [hdeck]; exact h.tag
    overtaken := by rw [hdeck]; exact h.overtaken
    entries := by rw [hdeck]; exact h.entries
    otherDeck := (hdeck _).trans h.otherDeck
    port := (onZone_port ..).trans h.port
    tray := (onZone_tray ..).trans h.tray
    part := samePart_trans h.part (samePart_onZone ..) }

/-! ## A block boundary of one zone (R114, R116, R118) -/

/-- A zone whose block has ended (R114). -/
def emptyHanded (n : Zone) : Zone := { n with block := none, runLeft := none, runRight := none }

theorem settleBlock_rests {z : ZoneId} {d : Deck} {s : State} (hsrc : (s.zone z).source = .deck d) (hp : (s.zone z).blockPhase = 0)
    (hst : (s.zone z).state = .stopped ∨ (s.zone z).state = .priming ∨ (s.zone z).state = .paused) :
    settleBlock z s = onZone z emptyHanded s := by
  unfold settleBlock
  rw [deck?_of_source hsrc]
  dsimp only
  rw [if_pos hp, onZone_same]
  rcases hst with hst | hst | hst <;> rw [hst] <;> rfl

theorem settleBlock_active {z : ZoneId} {d : Deck} {s : State} (hsrc : (s.zone z).source = .deck d) (hp : (s.zone z).blockPhase = 0)
    (hst : (s.zone z).state = .playing ∨ (s.zone z).state = .starved) :
    settleBlock z s =
      (if (s.zone z).endTaken ∧ (s.zone z).cue = none then
        if (s.zone z).causes.stop || (s.zone z).causes.switch then onZone z emptyHanded s
        else stopRequest z .rangeEnd false (onZone z emptyHanded s)
      else if (s.zone z).causes.starve then onZone z emptyHanded s
      else askEdge z d (onZone z emptyHanded s)) := by
  unfold settleBlock
  rw [deck?_of_source hsrc]
  dsimp only
  rw [if_pos hp, onZone_same]
  rcases hst with hst | hst <;> rw [hst] <;> rfl

/-- A zone that starves (R116). -/
def starving (n : Zone) : Zone :=
  { n with causes := { n.causes with starve := true }, stats := { n.stats with starves := min 65535 (n.stats.starves + 1) } }

theorem starve_ending {z : ZoneId} {s : State} (h : (s.zone z).causes.stop = true ∨ (s.zone z).causes.switch = true) : starve z s = s :=
  if_pos (by simpa using h)

theorem starve_above {z : ZoneId} {s : State} (hm : mirroring s = false)
    (h : ¬ ((s.zone z).causes.stop = true ∨ (s.zone z).causes.switch = true)) (hr : (s.zone z).ramp ≠ 0) :
    starve z s = onZone z starving s := by
  have hstarve : starve z s = raised z (onZone z starving s) := if_neg (by simpa using h)
  rw [hstarve]
  exact raised_above (unmirrored_onZone hm fun _ => rfl) (by rw [onZone_same]; exact hr)

theorem askEdge_takes {z : ZoneId} {d : Deck} {q : SlotRecord} {rest : List SlotRecord} {s : State}
    (hr : (s.deck d).ring.records = q :: rest) (hq : q.state ≠ .missing ∨ (s.zone z).set.policy = .pass) :
    askEdge z d s = takeRecord z d q s := by
  have hedge : (s.deck d).ring.edge = some q := by rw [Ring.edge, hr]; rfl
  unfold askEdge
  rw [hedge]
  exact if_pos (by simpa [SlotRecord.playable] using hq)

theorem askEdge_starves {z : ZoneId} {d : Deck} {s : State}
    (h : (s.deck d).ring.records = [] ∨
      ((s.deck d).ring.records.head?.map (·.state) = some .missing ∧ (s.zone z).set.policy = .wait)) :
    askEdge z d s = starve z s := by
  unfold askEdge
  split
  · rfl
  · next q hq =>
    rw [Ring.edge] at hq
    refine if_neg ?_
    rcases h with h | ⟨h, hw⟩
    · rw [h] at hq; cases hq
    · rw [hq, Option.map_some, Option.some.injEq] at h
      simp [SlotRecord.playable, h, hw]

/-- A block boundary at which the zone takes the play edge (R69, R115). -/
theorem settleBlock_taken {z : ZoneId} {d : Deck} {q : SlotRecord} {rest : List SlotRecord} {s : State} (hm : mirroring s = false)
    (hsrc : (s.zone z).source = .deck d) (hp : (s.zone z).blockPhase = 0) (ho : (s.zone (otherZone z)).state = .stopped)
    (hst : (s.zone z).state = .playing ∨ (s.zone z).state = .starved) (hend : (s.zone z).endTaken = false ∨ (s.zone z).cue ≠ none)
    (hstarve : (s.zone z).causes.starve = false) (hw : (s.deck d).link.waiting = none) (hr : (s.deck d).ring.records = q :: rest)
    (hq : q.state ≠ .missing ∨ (s.zone z).set.policy = .pass)
    (he : ∀ e ∈ (s.deck d).plan.entries, e.covers ⟨q.addr, q.seg⟩ = true → e.first = q.addr) :
    Taken z d q rest (onZone z emptyHanded s) (settleBlock z s) := by
  have hzone : (onZone z emptyHanded s).zone z = emptyHanded (s.zone z) := onZone_same _ _ _
  have hdeck : ∀ e, (onZone z emptyHanded s).deck e = s.deck e := onZone_deck _ _ _
  have hmore : ¬ ((s.zone z).endTaken = true ∧ (s.zone z).cue = none) := fun h =>
    hend.elim (fun hf => by rw [hf] at h; cases h.1) fun hc => hc h.2
  rw [settleBlock_active hsrc hp hst, if_neg hmore, if_neg (by rw [hstarve]; decide),
    askEdge_takes (by rw [hdeck]; exact hr) (by rw [hzone]; exact hq)]
  refine takeRecord_taken (unmirrored_onZone hm fun _ => rfl) ?_ (by rw [hzone]; exact hstarve) (by rw [onZone_other]; exact ho)
    (by rw [hdeck]; exact hw) (by rw [hdeck]; exact hr) (by rw [hdeck]; exact he)
  rw [hzone]
  rcases hst with hst | hst <;> simp [emptyHanded, hst]

/-! ## A block boundary of both zones (R114, log entry 8) -/

/-- Both zones' boundary, the other STOPPED, where zone `z` takes the play edge. -/
theorem together_taken {z : ZoneId} {d : Deck} {q : SlotRecord} {rest : List SlotRecord} {s : State} (hm : mirroring s = false)
    (hsrc : (s.zone z).source = .deck d) (hp : (s.zone z).blockPhase = 0) (ho : (s.zone (otherZone z)).state = .stopped)
    (hst : (s.zone z).state = .playing ∨ (s.zone z).state = .starved) (hend : (s.zone z).endTaken = false ∨ (s.zone z).cue ≠ none)
    (hstarve : (s.zone z).causes.starve = false) (hw : (s.deck d).link.waiting = none) (hr : (s.deck d).ring.records = q :: rest)
    (hq : q.state ≠ .missing ∨ (s.zone z).set.policy = .pass)
    (he : ∀ e ∈ (s.deck d).plan.entries, e.covers ⟨q.addr, q.seg⟩ = true → e.first = q.addr) :
    Taken z d q rest (onZone z emptyHanded s) (together (settleBlock .one) (settleBlock .two) s) := by
  cases z with
  | one =>
    have htaken := settleBlock_taken hm hsrc hp ho hst hend hstarve hw hr hq he
    obtain ⟨m, hrest, hm'⟩ := rest_settleBlock (y := .two) (s := settleBlock .one s) (htaken.otherState.trans ho)
    rw [together_of_quiet _ _ _ (.inr (Nat.le_of_eq (by rw [hrest, onZone_port]))), hrest]
    exact Taken.after (f := fun _ => m) htaken hm'.state
  | two =>
    obtain ⟨m, hrest, hm'⟩ := rest_settleBlock (y := .one) (s := s) ho
    rw [together_of_quiet _ _ _ (.inl (Nat.le_of_eq (by rw [hrest, onZone_port]))), hrest]
    have htaken := settleBlock_taken (z := .two) (s := onZone .one (fun _ => m) s) hm hsrc hp (hm'.state.trans ho) hst hend hstarve hw hr
      hq he
    exact Taken.before (f := fun _ => m) htaken hm'.state

/-- A STOPPED zone at rest has no block to end (R113, R114). -/
theorem settleBlock_idle {y : ZoneId} {s : State} (h : (s.zone y).state = .stopped) (hrest : (s.zone y).atRest) : settleBlock y s = s := by
  obtain ⟨hb, hl, hr, -⟩ := hrest
  have hempty : onZone y emptyHanded s = s := onZone_id y _ s (by
    cases hn : s.zone y
    rw [hn] at hb hl hr
    dsimp only at hb hl hr
    subst hb hl hr
    rfl)
  cases hsrc : (s.zone y).source with
  | deck d =>
    by_cases hp : (s.zone y).blockPhase = 0
    · rw [settleBlock_rests hsrc hp (.inl h), hempty]
    · exact settleBlock_inside (Nat.pos_of_ne_zero hp)
  | mirror => unfold settleBlock Zone.deck?; rw [hsrc]
  | none => unfold settleBlock Zone.deck?; rw [hsrc]

/-- Both zones' boundary, the other at rest before and after. -/
theorem together_alone {z : ZoneId} {s t : State} (ho : (s.zone (otherZone z)).state = .stopped) (hrest : (s.zone (otherZone z)).atRest)
    (h : settleBlock z s = t) (hstill : t.zone (otherZone z) = s.zone (otherZone z)) :
    together (settleBlock .one) (settleBlock .two) s = t := by
  subst h
  cases z with
  | one =>
    have hsame : settleBlock .two (settleBlock .one s) = settleBlock .one s :=
      settleBlock_idle (y := .two) (by rw [show (settleBlock .one s).zone .two = _ from hstill]; exact ho)
        (by rw [show (settleBlock .one s).zone .two = _ from hstill]; exact hrest)
    rw [together_of_quiet _ _ _ (.inr (Nat.le_of_eq (by rw [hsame]))), hsame]
  | two =>
    have hsame : settleBlock .one s = s := settleBlock_idle (y := .one) ho hrest
    rw [together_of_quiet _ _ _ (.inl (Nat.le_of_eq (by rw [hsame]))), hsame]

/-! ## BLOCK_BOUNDARY (R110, R114, log entry 8) -/

theorem blockBoundary_undue {s : State} (hs : Settled s) (h : s.stage ≠ .edge ∨ s.zone1.blockPhase ≠ 0) :
    exec .blockBoundary s = .next s := by
  have hsame : (if boundaryDue s then toSettled s else s) = s := if_neg (by rcases h with h | h <;> simp [boundaryDue, h])
  exact (event_settled s (fun s => if boundaryDue s then toSettled s else s) hs (congrArg State.standby hsame)).trans (congrArg _ hsame)

theorem blockBoundary_made {s t : State} (hs : Settled s) (hstage : s.stage = .edge) (hp : s.zone1.blockPhase = 0)
    (h : together (settleBlock .one) (settleBlock .two) s = t) (hstandby : t.standby = s.standby) :
    exec .blockBoundary s = .next { t with stage := .settled } := by
  have hmade : (if boundaryDue s then toSettled s else s) = { t with stage := .settled } := by
    rw [if_pos (by simp [boundaryDue, hstage, hp])]
    unfold toSettled
    rw [hstage, h]
  exact (event_settled s (fun s => if boundaryDue s then toSettled s else s) hs ((congrArg State.standby hmade).trans hstandby)).trans
    (congrArg _ hmade)

/-- A boundary that changes the zone alone, the other at rest. -/
theorem blockBoundary_zone {z : ZoneId} {s : State} (hs : Settled s) (hstage : s.stage = .edge) (hp : s.zone1.blockPhase = 0)
    (ho : (s.zone (otherZone z)).state = .stopped) (hrest : (s.zone (otherZone z)).atRest) {f : Zone → Zone}
    (h : settleBlock z s = onZone z f s) : exec .blockBoundary s = .next { onZone z f s with stage := .settled } :=
  blockBoundary_made hs hstage hp (together_alone ho hrest h (onZone_other ..)) (onZone_standby ..)

theorem ends_iff (n : Zone) : (n.causes.stop || n.causes.switch) = true ↔ n.causes.stop = true ∨ n.causes.switch = true := by simp

/-- A zone told to stop at the end of its range, where no switch is due (R118, R119). -/
def rangeEnding (n : Zone) : Zone :=
  { n with causes := { n.causes with stop := true }, stopReason := .rangeEnd, pendingRange := none, pendingCue := none }

theorem stopping_rangeEnd {n : Zone} (h : n.causes.switch = false) : stopping .rangeEnd false n = rangeEnding n := by
  unfold stopping rangeEnding
  rw [Bool.or_false, ← h]

/-- Past the last block without a cue (R118). -/
theorem settleBlock_ends {z : ZoneId} {d : Deck} {s : State} (hm : mirroring s = false) (hsrc : (s.zone z).source = .deck d)
    (hp : (s.zone z).blockPhase = 0) (hst : (s.zone z).state = .playing ∨ (s.zone z).state = .starved)
    (hend : (s.zone z).endTaken = true) (hcue : (s.zone z).cue = none) :
    (((s.zone z).causes.stop = true ∨ (s.zone z).causes.switch = true) → settleBlock z s = onZone z emptyHanded s) ∧
      (¬ ((s.zone z).causes.stop = true ∨ (s.zone z).causes.switch = true) → 0 < (s.zone z).ramp →
        settleBlock z s = awaitFlush d (onZone z (fun n => rangeEnding (emptyHanded n)) s)) := by
  have hactive : (s.zone z).state ≠ .stopped := by rcases hst with hst | hst <;> rw [hst] <;> decide
  rw [settleBlock_active hsrc hp hst, if_pos ⟨hend, hcue⟩]
  refine ⟨fun h => if_pos ((ends_iff _).2 h), fun h hr => ?_⟩
  have hempty : mirroring (onZone z emptyHanded s) = false := unmirrored_onZone hm fun _ => rfl
  rw [if_neg (fun hn => h ((ends_iff _).1 hn)), stopRequest_above (d := d) hempty (by rw [onZone_same]; exact hsrc)
    (by rw [onZone_same]; exact hactive) (by rw [onZone_same]; exact Nat.ne_of_gt hr), onZone_onZone]
  refine congrArg (awaitFlush d) (onZone_congr (stopping_rangeEnd ?_))
  exact Bool.eq_false_iff.2 fun hsw => h (.inr hsw)

/-- At an empty edge, or a MISSING one under WAIT (R116). -/
theorem settleBlock_starves {z : ZoneId} {d : Deck} {s : State} (hm : mirroring s = false) (hsrc : (s.zone z).source = .deck d)
    (hp : (s.zone z).blockPhase = 0) (hst : (s.zone z).state = .playing ∨ (s.zone z).state = .starved)
    (hend : (s.zone z).endTaken = false ∨ (s.zone z).cue ≠ none) :
    ((s.zone z).causes.starve = true → settleBlock z s = onZone z emptyHanded s) ∧
      ((s.zone z).causes.starve = false →
        (s.deck d).ring.records = [] ∨
          ((s.deck d).ring.records.head?.map (·.state) = some .missing ∧ (s.zone z).set.policy = .wait) →
        (((s.zone z).causes.stop = true ∨ (s.zone z).causes.switch = true) → settleBlock z s = onZone z emptyHanded s) ∧
        (¬ ((s.zone z).causes.stop = true ∨ (s.zone z).causes.switch = true) → 0 < (s.zone z).ramp →
          settleBlock z s = onZone z (fun n => starving (emptyHanded n)) s)) := by
  have hzone : (onZone z emptyHanded s).zone z = emptyHanded (s.zone z) := onZone_same _ _ _
  have hmore : ¬ ((s.zone z).endTaken = true ∧ (s.zone z).cue = none) := fun h =>
    hend.elim (fun hf => by rw [hf] at h; cases h.1) fun hc => hc h.2
  rw [settleBlock_active hsrc hp hst, if_neg hmore]
  refine ⟨fun h => if_pos h, fun h hedge => ?_⟩
  rw [if_neg (by rw [h]; decide), askEdge_starves (by rw [onZone_deck, hzone]; exact hedge)]
  refine ⟨fun hending => starve_ending (by rw [hzone]; exact hending), fun hending hr => ?_⟩
  have hempty : mirroring (onZone z emptyHanded s) = false := unmirrored_onZone hm fun _ => rfl
  rw [starve_above hempty (by rw [hzone]; exact hending) (by rw [hzone]; exact Nat.ne_of_gt hr),
    onZone_onZone]

/-- A take in O58 (R69, R88, R115). -/
theorem blockBoundary_takes {z : ZoneId} {d : Deck} {q : SlotRecord} {rest : List SlotRecord} {s : State} (hs : Settled s)
    (hstage : s.stage = .edge) (hp1 : s.zone1.blockPhase = 0) (hm : mirroring s = false)
    (hsrc : (s.zone z).source = .deck d) (hp : (s.zone z).blockPhase = 0) (ho : (s.zone (otherZone z)).state = .stopped)
    (hst : (s.zone z).state = .playing ∨ (s.zone z).state = .starved) (hend : (s.zone z).endTaken = false ∨ (s.zone z).cue ≠ none)
    (hstarve : (s.zone z).causes.starve = false) (hw : (s.deck d).link.waiting = none) (hr : (s.deck d).ring.records = q :: rest)
    (hq : q.state ≠ .missing ∨ (s.zone z).set.policy = .pass)
    (he : ∀ e ∈ (s.deck d).plan.entries, e.covers ⟨q.addr, q.seg⟩ = true → e.first = q.addr) :
    ∃ t, exec .blockBoundary s = .next { t with stage := .settled } ∧ Taken z d q rest (onZone z emptyHanded s) t := by
  have htaken := together_taken hm hsrc hp ho hst hend hstarve hw hr hq he
  exact ⟨_, blockBoundary_made hs hstage hp1 rfl (htaken.part.2.2.1.trans (onZone_standby ..)), htaken⟩

/-- Settles O58: what a block boundary takes from the ring, and when it ends or starves its zone instead. -/
theorem blockBoundaryTakesTheEdge : Obligations.BlockBoundaryTakesTheEdge := by
  intro z d s hs
  refine ⟨blockBoundary_undue hs, fun hstage hp1 hp2 hsrc ho hmirror => ?_⟩
  have hm := mirroring_of_ne hmirror
  have hp : (s.zone z).blockPhase = 0 := match z with | .one => hp1 | .two => hp2
  intro n r
  refine ⟨fun hst hend hstarve hw q rest hr hq he => ?_, fun hrest => ?_⟩
  · intro range crossed marked
    obtain ⟨t, hexec, htaken⟩ := blockBoundary_takes hs hstage hp1 hm hsrc hp ho hst hend hstarve hw hr hq he
    have hzone : (onZone z emptyHanded s).zone z = emptyHanded n := onZone_same _ _ _
    have hdeck : ∀ e, (onZone z emptyHanded s).deck e = s.deck e := onZone_deck _ _ _
    have hcrossed : crossed s = crossing z q n s := by
      simp only [crossed, crossing]
      cases n.cue with
      | none => rw [Option.elim_none, ite_self]
      | some c => rfl
    refine ⟨_, hexec, ?_, ?_, ?_, ?_, ?_, ?_, ?_, htaken.tray.trans (onZone_tray ..), ?_, rfl⟩
    · rw [withStage_zone .settled t, htaken.zone, hzone]; rfl
    · rw [withStage_deck .settled t]; exact htaken.records
    · rw [withStage_deck .settled t]; exact htaken.tag
    · rw [withStage_deck .settled t, htaken.overtaken, hdeck]
    · rw [withStage_deck .settled t]; exact htaken.entries
    · rw [withStage_deck .settled t, htaken.otherDeck, hdeck]
    · rw [hcrossed]
      refine htaken.port.trans ?_
      rw [hzone]
      exact marked_port_congr (n := n) (onZone_port ..)
    · exact samePart_staged .settled (samePart_trans (samePart_onZone ..) htaken.part)
  · intro settled ending
    have hmade : ∀ {f : Zone → Zone}, settleBlock z s = onZone z f s → exec .blockBoundary s = .next { onZone z f s with stage := .settled } :=
      blockBoundary_zone hs hstage hp1 ho hrest
    refine ⟨fun hst => hmade (settleBlock_rests hsrc hp hst), fun hst => ⟨fun hend hcue => ?_, fun hend => ?_⟩⟩
    · obtain ⟨hending, hends⟩ := settleBlock_ends hm hsrc hp hst hend hcue
      refine ⟨fun h => hmade (hending h), fun h hr => ?_⟩
      have hmake := blockBoundary_made hs hstage hp1 (together_alone ho hrest (hends h hr) (by rw [awaitFlush_zone, onZone_other]))
        ((onPlan_standby ..).trans (onZone_standby ..))
      refine hmake.trans ?_
      cases z <;> cases d <;> rfl
    · obtain ⟨hstarved, hstarves⟩ := settleBlock_starves hm hsrc hp hst hend
      refine ⟨fun h => hmade (hstarved h), fun h hedge => ?_⟩
      obtain ⟨hending, hfresh⟩ := hstarves h hedge
      refine ⟨fun h => hmade (hending h), fun h hr => (hmade (hfresh h hr)).trans ?_⟩
      cases z <;> rfl

end Sys2Proof.Proofs
end
